-- ==== Sys2Proof/Word.lean ====
section
/-! DEFINITION. The byte, and the one update of a fixed-length vector that every block uses. -/

namespace Sys2Proof

/-- One byte, as software and the memory controller see it. -/
abbrev Byte := BitVec 8

/-- `v` with entry `i` replaced by `x`. -/
def putAt {α : Type} {n : Nat} (v : Vector α n) (i : Fin n) (x : α) : Vector α n :=
  v.set i.val x i.isLt

end Sys2Proof
end

