-- ==== Sys2Proof/Config.lean ====
section
/-! DEFINITION. What the manual leaves open and an instruction's reply still has to hold: free values, constants
with no body, so that nothing proved can lean on what they are. -/

namespace Sys2Proof

/-- Which of its three uses of a profile an IN_USE reply names (R174). -/
inductive InUse where
  | bound
  | pending
  | slotDefault
  deriving DecidableEq, Repr

/-- The byte by which an IN_USE payload tells "which of the three it was" (R174 names it, no rule encodes it).
Free value, log 16. -/
opaque Config.inUseCode : InUse → Byte

/-- The scheme nibble of an unused rating position that the part writes: R154 and R159 state its value nibble, 15,
and no rule states its scheme. Free value, log 15. -/
opaque Config.unusedScheme : BitVec 4

end Sys2Proof
end

