-- ==== Sys2Proof/Machine/Bytes.lean ====
section
/-! DEFINITION. Little-endian bytes: fields read out of a record and fields written into a reply (R200, R201). -/

namespace Sys2Proof.Machine

/-- A 2-byte field, little-endian. -/
def le16 (x : BitVec 16) : List Byte :=
  [x.extractLsb' 0 8, x.extractLsb' 8 8]

/-- A 4-byte field, little-endian. -/
def le32 (x : BitVec 32) : List Byte :=
  [x.extractLsb' 0 8, x.extractLsb' 8 8, x.extractLsb' 16 8, x.extractLsb' 24 8]

/-- A number written in one byte. -/
def num8 (n : Nat) : List Byte := [BitVec.ofNat 8 n]

/-- A number written in two bytes. -/
def num16 (n : Nat) : List Byte := le16 (BitVec.ofNat 16 n)

/-- A number written in four bytes. -/
def num32 (n : Nat) : List Byte := le32 (BitVec.ofNat 32 n)

/-- Byte `i` of `bs`, 0 beyond its end. -/
def byteAt (bs : List Byte) (i : Nat) : Byte := bs.getD i 0

/-- The 2-byte field at offset `i`. -/
def halfAt (bs : List Byte) (i : Nat) : BitVec 16 := byteAt bs (i + 1) ++ byteAt bs i

/-- The 4-byte field at offset `i`. -/
def wordAt (bs : List Byte) (i : Nat) : BitVec 32 :=
  byteAt bs (i + 3) ++ byteAt bs (i + 2) ++ byteAt bs (i + 1) ++ byteAt bs i

/-- The `n` bytes at offset `i`. -/
def bytesAt (n : Nat) (bs : List Byte) (i : Nat) : Vector Byte n :=
  Vector.ofFn fun k => byteAt bs (i + k.val)

/-- `bs` cut or filled with zero bytes to length `n`. -/
def fit (n : Nat) (bs : List Byte) : List Byte :=
  (bs ++ List.replicate n 0).take n

/-- Byte `i` (0 to 3) of a beat's 32 data lines. -/
def beatByte (data : BitVec 32) (i : Nat) : Byte := data.extractLsb' (8 * i) 8

/-- One bit as a byte flag. -/
def flagByte (b : Bool) : Byte := if b then 1 else 0

/-- The opening byte of a payload: its yes/no items as bits from bit 0 upward (R201). -/
def openingByte : List Bool → Byte
  | [] => 0
  | b :: bs => (openingByte bs <<< 1) ||| flagByte b

end Sys2Proof.Machine
end

