-- ==== Sys2Proof/Syntax.lean ====
section
/-! DEFINITION. The commands of the part: one constructor for each row of spec/opcode_table.json, with the operands
its rule gives it. -/

namespace Sys2Proof

/-- Direction of a column command or of a data beat. -/
inductive Dir where
  | read
  | write
  deriving DecidableEq, Repr

/-- The host-side command, bank and address lines presented at one command (R2). `true` is the high level. -/
structure Lines where
  csN : Bool
  rasN : Bool
  casN : Bool
  weN : Bool
  ba : BitVec 3
  a : BitVec 16
  deriving DecidableEq, Repr

/-- What every command record carries beside its command's own fields (R40): the lane it is written to, the body
length byte, the eight PIN positions and the tag. The toggle and the closing mark are those that close it. -/
structure Header where
  lane : Fin 4
  len : Byte
  pin : Vector Byte 8
  tag : BitVec 16
  deriving DecidableEq, Repr

/-- The fields of an event core (R58, R200): bytes 17 to 19 are not read and not carried. -/
structure EventCore where
  service : BitVec 16
  event : BitVec 16
  start : BitVec 32
  duration : BitVec 32
  version : Byte
  category : Byte
  flags : Byte
  rating0 : Byte
  rating1 : Byte
  deriving DecidableEq, Repr

/-- The settings fields of PROFILE_WRITE in the order of R171. -/
structure ProfileFields where
  ceilings : Vector Byte 4
  blocked : Byte
  unrated : Byte
  mode : Byte
  weekday : BitVec 16
  weekend : BitVec 16
  weekly : BitVec 16
  carryCap : Byte
  warn : Byte
  extLimit : Byte
  weights : Vector Byte 4
  deriving DecidableEq, Repr

/-- One curfew window position of PROFILE_CURFEW (R172, R201). -/
structure CurfewField where
  days : Byte
  start : BitVec 16
  stop : BitVec 16
  deriving DecidableEq, Repr

/-- The commands. -/
inductive Instr where
  -- the channel (R2)
  /-- OPEN: bank lines and address lines; the row is HA0-HA15. -/
  | bankOpen (ba : BitVec 3) (a : BitVec 16)
  /-- READ: bank lines and address lines; column HA0-HA9, auto-close line 11, burst-select line 13. -/
  | readBurst (ba : BitVec 3) (a : BitVec 16)
  /-- WRITE: as READ. -/
  | writeBurst (ba : BitVec 3) (a : BitVec 16)
  /-- CLOSE: line 10 low. -/
  | bankClose (ba : BitVec 3) (a : BitVec 16)
  /-- CLOSE-ALL: line 10 high. -/
  | closeAll (ba : BitVec 3) (a : BitVec 16)
  /-- REFRESH: clock enable remaining high. -/
  | refresh (ba : BitVec 3) (a : BitVec 16)
  /-- MODE LOAD: register number in bank lines 0-1, value in HA0-HA13. -/
  | modeLoad (ba : BitVec 3) (a : BitVec 16)
  /-- REST ENTRY: refresh command presented as clock enable falls. -/
  | restEntry (ba : BitVec 3) (a : BitVec 16)
  /-- REST EXIT: clock enable rises in REST. -/
  | restExit
  /-- IDLE ENTRY: clock enable falls with any other command, a no-op or a deselect. -/
  | idleEntry (lines : Lines)
  /-- IDLE EXIT: clock enable rises in IDLE-DOWN. -/
  | idleExit
  /-- Assertion of the DRAM reset line (R22). Its release is no event and has no row: how long the line stays asserted is
  an input that State holds (log 9). -/
  | channelReset
  /-- One data beat (R16, R17): its direction, the place on the outstanding list of the burst it belongs to (a place
  past the list's end is a beat of no tracked burst), the data driven by its source (byte `i` of the beat in bits
  `8i` to `8i + 7`) and the host's data mask (bit `i` masks byte `i`). -/
  | dataBeat (dir : Dir) (index : Nat) (data : BitVec 32) (mask : BitVec 4)
  -- the PIN lockout (R99)
  | lockoutExpiry
  -- records taken by a lane (R47)
  /-- A record whose code names no command. -/
  | unknownCommand (h : Header) (code : Byte)
  | readEvent (h : Header) (service : BitVec 16) (time : BitVec 32)
  | ratingCheck (h : Header) (profile : Byte) (service : BitVec 16) (time : BitVec 32)
  | readProfile (h : Header) (profile part : Byte)
  | readUsage (h : Header) (profile : Byte)
  | readSlot (h : Header) (slot : Byte)
  | readService (h : Header) (service : BitVec 16)
  | readCapture (h : Header)
  | readWindow (h : Header) (index part : Byte)
  | eventNotice (h : Header) (core : EventCore)
  | eventWithdraw (h : Header) (service event : BitVec 16)
  | serviceEventsClear (h : Header) (service : BitVec 16)
  | ingestBegin (h : Header) (start : BitVec 32) (count : BitVec 16)
  | ingestAbort (h : Header)
  /-- SLOT_TUNE: the kind code and the 16 bytes of the item (R201). -/
  | slotTune (h : Header) (slot kind : Byte) (item : Vector Byte 16)
  | slotBind (h : Header) (slot profile : Byte)
  | slotUnlock (h : Header) (slot : Byte)
  | slotRelock (h : Header) (slot : Byte)
  | clockSet (h : Header) (wall : BitVec 32) (zone : BitVec 16)
  | attentionSet (h : Header) (causes : BitVec 16)
  | attentionClear (h : Header) (causes : BitVec 16)
  | captureClear (h : Header)
  | profileWrite (h : Header) (profile : Byte) (fields : ProfileFields)
  | profileCurfew (h : Header) (profile count : Byte) (windows : Vector CurfewField 4)
  | profileSuspend (h : Header) (profile : Byte)
  | profileResume (h : Header) (profile : Byte)
  | profileRemove (h : Header) (profile : Byte)
  | serviceWrite (h : Header) (service : BitVec 16) (rating0 rating1 category allow block : Byte)
  | serviceRemove (h : Header) (service : BitVec 16)
  | allowanceGrant (h : Header) (profile minutes : Byte)
  | usageReset (h : Header) (profile week : Byte)
  | pinSet (h : Header) (newPin : Vector Byte 8)
  | lanePermit (h : Header) (lane classes : Byte)
  | settingsWrite (h : Header) (hold rollover weekend weekStart : Byte) (defaults : Vector Byte 4)
  | windowDefine (h : Header) (index kind : Byte) (base limit : BitVec 32) (slot guard : Byte)
  | windowRemove (h : Header) (index : Byte)
  | windowLock (h : Header)
  | fillTileWrite (h : Header) (half : Byte) (bytes : Vector Byte 32)
  -- seconds and timers
  | accountingTick
  /-- The extension of child profile `child + 1` reaches its end. -/
  | extensionExpiry (child : Fin 7)
  | boundaryExpiry (slot : Fin 4)
  | holdExpiry (slot : Fin 4)
  | unlockExpiry (slot : Fin 4)
  | pendingCountdown (slot : Fin 4)
  | countdownExpiry (slot : Fin 4)
  | recordingLengthExpiry (slot : Fin 4)
  /-- The usage record of child profile `child + 1` is changed and 60 seconds old. -/
  | usageAgeExpiry (child : Fin 7)
  -- store, resets and start-up
  | storeWriteComplete
  | storeWriteFail
  | partReset
  /-- Release of the part reset input: the levels of STRAP_ARR, STRAP_CB0-7 and STRAP_FCLR sampled at start-up. -/
  | partResetRelease (arr : Bool) (cb : Byte) (fclr : Bool)
  /-- End of start-up: the order in which the lanes take their held records, one for each name (R44 gives none; what is
  still held follows in number order). -/
  | startupEnd (order : List (Fin 4))
  | startupSecond
  deriving DecidableEq, Repr

end Sys2Proof
end

