-- ==== Sys2Proof/Decode.lean ====
section
/-! DEFINITION. The command records of the lanes, read from and written to their 64 bytes (R40, R200, R201), and the
host's reading of a table word. The opcode table gives no row any bits, so no word spells a command. -/

namespace Sys2Proof

open Sys2Proof.Machine

/-- Body length of each command code; `none` where the code names no command, 0x00 and 0x2F included (R201). -/
def bodyLength (code : Byte) : Option Nat :=
  match code.toNat with
  | 0x10 => some 6
  | 0x11 => some 7
  | 0x12 => some 2
  | 0x13 => some 1
  | 0x14 => some 1
  | 0x15 => some 2
  | 0x16 => some 0
  | 0x17 => some 2
  | 0x20 => some 20
  | 0x21 => some 4
  | 0x22 => some 2
  | 0x23 => some 6
  | 0x24 => some 0
  | 0x30 => some 18
  | 0x31 => some 2
  | 0x32 => some 1
  | 0x33 => some 1
  | 0x40 => some 6
  | 0x50 => some 2
  | 0x51 => some 2
  | 0x52 => some 0
  | 0x60 => some 21
  | 0x61 => some 22
  | 0x62 => some 1
  | 0x63 => some 1
  | 0x64 => some 1
  | 0x65 => some 7
  | 0x66 => some 2
  | 0x67 => some 2
  | 0x68 => some 2
  | 0x69 => some 8
  | 0x6A => some 2
  | 0x6B => some 8
  | 0x70 => some 12
  | 0x71 => some 1
  | 0x72 => some 0
  | 0x73 => some 33
  | _ => none

/-- The 20 bytes of an event core, bytes 17 to 19 zero (R200). -/
def EventCore.bytes (c : EventCore) : List Byte :=
  le16 c.service ++ le16 c.event ++ le32 c.start ++ le32 c.duration
    ++ [c.version, c.category, c.flags, c.rating0, c.rating1, 0, 0, 0]

/-- The event core held in the bytes from offset `i` (R200). -/
def eventCoreAt (bs : List Byte) (i : Nat) : EventCore where
  service := halfAt bs i
  event := halfAt bs (i + 2)
  start := wordAt bs (i + 4)
  duration := wordAt bs (i + 8)
  version := byteAt bs (i + 12)
  category := byteAt bs (i + 13)
  flags := byteAt bs (i + 14)
  rating0 := byteAt bs (i + 15)
  rating1 := byteAt bs (i + 16)

/-- The 20 settings bytes of PROFILE_WRITE (R171, R201). -/
def ProfileFields.bytes (f : ProfileFields) : List Byte :=
  f.ceilings.toList ++ [f.blocked, f.unrated, f.mode] ++ le16 f.weekday ++ le16 f.weekend ++ le16 f.weekly
    ++ [f.carryCap, f.warn, f.extLimit] ++ f.weights.toList

/-- The settings fields held in the bytes from offset `i`. -/
def profileFieldsAt (bs : List Byte) (i : Nat) : ProfileFields where
  ceilings := bytesAt 4 bs i
  blocked := byteAt bs (i + 4)
  unrated := byteAt bs (i + 5)
  mode := byteAt bs (i + 6)
  weekday := halfAt bs (i + 7)
  weekend := halfAt bs (i + 9)
  weekly := halfAt bs (i + 11)
  carryCap := byteAt bs (i + 13)
  warn := byteAt bs (i + 14)
  extLimit := byteAt bs (i + 15)
  weights := bytesAt 4 bs (i + 16)

/-- The 5 bytes of a curfew window (R201). -/
def CurfewField.bytes (w : CurfewField) : List Byte :=
  w.days :: (le16 w.start ++ le16 w.stop)

/-- The curfew window held in the bytes from offset `i`. -/
def curfewFieldAt (bs : List Byte) (i : Nat) : CurfewField where
  days := byteAt bs i
  start := halfAt bs (i + 1)
  stop := halfAt bs (i + 3)

/-- What a record command writes: its header, its code and its body bytes (R200, R201); `none` for the commands that
are not records. -/
def recordParts : Instr → Option (Header × Byte × List Byte)
  | .unknownCommand h code => some (h, code, [])
  | .readEvent h service time => some (h, 0x10, le16 service ++ le32 time)
  | .ratingCheck h profile service time => some (h, 0x11, profile :: (le16 service ++ le32 time))
  | .readProfile h profile part => some (h, 0x12, [profile, part])
  | .readUsage h profile => some (h, 0x13, [profile])
  | .readSlot h slot => some (h, 0x14, [slot])
  | .readService h service => some (h, 0x15, le16 service)
  | .readCapture h => some (h, 0x16, [])
  | .readWindow h index part => some (h, 0x17, [index, part])
  | .eventNotice h core => some (h, 0x20, core.bytes)
  | .eventWithdraw h service event => some (h, 0x21, le16 service ++ le16 event)
  | .serviceEventsClear h service => some (h, 0x22, le16 service)
  | .ingestBegin h start count => some (h, 0x23, le32 start ++ le16 count)
  | .ingestAbort h => some (h, 0x24, [])
  | .slotTune h slot kind item => some (h, 0x30, slot :: kind :: item.toList)
  | .slotBind h slot profile => some (h, 0x31, [slot, profile])
  | .slotUnlock h slot => some (h, 0x32, [slot])
  | .slotRelock h slot => some (h, 0x33, [slot])
  | .clockSet h wall zone => some (h, 0x40, le32 wall ++ le16 zone)
  | .attentionSet h causes => some (h, 0x50, le16 causes)
  | .attentionClear h causes => some (h, 0x51, le16 causes)
  | .captureClear h => some (h, 0x52, [])
  | .profileWrite h profile fields => some (h, 0x60, profile :: fields.bytes)
  | .profileCurfew h profile count windows =>
      some (h, 0x61, profile :: count :: (windows[0].bytes ++ windows[1].bytes ++ windows[2].bytes ++ windows[3].bytes))
  | .profileSuspend h profile => some (h, 0x62, [profile])
  | .profileResume h profile => some (h, 0x63, [profile])
  | .profileRemove h profile => some (h, 0x64, [profile])
  | .serviceWrite h service rating0 rating1 category allow block =>
      some (h, 0x65, le16 service ++ [rating0, rating1, category, allow, block])
  | .serviceRemove h service => some (h, 0x66, le16 service)
  | .allowanceGrant h profile minutes => some (h, 0x67, [profile, minutes])
  | .usageReset h profile week => some (h, 0x68, [profile, week])
  | .pinSet h newPin => some (h, 0x69, newPin.toList)
  | .lanePermit h lane classes => some (h, 0x6A, [lane, classes])
  | .settingsWrite h hold rollover weekend weekStart defaults =>
      some (h, 0x6B, [hold, rollover, weekend, weekStart] ++ defaults.toList)
  | .windowDefine h index kind base limit slot guard =>
      some (h, 0x70, [index, kind] ++ le32 base ++ le32 limit ++ [slot, guard])
  | .windowRemove h index => some (h, 0x71, [index])
  | .windowLock h => some (h, 0x72, [])
  | .fillTileWrite h half bytes => some (h, 0x73, half :: bytes.toList)
  | .bankOpen _ _ | .readBurst _ _ | .writeBurst _ _ | .bankClose _ _ | .closeAll _ _ | .refresh _ _
  | .modeLoad _ _ | .restEntry _ _ | .restExit | .idleEntry _ | .idleExit | .channelReset
  | .dataBeat _ _ _ _ | .lockoutExpiry | .accountingTick | .extensionExpiry _ | .boundaryExpiry _
  | .holdExpiry _ | .unlockExpiry _ | .pendingCountdown _ | .countdownExpiry _ | .recordingLengthExpiry _
  | .usageAgeExpiry _ | .storeWriteComplete | .storeWriteFail | .partReset | .partResetRelease _ _ _
  | .startupEnd _ | .startupSecond => none

/-- The 64 bytes of a command record (R200), closed with the toggle given and the mark 0x5A. Body bytes past the
command's own are zero. -/
def recordBytes (h : Header) (code : Byte) (body : List Byte) (toggle : Bool) : List Byte :=
  code :: h.len :: (h.pin.toList ++ fit 50 body ++ le16 h.tag ++ [flagByte toggle, 0x5A])

/-- The record bytes of a record command. -/
def encodeRecord (i : Instr) (toggle : Bool) : Option (List Byte) :=
  (recordParts i).map fun p => recordBytes p.1 p.2.1 p.2.2 toggle

/-- The header of the record held in 64 staging bytes of a lane (R48, R200). -/
def headerAt (lane : Fin 4) (bs : List Byte) : Header where
  lane := lane
  len := byteAt bs 1
  pin := bytesAt 8 bs 2
  tag := halfAt bs 60

/-- The command a lane reads from the 64 bytes of its staging buffer: total, and rejecting by name every code that
names no command (R47 step 1, R201). -/
def decodeRecord (lane : Fin 4) (bs : List Byte) : Instr :=
  let h := headerAt lane bs
  match (byteAt bs 0).toNat with
  | 0x10 => .readEvent h (halfAt bs 10) (wordAt bs 12)
  | 0x11 => .ratingCheck h (byteAt bs 10) (halfAt bs 11) (wordAt bs 13)
  | 0x12 => .readProfile h (byteAt bs 10) (byteAt bs 11)
  | 0x13 => .readUsage h (byteAt bs 10)
  | 0x14 => .readSlot h (byteAt bs 10)
  | 0x15 => .readService h (halfAt bs 10)
  | 0x16 => .readCapture h
  | 0x17 => .readWindow h (byteAt bs 10) (byteAt bs 11)
  | 0x20 => .eventNotice h (eventCoreAt bs 10)
  | 0x21 => .eventWithdraw h (halfAt bs 10) (halfAt bs 12)
  | 0x22 => .serviceEventsClear h (halfAt bs 10)
  | 0x23 => .ingestBegin h (wordAt bs 10) (halfAt bs 14)
  | 0x24 => .ingestAbort h
  | 0x30 => .slotTune h (byteAt bs 10) (byteAt bs 11) (bytesAt 16 bs 12)
  | 0x31 => .slotBind h (byteAt bs 10) (byteAt bs 11)
  | 0x32 => .slotUnlock h (byteAt bs 10)
  | 0x33 => .slotRelock h (byteAt bs 10)
  | 0x40 => .clockSet h (wordAt bs 10) (halfAt bs 14)
  | 0x50 => .attentionSet h (halfAt bs 10)
  | 0x51 => .attentionClear h (halfAt bs 10)
  | 0x52 => .captureClear h
  | 0x60 => .profileWrite h (byteAt bs 10) (profileFieldsAt bs 11)
  | 0x61 => .profileCurfew h (byteAt bs 10) (byteAt bs 11)
      #v[curfewFieldAt bs 12, curfewFieldAt bs 17, curfewFieldAt bs 22, curfewFieldAt bs 27]
  | 0x62 => .profileSuspend h (byteAt bs 10)
  | 0x63 => .profileResume h (byteAt bs 10)
  | 0x64 => .profileRemove h (byteAt bs 10)
  | 0x65 => .serviceWrite h (halfAt bs 10) (byteAt bs 12) (byteAt bs 13) (byteAt bs 14) (byteAt bs 15) (byteAt bs 16)
  | 0x66 => .serviceRemove h (halfAt bs 10)
  | 0x67 => .allowanceGrant h (byteAt bs 10) (byteAt bs 11)
  | 0x68 => .usageReset h (byteAt bs 10) (byteAt bs 11)
  | 0x69 => .pinSet h (bytesAt 8 bs 10)
  | 0x6A => .lanePermit h (byteAt bs 10) (byteAt bs 11)
  | 0x6B => .settingsWrite h (byteAt bs 10) (byteAt bs 11) (byteAt bs 12) (byteAt bs 13) (bytesAt 4 bs 14)
  | 0x70 => .windowDefine h (byteAt bs 10) (byteAt bs 11) (wordAt bs 12) (wordAt bs 16) (byteAt bs 20) (byteAt bs 21)
  | 0x71 => .windowRemove h (byteAt bs 10)
  | 0x72 => .windowLock h
  | 0x73 => .fillTileWrite h (byteAt bs 10) (bytesAt 32 bs 11)
  | _ => .unknownCommand h (byteAt bs 0)

/-! ### The command lines (R2) -/

/-- The command groups CT tells apart (R2). -/
inductive CommandGroup where
  | deselect
  | noOp
  | activate
  | column (dir : Dir)
  | close
  | refresh
  | mode
  deriving DecidableEq, Repr

/-- The group of the four command lines' levels; the level set L, H, H, L is a no-op (R2). -/
def Lines.group (l : Lines) : CommandGroup :=
  if l.csN then .deselect
  else
    match l.rasN, l.casN, l.weN with
    | true, true, true => .noOp
    | true, true, false => .noOp
    | false, true, true => .activate
    | true, false, true => .column .read
    | true, false, false => .column .write
    | false, true, false => .close
    | false, false, true => .refresh
    | false, false, false => .mode

/-- The command that lines presented while clock enable is and stays high spell: line 10 tells CLOSE from CLOSE-ALL; a
no-op and a deselect are ignored (R2). -/
def Lines.command (l : Lines) : Option Instr :=
  match l.group with
  | .deselect => none
  | .noOp => none
  | .activate => some (.bankOpen l.ba l.a)
  | .column .read => some (.readBurst l.ba l.a)
  | .column .write => some (.writeBurst l.ba l.a)
  | .close => some (if l.a.getLsbD 10 then .closeAll l.ba l.a else .bankClose l.ba l.a)
  | .refresh => some (.refresh l.ba l.a)
  | .mode => some (.modeLoad l.ba l.a)

/-- The command that lines presented as clock enable falls spell: a refresh is REST ENTRY, and every other command, a
no-op or a deselect IDLE ENTRY (R2). -/
def Lines.fallingCommand (l : Lines) : Instr :=
  if l.group = .refresh then .restEntry l.ba l.a else .idleEntry l

/-- The command a table word spells: spec/opcode_table.json gives no row any bits, so no word spells one. -/
def decodeTableWord (_nbits _w : Nat) : Option Instr := none

end Sys2Proof
end

