-- ==== Sys2Proof/Machine/State.lean ====
section
/-! DEFINITION. Everything the manual gives the part, as plain data, block by block (00, table of blocks), and the
state at reset. Fields marked "model" are the model's own and named in the log. -/

namespace Sys2Proof.Machine

/-- Why the machine stops with a fault: it never does. Every misuse is captured, answered or passed through
(R1, R47, R197), so no constructor stands here. -/
inductive Fault where
  deriving DecidableEq, Repr

/-- Why a command is refused by the model. -/
inductive Refusal where
  /-- Raised by `exec` for a row whose meaning is not written yet. Safe: nothing can be proved of the row. -/
  | notModelled (mnemonic : String)
  deriving DecidableEq, Repr

/-! ### Channel Tracker (01) -/

/-- STRAP_ARR (R3): low selects RBC, high BRC. -/
inductive Arrangement where
  | rbc
  | brc
  deriving DecidableEq, Repr

/-- Burst form (1.7). -/
inductive BurstForm where
  | fixed8
  | fixed4
  | selectable
  deriving DecidableEq, Repr

/-- Channel state (1.8). -/
inductive ChannelState where
  | active
  | idleDown
  | rest
  | passOnly
  deriving DecidableEq, Repr

/-- The held values the DRAM was last told otherwise about (1.7, R18). -/
structure Unfollowed where
  form : Bool
  readLat : Bool
  addLat : Bool
  writeLat : Bool
  deriving DecidableEq, Repr

/-- The one treatment of a burst (R15). -/
inductive Treatment where
  | pass
  | fill
  | zeros
  | reply
  | mask
  | stageLane (lane : Fin 4) (ring : Fin 64)
  | stageIngest
  deriving DecidableEq, Repr

/-- An entry of the outstanding list (R14). `gathered` holds a byte or, where the host masked it, `none`; `spoiled`
says that a beat passed in PASS-ONLY (R21). -/
structure Burst where
  dir : Dir
  len : Nat
  block : Option Nat
  start : Nat
  bank : BitVec 3
  col : Nat
  row : Nat
  treatment : Treatment
  repl : List Byte
  gathered : List (Option Byte)
  passed : Nat
  spoiled : Bool
  deriving DecidableEq, Repr

/-- A data beat as the part drives it on: toward the host for a read, toward the DRAM for a write (R1). -/
structure BeatOut where
  dir : Dir
  data : BitVec 32
  mask : BitVec 4
  deriving DecidableEq, Repr

/-- The re-driven side of the channel (R1): the last command lines and the last beat. -/
structure ChannelOut where
  lines : Option Lines
  beat : Option BeatOut
  deriving DecidableEq, Repr

/-- The pins of the channel, which no reset of the part moves. `cke` is the level of clock enable. `drst` is how many
commands the controller will still present while the DRAM reset line is asserted, 0 where it is released; `holds` is the
input that says so for each assertion to come, the next one first, 0 past its end (R2, R22; log 9). `out` is what is
driven (R1). -/
structure Pins where
  cke : Bool
  drst : Nat
  holds : List Nat
  out : ChannelOut
  deriving DecidableEq, Repr

/-- Channel Tracker. -/
structure CT extends Pins where
  banks : Vector (Option (BitVec 16)) 8
  form : BurstForm
  readLat : Nat
  addLat : Nat
  writeLat : Nat
  unfollowed : Unfollowed
  channel : ChannelState
  outstanding : List Burst
  arr : Arrangement
  deriving DecidableEq, Repr

/-! ### Window Decoder (02) -/

/-- Window kinds (R24). -/
inductive WindowKind where
  | control
  | reply
  | ingest
  | picture
  | audio
  deriving DecidableEq, Repr

/-- A valid window (R24). `slot` and `guard` are used for PICTURE and AUDIO alone. -/
structure Window where
  kind : WindowKind
  base : Nat
  limit : Nat
  slot : Fin 4
  guard : Bool
  deriving DecidableEq, Repr

structure WD where
  windows : Vector (Option Window) 16
  locked : Bool
  tile : Vector (Vector Byte 32) 2
  strapCb : Byte
  deriving DecidableEq, Repr

/-! ### Lane Controller (03) -/

/-- A staging buffer (R41). -/
structure Buffer where
  bytes : List Byte
  closed : Bool
  deriving DecidableEq, Repr

/-- A reply entry (R49, R200). -/
structure ReplyEntry where
  number : BitVec 16
  tag : BitVec 16
  code : Byte
  outcome : Byte
  adjusted : Bool
  ringSlot : Fin 64
  payload : List Byte
  deriving DecidableEq, Repr

/-- One lane: `cur` is the buffer of the expected ring slot, `nxt` that of the next. -/
structure Lane where
  expected : Fin 64
  toggle : Bool
  cur : Buffer
  nxt : Buffer
  classes : BitVec 7
  ring : Vector ReplyEntry 16
  replyNo : BitVec 16
  deriving DecidableEq, Repr

/-- The lanes, and the model's own `order`: the order given to the STARTUP_END after which records wait for the end of
PASS-ONLY, in which they will be taken (logs 7 and 36). -/
structure LC where
  lanes : Vector Lane 4
  order : List (Fin 4)
  deriving DecidableEq, Repr

/-! ### Programme Rating Table (04) -/

/-- A rating pair (R58). -/
structure Rating where
  scheme : Fin 4
  value : Nat
  deriving DecidableEq, Repr

/-- The key of an entry (R58). -/
structure Key where
  service : Nat
  event : Nat
  deriving DecidableEq, Repr

/-- An entry (R58). -/
structure Entry where
  service : Nat
  event : Nat
  start : Nat
  duration : Nat
  version : Nat
  category : Fin 4
  flags : BitVec 8
  ratings : List Rating
  deriving DecidableEq, Repr

/-- An ACTIVE ingest (R73). -/
structure Ingest where
  lane : Fin 4
  tag : BitVec 16
  ring : Fin 64
  remaining : Nat
  next : Nat
  taken : Nat
  stale : Nat
  refused : Nat
  adjusted : Bool
  deriving DecidableEq, Repr

structure PRT where
  entries : List Entry
  ingest : Option Ingest
  stager : List Byte
  deriving DecidableEq, Repr

/-! ### Profile and Service Store (05) -/

/-- Unrated policy (R83). -/
inductive UnratedPolicy where
  | allow
  | ask
  | block
  deriving DecidableEq, Repr

/-- Service mode (R83). -/
inductive ServiceMode where
  | openMode
  | allowList
  deriving DecidableEq, Repr

/-- A curfew window (R91): day `d` in bit `d`. -/
structure Curfew where
  days : BitVec 7
  start : Nat
  stop : Nat
  deriving DecidableEq, Repr

/-- A child profile (R83). -/
structure Profile where
  valid : Bool
  suspended : Bool
  ceilings : Vector Nat 4
  blocked : BitVec 8
  unrated : UnratedPolicy
  mode : ServiceMode
  weekday : Nat
  weekend : Nat
  weekly : Nat
  carryCap : Nat
  warn : Nat
  extLimit : Nat
  weights : Vector Nat 4
  curfews : List Curfew
  deriving DecidableEq, Repr

/-- A service-table entry (R93): profile `p` in bit `p` of the sets. -/
structure ServiceEntry where
  service : Nat
  ratings : List Rating
  category : Fin 4
  allow : BitVec 8
  block : BitVec 8
  deriving DecidableEq, Repr

/-- PIN state (R96). -/
inductive PinState where
  | unset
  | set (digits : List Nat)
  | unknown
  deriving DecidableEq, Repr

/-- `lockout` holds the remaining seconds while one runs (R99). `lockoutDue` (model, log 3): its last second has come
and its expiry is still to be taken. -/
structure PSS where
  profiles : Vector Profile 7
  services : List ServiceEntry
  pin : PinState
  failures : Nat
  lockout : Option Nat
  lockoutDue : Bool
  deriving DecidableEq, Repr

/-! ### Slot Decision Unit (06) -/

/-- The fields of a RECORDING item (R104). -/
structure Recording where
  title : Nat
  service : Option Nat
  ratings : List Rating
  flags : BitVec 8
  category : Fin 4
  remaining : Option Nat
  deriving DecidableEq, Repr

/-- A slot's item (R104). -/
inductive Item where
  | nothing
  | live (service : Nat)
  | recording (r : Recording)
  | external (input : Fin 4)
  deriving DecidableEq, Repr

/-- An item key (R104). -/
inductive ItemKey where
  | event (k : Key)
  | gap (service : Nat)
  | title (id : Nat)
  | input (n : Fin 4)
  deriving DecidableEq, Repr

/-- The end of an unlock or of an extension: a wall time or a value of the uptime counter (R120, R143). -/
inductive Expiry where
  | wall (t : Nat)
  | uptime (t : Nat)
  deriving DecidableEq, Repr

/-- A pending bind (R125). -/
structure Pending where
  profile : Fin 8
  countdown : Nat
  deriving DecidableEq, Repr

/-- The hold (R118). -/
inductive Hold where
  | none
  | running (left : Nat)
  | spent
  deriving DecidableEq, Repr

/-- An unlock (R119). -/
structure Unlock where
  key : ItemKey
  expiry : Expiry
  deriving DecidableEq, Repr

/-- Why a slot is blocked (R103). -/
inductive Reason where
  | rating
  | content
  | service
  | unrated
  | time
  | curfew
  | suspended
  deriving DecidableEq, Repr

/-- A decision (R103). -/
inductive Decision where
  | vacant
  | pending
  | clear
  | unlocked
  | blocked (r : Reason)
  deriving DecidableEq, Repr

/-- Enforcement (R103). -/
inductive Enforcement where
  | showing
  | hiding
  | releasing
  deriving DecidableEq, Repr

/-- A slot record (R103). `holdDue`, `lengthDue`, `countdownDue` (model, log 3): the hold's last second, the
recording's last second, the countdown of the present second are still to be taken. -/
structure Slot where
  item : Item
  bound : Fin 8
  pending : Option Pending
  picture : Bool
  current : Option Key
  boundary : Option Nat
  hold : Hold
  unlock : Option Unlock
  decision : Decision
  enforcement : Enforcement
  frames : Nat
  holdDue : Bool
  lengthDue : Bool
  countdownDue : Bool
  deriving DecidableEq, Repr

structure SDU where
  slots : Vector Slot 4
  deriving DecidableEq, Repr

/-! ### Viewing Time Unit (07) -/

/-- The extension in force (R132). -/
structure Extension where
  key : ItemKey
  expiry : Expiry
  deriving DecidableEq, Repr

/-- A usage record (R132). -/
structure Usage where
  today : Nat
  acc : Nat
  week : Nat
  carry : Nat
  bonus : Nat
  weekBonus : Nat
  ext : Option Extension
  extUsed : Bool
  warned : Bool
  exhausted : Bool
  deriving DecidableEq, Repr

/-- The wall clock while SET (R129): the value set and the uptime at the set. -/
structure Clock where
  wall : Nat
  since : Nat
  deriving DecidableEq, Repr

/-- The stored accounting day and week (R131). -/
structure Acct where
  day : Nat
  week : Nat
  deriving DecidableEq, Repr

/-- `clock` is `none` while UNSET; `acct` is `none` while A and W are unknown (R192). `tickDue` (model, log 3): the
accounting tick of the present second is still to be taken. -/
structure VTU where
  uptime : Nat
  tickDue : Bool
  clock : Option Clock
  acct : Option Acct
  usage : Vector Usage 7
  curfew : Vector Bool 7
  deriving DecidableEq, Repr

/-! ### Store Controller (09) -/

/-- The settings record (R183). -/
structure Settings where
  hold : Nat
  rollover : Nat
  weekend : BitVec 7
  weekStart : Nat
  zone : Int
  defaults : Vector (Fin 8) 4
  deriving DecidableEq, Repr

/-- The PIN record (R102). -/
structure PinRecord where
  pin : PinState
  failures : Nat
  deriving DecidableEq, Repr

/-- A usage record as stored: `acct` is `none` where it holds 0xFFFF as its copies of A and W (R192). -/
structure StoredUsage where
  usage : Usage
  acct : Option Acct
  deriving DecidableEq, Repr

/-- One stored record: its contents and whether its check value matches them, which it does from the completion of a
write until the beginning of the next (R183, R186, R187). -/
structure Cell (α : Type) where
  content : α
  complete : Bool
  deriving DecidableEq, Repr

/-- The eighteen records (R183). -/
inductive RecordId where
  | pin
  | lane
  | profile (c : Fin 7)
  | services
  | settings
  | usage (c : Fin 7)
  deriving DecidableEq, Repr

/-- The contents a write takes at its beginning (R186). -/
inductive Image where
  | pin (r : PinRecord)
  | lane (r : Vector (BitVec 7) 3)
  | profile (c : Fin 7) (r : Profile)
  | services (r : List ServiceEntry)
  | settings (r : Settings)
  | usage (c : Fin 7) (r : StoredUsage)
  deriving DecidableEq, Repr

/-- The non-volatile store (R183). -/
structure Store where
  pin : Cell PinRecord
  lane : Cell (Vector (BitVec 7) 3)
  profiles : Vector (Cell Profile) 7
  services : Cell (List ServiceEntry)
  settings : Cell Settings
  usage : Vector (Cell StoredUsage) 7
  deriving DecidableEq, Repr

/-- `writing` is the write under way, so the store state is COMMITTING while it is present (R186); `failed` holds the
records whose write failed in the running commit (R187). The vectors of 18 are in store order. -/
structure SC where
  settings : Settings
  store : Store
  dirty : Vector Bool 18
  changed : Vector Bool 7
  age : Vector Nat 7
  writing : Option Image
  failed : Vector Bool 18
  faultSeen : Bool
  deriving DecidableEq, Repr

/-! ### Attention Unit (10) -/

/-- The kinds of misuse (R197). -/
inductive CaptureKind where
  | replyWrite
  | laneSequence
  | closedBank
  | reopen
  | refreshOpen
  | ingestOrder
  deriving DecidableEq, Repr

/-- A filled capture record (R197). -/
structure Capture where
  kind : CaptureKind
  block : Nat
  bank : BitVec 3
  row : Nat
  col : Nat
  more : Bool
  deriving DecidableEq, Repr

/-- The cause with code `n` stands in bit `n` of status and enable set (R201); profile `p` in bit `p` of `warned`. -/
structure AU where
  status : BitVec 10
  enable : BitVec 10
  warned : BitVec 8
  capture : Option Capture
  deriving DecidableEq, Repr

/-! ### The part -/

/-- Where the part stands between a part reset and the end of start-up (R56, R189): reset input asserted; the factory
clear of step 2 being written; steps 3 to 7 done and step 8 awaited; running. -/
inductive Phase where
  | inReset
  | clearing
  | starting
  | running
  deriving DecidableEq, Repr

/-- The machine. `pending` is the queue of commands waiting, first in, first out. -/
structure State where
  phase : Phase
  ct : CT
  wd : WD
  lc : LC
  prt : PRT
  pss : PSS
  sdu : SDU
  vtu : VTU
  sc : SC
  au : AU
  pending : List Instr
  deriving DecidableEq, Repr

/-! ### Values at part reset and factory values -/

/-- The strap defaults and the rest of R23, but for the arrangement and the pins. -/
def CT.atReset (arr : Arrangement) (pins : Pins) : CT where
  toPins := pins
  banks := Vector.replicate 8 none
  form := .fixed8
  readLat := 11
  addLat := 0
  writeLat := 8
  unfollowed := { form := false, readLat := false, addLat := false, writeLat := false }
  channel := .active
  outstanding := []
  arr := arr

/-- The strap contents of the window table, the lock and the fill tile after part reset (R26, R27, R38). -/
def WD.atReset (cb : Byte) : WD where
  windows := #v[
    some { kind := .control, base := cb.toNat * 8388608, limit := cb.toNat * 8388608 + 16383, slot := 0, guard := false },
    some { kind := .reply, base := cb.toNat * 8388608 + 16384, limit := cb.toNat * 8388608 + 20479, slot := 0, guard := false },
    none, none, none, none, none, none, none, none, none, none, none, none, none, none]
  locked := false
  tile := Vector.replicate 2 (Vector.replicate 32 0)
  strapCb := cb

/-- A zero-filled open staging buffer (R55). -/
def Buffer.empty : Buffer := { bytes := List.replicate 64 0, closed := false }

/-- A reply entry not posted since the last reset: 32 zero bytes (R51). -/
def ReplyEntry.zero : ReplyEntry where
  number := 0
  tag := 0
  code := 0
  outcome := 0
  adjusted := false
  ringSlot := 0
  payload := List.replicate 24 0

/-- A lane after part or channel reset, with its permission classes (R55, R57). -/
def Lane.atReset (classes : BitVec 7) : Lane where
  expected := 0
  toggle := false
  cur := .empty
  nxt := .empty
  classes := classes
  ring := Vector.replicate 16 .zero
  replyNo := 0

/-- The default class set of each lane (R45), classes in the bits of R201. -/
def defaultClasses : Vector (BitVec 7) 4 := #v[0b1111111, 0b0000011, 0b0001101, 0b0010001]

/-- The PRT after part reset (R72, R73). -/
def PRT.atReset : PRT where
  entries := []
  ingest := none
  stager := List.replicate 32 0

/-- An INVALID child profile: no settings, every field zero (R83). -/
def Profile.invalid : Profile where
  valid := false
  suspended := false
  ceilings := Vector.replicate 4 0
  blocked := 0
  unrated := .allow
  mode := .openMode
  weekday := 0
  weekend := 0
  weekly := 0
  carryCap := 0
  warn := 0
  extLimit := 0
  weights := Vector.replicate 4 0
  curfews := []

/-- The zero usage record (R85). -/
def Usage.zero : Usage where
  today := 0
  acc := 0
  week := 0
  carry := 0
  bonus := 0
  weekBonus := 0
  ext := none
  extUsed := false
  warned := false
  exhausted := false

/-- The factory value of the settings record (R190). -/
def Settings.factory : Settings where
  hold := 8
  rollover := 4
  weekend := 0b1100000
  weekStart := 0
  zone := 0
  defaults := Vector.replicate 4 0

/-- A slot record at part reset with its bound profile (R105). -/
def Slot.atReset (bound : Fin 8) : Slot where
  item := .nothing
  bound := bound
  pending := none
  picture := false
  current := none
  boundary := none
  hold := .none
  unlock := none
  decision := .vacant
  enforcement := .showing
  frames := 0
  holdDue := false
  lengthDue := false
  countdownDue := false

/-- PSS holding the factory values of its records (R190). -/
def PSS.factory : PSS where
  profiles := Vector.replicate 7 .invalid
  services := []
  pin := .unset
  failures := 0
  lockout := none
  lockoutDue := false

/-- VTU at part reset (R128, R129, R147), its usage records at their factory values (R190). -/
def VTU.atReset : VTU where
  uptime := 0
  tickDue := false
  clock := none
  acct := some { day := 0, week := 0 }
  usage := Vector.replicate 7 .zero
  curfew := Vector.replicate 7 false

/-- A store whose eighteen records hold the factory values of R190, each sound. -/
def Store.factory : Store where
  pin := { content := { pin := .unset, failures := 0 }, complete := true }
  lane := { content := #v[0b0000011, 0b0001101, 0b0010001], complete := true }
  profiles := Vector.replicate 7 { content := .invalid, complete := true }
  services := { content := [], complete := true }
  settings := { content := .factory, complete := true }
  usage := Vector.replicate 7 { content := { usage := .zero, acct := some { day := 0, week := 0 } }, complete := true }

/-- SC with no mark set and no commit running, over a store as the last write left it. -/
def SC.atReset (store : Store) : SC where
  settings := .factory
  store := store
  dirty := Vector.replicate 18 false
  changed := Vector.replicate 7 false
  age := Vector.replicate 7 0
  writing := none
  failed := Vector.replicate 18 false
  faultSeen := false

/-- AU at part reset (R199). -/
def AU.atReset : AU where
  status := 0
  enable := 0
  warned := 0
  capture := none

/-- The machine with its part reset input asserted: every block at its part-reset value (R23, R55, R72, R105, R199),
with the store, the straps last sampled, the pins and the queue as given. The working copies that start-up loads
(lane classes, profiles, services, PIN, settings, usage) stand at factory values until then (log 1). -/
def State.inReset (store : Store) (arr : Arrangement) (cb : Byte) (pins : Pins) (pending : List Instr) : State where
  phase := .inReset
  ct := CT.atReset arr pins
  wd := WD.atReset cb
  lc := { lanes := defaultClasses.map Lane.atReset, order := [] }
  prt := .atReset
  pss := .factory
  sdu := { slots := Vector.replicate 4 (Slot.atReset 0) }
  vtu := .atReset
  sc := .atReset store
  au := .atReset
  pending := pending

/-- Power-on: part reset asserted, clock enable high, nothing driven yet, straps not sampled, the store as the
factory left it (log 1). -/
def State.reset : State :=
  State.inReset Store.factory .rbc 0 { cke := true, drst := 0, holds := [], out := { lines := none, beat := none } } []

end Sys2Proof.Machine
end

