-- ==== Sys2Proof/Machine/Flags.lean ====
section
/-! DEFINITION. The codes of R201: attention causes, outcomes, classes, enumerations and sets, and the attention
line. -/

namespace Sys2Proof.Machine

/-- The ten attention causes (R194). -/
inductive Cause where
  | reply
  | warn
  | timeUp
  | decision
  | channel
  | capture
  | store
  | ingest
  | clock
  | lockout
  deriving DecidableEq, Repr

/-- The bit of a cause in the status and the enable set (R201). -/
def Cause.bit : Cause → BitVec 10
  | .reply => 0b0000000001
  | .warn => 0b0000000010
  | .timeUp => 0b0000000100
  | .decision => 0b0000001000
  | .channel => 0b0000010000
  | .capture => 0b0000100000
  | .store => 0b0001000000
  | .ingest => 0b0010000000
  | .clock => 0b0100000000
  | .lockout => 0b1000000000

/-- The outcomes of a reply (R47, R49). -/
inductive ReplyCode where
  | ok
  | adjusted
  | done
  | aborted
  | badCommand
  | notPermitted
  | badLength
  | lockedOut
  | pinWrong
  | badValue
  | badSlot
  | badProfile
  | busy
  | inUse
  | locked
  | overlap
  | tableFull
  | notFound
  | stale
  | badState
  | clockUnset
  deriving DecidableEq, Repr

/-- Outcome codes (R201). -/
def ReplyCode.code : ReplyCode → Byte
  | .ok => 0
  | .adjusted => 1
  | .done => 2
  | .aborted => 3
  | .badCommand => 16
  | .notPermitted => 17
  | .badLength => 18
  | .lockedOut => 19
  | .pinWrong => 20
  | .badValue => 21
  | .badSlot => 22
  | .badProfile => 23
  | .busy => 24
  | .inUse => 25
  | .locked => 26
  | .overlap => 27
  | .tableFull => 28
  | .notFound => 29
  | .stale => 30
  | .badState => 31
  | .clockUnset => 32

/-- Permission classes (3.3). -/
inductive CmdClass where
  | query
  | guide
  | present
  | clock
  | report
  | admin
  | platform
  deriving DecidableEq, Repr

/-- The bit of a class in a class set (R201). -/
def CmdClass.bit : CmdClass → Nat
  | .query => 0
  | .guide => 1
  | .present => 2
  | .clock => 3
  | .report => 4
  | .admin => 5
  | .platform => 6

def ChannelState.code : ChannelState → Byte
  | .active => 0
  | .idleDown => 1
  | .rest => 2
  | .passOnly => 3

def PinState.code : PinState → Byte
  | .unset => 0
  | .set _ => 1
  | .unknown => 2

def WindowKind.code : WindowKind → Byte
  | .control => 0
  | .reply => 1
  | .ingest => 2
  | .picture => 3
  | .audio => 4

def Item.code : Item → Byte
  | .nothing => 0
  | .live _ => 1
  | .recording _ => 2
  | .external _ => 3

/-- Unlock key kinds (R201). -/
def ItemKey.code : ItemKey → Byte
  | .event _ => 1
  | .gap _ => 2
  | .title _ => 3
  | .input _ => 4

def Decision.code : Decision → Byte
  | .vacant => 0
  | .pending => 1
  | .clear => 2
  | .unlocked => 3
  | .blocked _ => 4

def Reason.code : Reason → Byte
  | .rating => 1
  | .content => 2
  | .service => 3
  | .unrated => 4
  | .time => 5
  | .curfew => 6
  | .suspended => 7

/-- The reason byte of a decision: 0 where it has none (R201). -/
def Decision.reasonCode : Decision → Byte
  | .blocked r => r.code
  | .vacant | .pending | .clear | .unlocked => 0

def Enforcement.code : Enforcement → Byte
  | .showing => 0
  | .hiding => 1
  | .releasing => 2

def UnratedPolicy.code : UnratedPolicy → Byte
  | .allow => 0
  | .ask => 1
  | .block => 2

def ServiceMode.isAllowList : ServiceMode → Bool
  | .openMode => false
  | .allowList => true

def CaptureKind.code : CaptureKind → Byte
  | .replyWrite => 1
  | .laneSequence => 2
  | .closedBank => 3
  | .reopen => 4
  | .refreshOpen => 5
  | .ingestOrder => 6

/-- Whether member `n` is in a set of profiles or content flags, member `n` in bit `n` (R201). -/
def inSet (set : BitVec 8) (n : Nat) : Bool := set.getLsbD n

/-- The attention line is asserted while a cause is in both the status and the enable set (R195). -/
def AU.asserted (au : AU) : Bool := (au.status &&& au.enable) != 0

/-- ATTN_N driven low (R195). -/
def State.attnAsserted (s : State) : Bool := s.au.asserted

/-- A decision that lets its slot be shown (R110). -/
def Decision.permits : Decision → Bool
  | .clear | .unlocked | .vacant => true
  | .pending | .blocked _ => false

end Sys2Proof.Machine
end

