-- ==== Sys2Proof/Machine/Ops.lean ====
section
/-! DEFINITION. The named operations every block uses: reading and replacing a slot, a lane, a profile and a usage
record; raising a cause and reporting a misuse; posting a reply; the wall time; the dirty marks. -/

namespace Sys2Proof.Machine

/-! ### Numbered parts -/

/-- The slots in ascending order. -/
def slotList : List (Fin 4) := [0, 1, 2, 3]

/-- The child profiles in ascending order: child `c` is profile `c + 1`. -/
def childList : List (Fin 7) := [0, 1, 2, 3, 4, 5, 6]

/-- The profile number of a child. -/
def childNumber (c : Fin 7) : Fin 8 := c.succ

/-- The child a profile number names; none for profile 0, the open profile (R82). -/
def childOf (p : Fin 8) : Option (Fin 7) :=
  if h : p.val = 0 then none else some ⟨p.val - 1, by omega⟩

/-- `f` applied for each slot in ascending order. -/
def forSlots (f : Fin 4 → State → State) (s : State) : State :=
  slotList.foldl (fun t i => f i t) s

/-- `f` applied for each child profile in ascending order. -/
def forChildren (f : Fin 7 → State → State) (s : State) : State :=
  childList.foldl (fun t c => f c t) s

def State.slot (s : State) (i : Fin 4) : Slot := s.sdu.slots[i]

def State.setSlot (s : State) (i : Fin 4) (x : Slot) : State :=
  { s with sdu.slots := putAt s.sdu.slots i x }

def State.lane (s : State) (n : Fin 4) : Lane := s.lc.lanes[n]

def State.setLane (s : State) (n : Fin 4) (x : Lane) : State :=
  { s with lc.lanes := putAt s.lc.lanes n x }

def State.child (s : State) (c : Fin 7) : Profile := s.pss.profiles[c]

def State.setChild (s : State) (c : Fin 7) (x : Profile) : State :=
  { s with pss.profiles := putAt s.pss.profiles c x }

def State.usage (s : State) (c : Fin 7) : Usage := s.vtu.usage[c]

def State.curfewActive (s : State) (c : Fin 7) : Bool := s.vtu.curfew[c]

/-- Whether a profile number names a valid profile: profile 0 always (R82), a child by its valid field (R83). -/
def State.profileValid (s : State) (p : Fin 8) : Bool :=
  match childOf p with
  | none => true
  | some c => (s.child c).valid

/-- VTU alters a usage record: the changed mark is set when a field of R132's is altered (R185; log 19 on the copies of A
and W). -/
def State.setUsage (s : State) (c : Fin 7) (u : Usage) : State :=
  if u = s.usage c then s
  else { s with vtu.usage := putAt s.vtu.usage c u, sc.changed := putAt s.sc.changed c true }

def State.setCurfew (s : State) (c : Fin 7) (b : Bool) : State :=
  { s with vtu.curfew := putAt s.vtu.curfew c b }

/-! ### Time -/

/-- The current wall time: the set value plus the uptime since the set; none while UNSET (R129). -/
def State.wallNow (s : State) : Option Nat :=
  s.vtu.clock.map fun c => c.wall + (s.vtu.uptime - c.since)

/-- The reset input is released and start-up has ended: records are taken and ticks come (R56, R128). -/
def State.isRunning (s : State) : Bool := decide (s.phase = .running)

/-- The part reset input is released (R2). -/
def State.isReleased (s : State) : Bool := decide (s.phase ≠ .inReset)

/-- CT follows the channel: the part reset input and the DRAM reset line are released (R2, R22). -/
def State.tracks (s : State) : Bool := s.isReleased && decide (s.ct.drst = 0)

/-- CT decodes a command: it follows the channel and clock enable is high (R2). -/
def State.decodes (s : State) : Bool := s.tracks && s.ct.cke

/-! ### Dirty marks (R184) -/

/-- The place of a record in store order (R183). -/
def RecordId.place : RecordId → Fin 18
  | .pin => 0
  | .lane => 1
  | .profile c => ⟨c.val + 2, by omega⟩
  | .services => 9
  | .settings => 10
  | .usage c => ⟨c.val + 11, by omega⟩

/-- The records in store order (R183). -/
def storeOrder : List RecordId :=
  [.pin, .lane, .profile 0, .profile 1, .profile 2, .profile 3, .profile 4, .profile 5, .profile 6, .services,
    .settings, .usage 0, .usage 1, .usage 2, .usage 3, .usage 4, .usage 5, .usage 6]

def State.isDirty (s : State) (r : RecordId) : Bool := s.sc.dirty[r.place]

def State.markDirty (s : State) (r : RecordId) : State :=
  { s with sc.dirty := putAt s.sc.dirty r.place true }

/-! ### Attention Unit -/

/-- Raising a cause puts it in the attention status (R194). -/
def State.raise (s : State) (c : Cause) : State :=
  { s with au.status := s.au.status ||| c.bit }

/-- A report of misuse: it fills an empty capture record and raises CAPTURE, or sets "more" (R197). -/
def State.report (s : State) (kind : CaptureKind) (block : Nat) (bank : BitVec 3) (row col : Nat) : State :=
  match s.au.capture with
  | none =>
      { s with au.capture := some { kind := kind, block := block, bank := bank, row := row, col := col, more := false } }.raise
        .capture
  | some c => { s with au.capture := some { c with more := true } }

/-! ### Replies -/

/-- Posting a reply on a lane: the number rises by one modulo 65,536, the entry goes to index number mod 16, and REPLY
is raised (R49). The payload is filled with zero bytes to 24 (R50). -/
def State.postReply (s : State) (lane : Fin 4) (tag : BitVec 16) (code outcome : Byte) (adjusted : Bool)
    (ring : Fin 64) (payload : List Byte) : State :=
  let L := s.lane lane
  let number := L.replyNo + 1
  let entry : ReplyEntry :=
    { number := number, tag := tag, code := code, outcome := outcome, adjusted := adjusted, ringSlot := ring,
      payload := fit 24 payload }
  (s.setLane lane
    { L with replyNo := number, ring := putAt L.ring ⟨number.toNat % 16, Nat.mod_lt _ (by decide)⟩ entry }).raise .reply

end Sys2Proof.Machine
end

