-- ==== Sys2Proof/Machine/Operands.lean ====
section
/-! DEFINITION. Operands: what the channel's lines say of a burst (R2, R3, R11, R12) and how the fields of a record
are read and checked (R59, R60, R97, R153, R201). -/

namespace Sys2Proof.Machine

/-! ### Column commands -/

/-- The column of a READ or WRITE: HA0-HA9 (R2). -/
def columnOf (a : BitVec 16) : Nat := (a.extractLsb' 0 10).toNat

/-- The auto-close flag: line 11 (R2). -/
def autoClose (a : BitVec 16) : Bool := a.getLsbD 11

/-- The burst-select flag: line 13 (R2). -/
def burstSelect (a : BitVec 16) : Bool := a.getLsbD 13

/-- The channel byte address of a column (R3). -/
def channelAddress (arr : Arrangement) (bank : BitVec 3) (row : BitVec 16) (col : Nat) : Nat :=
  match arr with
  | .rbc => ((row.toNat * 8 + bank.toNat) * 1024 + col) * 4
  | .brc => ((bank.toNat * 65536 + row.toNat) * 1024 + col) * 4

/-- The length in beats of a burst under the held burst form (R11). -/
def burstLength (form : BurstForm) (select : Bool) : Nat :=
  match form with
  | .fixed8 => 8
  | .fixed4 => 4
  | .selectable => if select then 8 else 4

/-- The block address: the low 5 bits cleared for 8 beats, the low 4 for 4 beats (R12). -/
def blockAddress (len addr : Nat) : Nat := addr - addr % (len * 4)

/-- The offset within its block of beat `k` of a burst: sequential wrap order from the start beat (R12). -/
def beatOffset (len start k : Nat) : Nat := ((start + k) % len) * 4

/-! ### Fields of records -/

/-- A slot field (R153); none above 3. -/
def slotField (b : Byte) : Option (Fin 4) :=
  if h : b.toNat < 4 then some ⟨b.toNat, h⟩ else none

/-- A profile field (R153); none above 7. -/
def profileField (b : Byte) : Option (Fin 8) :=
  if h : b.toNat < 8 then some ⟨b.toNat, h⟩ else none

/-- A profile field where the entry requires a valid profile (R153). -/
def validProfileField (s : State) (b : Byte) : Option (Fin 8) :=
  (profileField b).filter fun p => s.profileValid p

/-- A profile field naming a valid child profile: 0, above 7 and INVALID are refused (R82, R85). -/
def validChildField (s : State) (b : Byte) : Option (Fin 7) :=
  ((profileField b).bind childOf).filter fun c => (s.child c).valid

/-- A flag byte holds 0 or 1 (R201). -/
def flagField (b : Byte) : Option Bool :=
  match b.toNat with
  | 0 => some false
  | 1 => some true
  | _ => none

/-- A category 0 to 3. -/
def categoryField (b : Byte) : Option (Fin 4) :=
  if h : b.toNat < 4 then some ⟨b.toNat, h⟩ else none

/-- A rating position: scheme in bits 4-7, value in bits 0-3. Value 15 drops it whatever its scheme (R59); a remaining
scheme above 3 is refused. -/
def ratingPosition (b : Byte) : Option (Option Rating) :=
  if b.toNat % 16 = 15 then some none
  else if h : b.toNat / 16 < 4 then some (some { scheme := ⟨b.toNat / 16, h⟩, value := b.toNat % 16 })
  else none

/-- A rating field: the remaining positions in ascending order of scheme; none (BAD_VALUE) where two remain under one
scheme or a remaining scheme is above 3 (R59, R153). -/
def ratingField (r0 r1 : Byte) : Option (List Rating) :=
  match ratingPosition r0, ratingPosition r1 with
  | some none, some none => some []
  | some (some a), some none => some [a]
  | some none, some (some b) => some [b]
  | some (some a), some (some b) =>
      if a.scheme = b.scheme then none else if a.scheme.val < b.scheme.val then some [a, b] else some [b, a]
  | none, _ => none
  | _, none => none

/-- The byte of a rating pair (R200). -/
def Rating.byte (r : Rating) : Byte := BitVec.ofNat 8 (r.scheme.val * 16 + r.value)

/-- An unused rating position: value 15 under a scheme nibble no rule states (R154, R159; log 15). -/
def unusedPosition : Byte := Config.unusedScheme ++ (15 : BitVec 4)

/-- A stored rating list given as two positions (R154, R159). -/
def ratingPositions : List Rating → List Byte
  | [] => [unusedPosition, unusedPosition]
  | [a] => [a.byte, unusedPosition]
  | a :: b :: _ => [a.byte, b.byte]

/-- A set of profiles drawn from 1 to 7: profile 0 in bit 0 is refused (R175, R201). -/
def profileSetField (b : Byte) : Option (BitVec 8) :=
  if b.getLsbD 0 then none else some b

/-- A set of days: bit 7 names no day (R201). -/
def daySetField (b : Byte) : Option (BitVec 7) :=
  if b.getLsbD 7 then none else some (b.extractLsb' 0 7)

/-- A class set: bit 7 names no class (R178, R201). -/
def classSetField (b : Byte) : Option (BitVec 7) :=
  if b.getLsbD 7 then none else some (b.extractLsb' 0 7)

/-- A set of attention causes: bits 10 to 15 name none (R169, R201). -/
def causeSetField (x : BitVec 16) : Option (BitVec 10) :=
  if x.toNat < 1024 then some (x.extractLsb' 0 10) else none

/-- An unrated policy code (R201). -/
def unratedField (b : Byte) : Option UnratedPolicy :=
  match b.toNat with
  | 0 => some .allow
  | 1 => some .ask
  | 2 => some .block
  | _ => none

/-- A service mode code (R201). -/
def modeField (b : Byte) : Option ServiceMode :=
  match b.toNat with
  | 0 => some .openMode
  | 1 => some .allowList
  | _ => none

/-- The window kinds WINDOW_DEFINE may name: INGEST, PICTURE and AUDIO (R180). -/
def definableKind (b : Byte) : Option WindowKind :=
  match b.toNat with
  | 2 => some .ingest
  | 3 => some .picture
  | 4 => some .audio
  | _ => none

/-- A time field: 0xFFFFFFFF names the present wall time, any other value that wall time (R153). None where the present
is named and the clock is UNSET. -/
def timeField (s : State) (t : BitVec 32) : Option Nat :=
  if t = 0xFFFFFFFF then s.wallNow else some t.toNat

/-- The digits of a well-formed PIN field; none where the field is malformed (R97). -/
def pinDigits : List Byte → Option (List Nat)
  | [] => some []
  | b :: bs =>
      if b = 15 then (if bs.all fun x => x = 15 then some [] else none)
      else if b.toNat ≤ 9 then (pinDigits bs).map fun ds => b.toNat :: ds
      else none

/-- The entry an event core stores, its duration clamped to 86,400; none where R60 refuses it BAD_VALUE. The start
0xFFFFFFFF is the caller's matter (R60, R77). -/
def entryOf (c : EventCore) : Option Entry :=
  match ratingField c.rating0 c.rating1, categoryField c.category with
  | some ratings, some category =>
      if c.duration = 0 ∨ 31 < c.version.toNat then none
      else some
        { service := c.service.toNat, event := c.event.toNat, start := c.start.toNat,
          duration := min 86400 c.duration.toNat, version := c.version.toNat, category := category,
          flags := c.flags, ratings := ratings }
  | _, _ => none

/-- Whether the duration was clamped, so that a successful insert is ADJUSTED (R60). -/
def coreClamped (c : EventCore) : Bool := 86400 < c.duration.toNat

/-- The item SLOT_TUNE carries, its checks in the order of R165; none is BAD_VALUE. -/
def itemField (kind : Byte) (item : Vector Byte 16) : Option Item :=
  let bs := item.toList
  match kind.toNat with
  | 0 => some .nothing
  | 1 => some (.live (halfAt bs 0).toNat)
  | 2 =>
      match ratingField (byteAt bs 7) (byteAt bs 8), categoryField (byteAt bs 10), flagField (byteAt bs 4),
          flagField (byteAt bs 11) with
      | some ratings, some category, some hasService, some hasLength =>
          let length := (wordAt bs 12).toNat
          if hasLength ∧ (length = 0 ∨ 86400 < length) then none
          else some (.recording
            { title := (wordAt bs 0).toNat, service := if hasService then some (halfAt bs 5).toNat else none,
              ratings := ratings, flags := byteAt bs 9, category := category,
              remaining := if hasLength then some length else none })
      | _, _, _, _ => none
  | 3 => (slotField (byteAt bs 0)).map .external
  | _ => none

/-- The curfew window a window position holds; none where R91 refuses it. -/
def curfewOf (w : CurfewField) : Option Curfew :=
  match daySetField w.days with
  | none => none
  | some days =>
      if days = 0 ∨ 1439 < w.start.toNat ∨ 1439 < w.stop.toNat ∨ w.start = w.stop then none
      else some { days := days, start := w.start.toNat, stop := w.stop.toNat }

/-- The first `n` window positions, all of them well formed (R172). -/
def curfewList (n : Nat) (ws : Vector CurfewField 4) : Option (List Curfew) :=
  (ws.toList.take n).mapM curfewOf

/-! ### Values in payloads (R201) -/

/-- A wall time: one beyond 0xFFFFFFFE is written 0xFFFFFFFE. -/
def wall32 (t : Nat) : List Byte := num32 (min t 0xFFFFFFFE)

/-- An absent 4-byte value is written 0xFFFFFFFF. -/
def orAbsent32 : Option Nat → List Byte
  | none => num32 0xFFFFFFFF
  | some n => num32 n

/-- An expiry in wall seconds; one held in uptime is written 0, an absent one 0xFFFFFFFF. -/
def expiry32 : Option Expiry → List Byte
  | none => num32 0xFFFFFFFF
  | some (.wall t) => wall32 t
  | some (.uptime _) => num32 0

/-- Whether an expiry is held in uptime. -/
def Expiry.isUptime : Expiry → Bool
  | .wall _ => false
  | .uptime _ => true

/-- Remaining minutes, ceil(r / 60), or 0xFFFF where unlimited (R134, R201). -/
def minutes16 : Option Nat → List Byte
  | none => num16 0xFFFF
  | some r => num16 ((r + 59) / 60)

/-- The hold in one byte (R201). -/
def Hold.byte : Hold → Byte
  | .none => 0
  | .running n => BitVec.ofNat 8 n
  | .spent => 0xFE

/-- A key in four bytes: service, then event id; absent 0xFFFFFFFF (R201). -/
def key32 : Option Key → List Byte
  | none => num32 0xFFFFFFFF
  | some k => num16 k.service ++ num16 k.event

/-- An item's identity in four bytes (R201). -/
def Item.identity : Item → List Byte
  | .nothing => num32 0
  | .live service => num16 service ++ num16 0
  | .recording r => num32 r.title
  | .external input => num32 input.val

end Sys2Proof.Machine
end

