-- ==== Sys2Proof/Machine/Rating.lean ====
section
/-! DEFINITION. The Programme Rating Table as a table: order, versions, insertion, eviction, withdrawal, clearing and
the two lookups (R61 to R70). What a change sets off in the slots stands in Decision.lean. -/

namespace Sys2Proof.Machine

def Entry.key (e : Entry) : Key := { service := e.service, event := e.event }

/-- The end of an entry, reckoned exactly (R58). -/
def Entry.stop (e : Entry) : Nat := e.start + e.duration

/-- The entry's span contains `t` (R58, R69). -/
def Entry.covers (e : Entry) (t : Nat) : Bool := decide (e.start ≤ t ∧ t < e.stop)

/-- Two spans intersect when each begins before the other ends (R63). -/
def Entry.intersects (e f : Entry) : Bool := decide (e.start < f.stop ∧ f.start < e.stop)

/-- The order of the table: service, then start (R61). -/
def Entry.before (e f : Entry) : Bool := decide (e.service < f.service ∨ (e.service = f.service ∧ e.start < f.start))

/-- Version `new` is newer than `old`: their difference modulo 32 lies from 1 to 15 (R62). -/
def versionNewer (new old : Nat) : Bool :=
  let d := (new + 32 - old) % 32
  decide (1 ≤ d ∧ d ≤ 15)

/-- Insertion at its place in the order (R61, R63 step 5). -/
def insertSorted (e : Entry) : List Entry → List Entry
  | [] => [e]
  | x :: xs => if e.before x then e :: x :: xs else x :: insertSorted e xs

/-- The entry of a key. -/
def entryOfKey (t : List Entry) (k : Key) : Option Entry := t.find? fun e => e.key = k

/-- The current event of a service at a time (R69). -/
def currentEvent (t : List Entry) (service time : Nat) : Option Entry :=
  t.find? fun e => e.service = service && e.covers time

/-- The start of the first entry of a service after a time. -/
def nextStart (t : List Entry) (service time : Nat) : Option Nat :=
  (t.find? fun e => e.service = service && decide (time < e.start)).map Entry.start

/-- The next boundary of a service at a time: the earlier of the current event's end and the next start (R70). -/
def nextBoundary (t : List Entry) (service time : Nat) : Option Nat :=
  match currentEvent t service time, nextStart t service time with
  | some e, some n => some (min e.stop n)
  | some e, none => some e.stop
  | none, n => n

/-- The first entry with the earliest end: in table order, so equal ends are decided by the lowest service number,
then the earliest start (R64 a). -/
def earliestEnd : List Entry → Option Entry
  | [] => none
  | e :: es =>
      match earliestEnd es with
      | none => some e
      | some f => if f.stop < e.stop then some f else some e

/-- The first entry with the latest start: in table order, so equal starts are decided by the lowest service number
(R64 b). -/
def latestStart : List Entry → Option Entry
  | [] => none
  | e :: es =>
      match latestStart es with
      | none => some e
      | some f => if e.start < f.start then some f else some e

/-- The unpinned entry with the latest start (R64 b, R65). -/
def latestUnpinned (pinned : List Key) (t : List Entry) : Option Entry :=
  latestStart (t.filter fun e => !pinned.contains e.key)

/-- The entry to evict for a new entry when the table is full; none where the new one is refused TABLE_FULL (R64). -/
def evictee (now : Option Nat) (pinned : List Key) (new : Entry) (t : List Entry) : Option Entry :=
  match now.bind fun w => earliestEnd (t.filter fun e => decide (e.stop ≤ w)) with
  | some e => some e
  | none =>
      match latestUnpinned pinned t with
      | some e => if new.start < e.start then some e else none
      | none => none

/-- What the insert procedure hands its caller (R66), with the table it leaves and the services it touched (R71). -/
inductive InsertResult where
  | stored (table : List Entry) (replaced : Bool) (overlap : Nat) (evicted : Option Entry)
  | stale (held : Entry)
  | full
  deriving DecidableEq, Repr

/-- Steps 3 to 5 of R63, on a table that holds no entry of the new key: overlaps removed, room made under R64. -/
def storeEntry (now : Option Nat) (pinned : List Key) (new : Entry) (replaced : Bool) (t : List Entry) : InsertResult :=
  let kept := t.filter fun e => !(e.service = new.service && e.intersects new)
  let overlap := t.length - kept.length
  if kept.length < 1024 then .stored (insertSorted new kept) replaced overlap none
  else
    match evictee now pinned new kept with
    | some e => .stored (insertSorted new (kept.erase e)) replaced overlap (some e)
    | none => .full

/-- The insert procedure (R63). -/
def insertEntry (now : Option Nat) (pinned : List Key) (new : Entry) (t : List Entry) : InsertResult :=
  match entryOfKey t new.key with
  | some old =>
      if versionNewer new.version old.version then
        storeEntry now pinned new true (t.filter fun e => e.key ≠ new.key)
      else .stale old
  | none => storeEntry now pinned new false t

/-- The table without the entry of a key (R67). -/
def withoutKey (t : List Entry) (k : Key) : List Entry := t.filter fun e => e.key ≠ k

/-- The table without the entries of a service (R68). -/
def withoutService (t : List Entry) (service : Nat) : List Entry := t.filter fun e => e.service ≠ service

/-- The number of entries of a service. -/
def countOfService (t : List Entry) (service : Nat) : Nat := (t.filter fun e => e.service = service).length

/-- The keys the PRT treats as pinned: the slots' current event keys (R65). -/
def State.pinnedKeys (s : State) : List Key := slotList.filterMap fun i => (s.slot i).current

def State.setEntries (s : State) (t : List Entry) : State := { s with prt.entries := t }

end Sys2Proof.Machine
end

