-- ==== Sys2Proof/Machine/Calendar.lean ====
section
/-! DEFINITION. The calendar, curfew windows, limits and remaining time (R130, R131, R134, R146). -/

namespace Sys2Proof.Machine

/-- Local seconds: the wall time moved by the zone offset in minutes, 0 if negative (R130). -/
def localSeconds (wall : Nat) (zone : Int) : Nat := ((wall : Int) + zone * 60).toNat

/-- The weekday of a calendar or accounting day, 0 being Monday (R130, R131). -/
def weekdayOf (day : Nat) : Nat := (day + 5) % 7

/-- The minute of day (R130). -/
def minuteOfDay (localSecs : Nat) : Nat := localSecs % 86400 / 60

/-- The accounting day at local seconds (R131). -/
def accountingDay (rollover localSecs : Nat) : Nat := (localSecs - rollover * 3600) / 86400

/-- The accounting week of an accounting day (R131). -/
def accountingWeek (weekStart day : Nat) : Nat := (day + (12 - weekStart) % 7) / 7

/-- Whether an accounting day is of the weekend class (R131). -/
def weekendDay (weekend : BitVec 7) (day : Nat) : Bool := weekend.getLsbD (weekdayOf day)

/-- The day class of the stored accounting day, weekday while it is unknown (R131, R192). -/
def State.weekendClass (s : State) : Bool :=
  match s.vtu.acct with
  | none => false
  | some a => weekendDay s.sc.settings.weekend a.day

/-- The current local seconds; none while the clock is UNSET (R130). -/
def State.localNow (s : State) : Option Nat := s.wallNow.map fun w => localSeconds w s.sc.settings.zone

/-! ### Curfews -/

/-- A curfew window covers a minute of a weekday (R91, R146). -/
def Curfew.covers (c : Curfew) (weekday minute : Nat) : Bool :=
  if c.start < c.stop then c.days.getLsbD weekday && decide (c.start ≤ minute ∧ minute < c.stop)
  else
    (decide (c.start ≤ minute) && c.days.getLsbD weekday)
      || (decide (minute < c.stop) && c.days.getLsbD ((weekday + 6) % 7))

/-- A curfew list covers local seconds (R146). -/
def curfewCovers (curfews : List Curfew) (localSecs : Nat) : Bool :=
  curfews.any fun c => c.covers (weekdayOf (localSecs / 86400)) (minuteOfDay localSecs)

/-- The curfew state of a child as it reckons now: inactive while the clock is UNSET (R146). -/
def State.curfewNow (s : State) (c : Fin 7) : Bool :=
  match s.localNow with
  | none => false
  | some l => curfewCovers (s.child c).curfews l

/-- The recomputation of one child's curfew state; only a valid profile holds one (R146, R147). -/
def recomputeCurfew (c : Fin 7) (s : State) : State :=
  if (s.child c).valid then s.setCurfew c (s.curfewNow c) else s

/-! ### Limits -/

/-- The allowance of the day class, in minutes. -/
def Profile.allowance (p : Profile) (weekend : Bool) : Nat := if weekend then p.weekend else p.weekday

/-- The daily limit, none where unlimited (R134). -/
def dailyLimit (p : Profile) (u : Usage) (weekend : Bool) : Option Nat :=
  if p.allowance weekend = 1440 then none else some (min 86400 (p.allowance weekend * 60 + u.carry + u.bonus))

/-- The weekly limit, none where unlimited (R134). -/
def weeklyLimit (p : Profile) (u : Usage) : Option Nat :=
  if p.weekly = 10080 then none else some (min 604800 (p.weekly * 60 + u.weekBonus))

/-- The remaining time: the smaller of the finite terms, none where unlimited (R134). -/
def remainingTime (p : Profile) (u : Usage) (weekend : Bool) : Option Nat :=
  match dailyLimit p u weekend, weeklyLimit p u with
  | none, none => none
  | some d, none => some (d - u.today)
  | none, some w => some (w - u.week)
  | some d, some w => some (min (d - u.today) (w - u.week))

/-- A child's remaining time now (R134). -/
def State.remainingChild (s : State) (c : Fin 7) : Option Nat :=
  remainingTime (s.child c) (s.usage c) s.weekendClass

/-- A profile's remaining time; profile 0's is unlimited (R82, R124). -/
def State.remaining (s : State) (p : Fin 8) : Option Nat :=
  (childOf p).bind s.remainingChild

/-- Whether a remaining time is above 0, unlimited counting as greater than any finite time. -/
def aboveZero : Option Nat → Bool
  | none => true
  | some r => decide (0 < r)

end Sys2Proof.Machine
end

