-- ==== Sys2Proof/Machine/Decision.lean ====
section
/-! DEFINITION. The Slot Decision Unit: the decision function, enforcement, re-evaluation, the hold, binds, and the
reports that re-evaluate slots (R103 to R127). -/

namespace Sys2Proof.Machine

/-! ### What is judged -/

/-- The current item key of an item with a current event key (R104); NONE has no key. -/
def itemKey (item : Item) (current : Option Key) : Option ItemKey :=
  match item with
  | .nothing => none
  | .live service =>
      match current with
      | some k => some (.event k)
      | none => some (.gap service)
  | .recording r => some (.title r.title)
  | .external input => some (.input input)

/-- The service an item names: a LIVE item's, and a RECORDING's where present (R107). -/
def Item.service : Item → Option Nat
  | .nothing => none
  | .live service => some service
  | .recording r => r.service
  | .external _ => none

/-- The service-table entry of a service (R92). -/
def serviceEntry (t : List ServiceEntry) (service : Nat) : Option ServiceEntry :=
  t.find? fun e => e.service = service

/-- A service's default rating list: empty where it has no entry or no default rating (R93). -/
def defaultRatings (t : List ServiceEntry) (service : Nat) : List Rating :=
  match serviceEntry t service with
  | none => []
  | some e => e.ratings

/-- A service's default category: 0 where it has no entry (R92). -/
def defaultCategory (t : List ServiceEntry) (service : Nat) : Fin 4 :=
  match serviceEntry t service with
  | none => 0
  | some e => e.category

/-- The effective ratings and flags of an item whose current event is `event` (R108). -/
def effective (t : List ServiceEntry) (item : Item) (event : Option Entry) : List Rating × BitVec 8 :=
  match item with
  | .nothing => ([], 0)
  | .live service =>
      match event with
      | some e => (e.ratings, e.flags)
      | none => (defaultRatings t service, 0)
  | .recording r => (r.ratings, r.flags)
  | .external _ => ([], 0)

/-- An unrated gap: a LIVE item with no current event whose service has no default rating (R113). -/
def unratedGap (t : List ServiceEntry) (item : Item) (event : Option Entry) : Bool :=
  match item, event with
  | .live service, none => (defaultRatings t service).isEmpty
  | _, _ => false

/-! ### The decision function -/

/-- A decision with the number of the gate or step that gave it (R107, R108, R155). -/
structure Verdict where
  decision : Decision
  step : Nat
  deriving DecidableEq, Repr

/-- Gate 6, the service gate, for an item naming service `service` (R107). -/
def serviceGate (t : List ServiceEntry) (p : Fin 8) (mode : ServiceMode) (service : Nat) : Option Verdict :=
  match serviceEntry t service with
  | some e =>
      if inSet e.block p.val then some { decision := .blocked .service, step := 6 }
      else if inSet e.allow p.val then some { decision := .clear, step := 6 }
      else if mode.isAllowList then some { decision := .blocked .service, step := 6 }
      else none
  | none => if mode.isAllowList then some { decision := .blocked .service, step := 6 } else none

/-- An extension in force covers an item key (R107 gate 5, R142). -/
def Usage.extensionCovers (u : Usage) (key : Option ItemKey) : Bool :=
  match u.ext with
  | none => false
  | some e => key = some e.key

/-- Gates 2 to 6 (R107) for profile `p` with curfew `curfew` and an item with key `key`. -/
def gates (s : State) (p : Fin 8) (curfew : Bool) (item : Item) (key : Option ItemKey) : Option Verdict :=
  match childOf p with
  | none => some { decision := .clear, step := 2 }
  | some c =>
      if (s.child c).suspended then some { decision := .blocked .suspended, step := 3 }
      else if curfew then some { decision := .blocked .curfew, step := 4 }
      else if (s.usage c).exhausted && !(s.usage c).extensionCovers key then
        some { decision := .blocked .time, step := 5 }
      else item.service.bind (serviceGate s.pss.services p (s.child c).mode)

/-- A rating pair is above the profile's ceiling for its scheme (R89). -/
def Profile.overCeiling (p : Profile) (r : Rating) : Bool := decide (p.ceilings[r.scheme] < r.value)

/-- Steps 7 to 10 (R108) with `held` saying that step 7's hold gives PENDING. -/
def judgeRatings (p : Profile) (ratings : List Rating) (flags : BitVec 8) (held : Bool) : Verdict :=
  if ratings.isEmpty && flags = 0 then
    if held then { decision := .pending, step := 7 }
    else
      match p.unrated with
      | .allow => { decision := .clear, step := 7 }
      | .ask => { decision := .blocked .unrated, step := 7 }
      | .block => { decision := .blocked .unrated, step := 7 }
  else if ratings.any p.overCeiling then { decision := .blocked .rating, step := 8 }
  else if flags &&& p.blocked ≠ 0 then { decision := .blocked .content, step := 9 }
  else { decision := .clear, step := 10 }

/-- The profile settings the ratings are judged by: a child's, or for profile 0 none, since gate 2 has decided. -/
def State.settingsOf (s : State) (p : Fin 8) : Profile :=
  match childOf p with
  | none => .invalid
  | some c => s.child c

/-- Gates 2 to 6 and steps 7 to 10 on one item (R107, R108). -/
def judge (s : State) (p : Fin 8) (curfew : Bool) (item : Item) (event : Option Entry) (held : Bool) : Verdict :=
  match gates s p curfew item (itemKey item (event.map Entry.key)) with
  | some v => v
  | none =>
      let eff := effective s.pss.services item event
      judgeRatings (s.settingsOf p) eff.1 eff.2 held

/-- The curfew state of a profile as VTU holds it: profile 0 has none (R82, R146). -/
def State.curfewHeld (s : State) (p : Fin 8) : Bool :=
  match childOf p with
  | none => false
  | some c => s.curfewActive c

/-- An unlock has expired (R121). -/
def Expiry.passed (e : Expiry) (s : State) : Bool :=
  match e with
  | .wall t =>
      match s.wallNow with
      | none => false
      | some w => decide (t ≤ w)
  | .uptime t => decide (t ≤ s.vtu.uptime)

/-- A decision an unlock may lift (R109, R119). -/
def Decision.unlockable : Decision → Bool
  | .pending => true
  | .blocked .rating => true
  | .blocked .content => true
  | .blocked .service => true
  | .blocked .unrated => true
  | .blocked .time => false
  | .blocked .curfew => false
  | .blocked .suspended => false
  | .vacant => false
  | .clear => false
  | .unlocked => false

/-- The unlock after step 3 of a re-evaluation: cleared if its key differs from the current item key or it has expired
(R113). -/
def keptUnlock (s : State) (key : Option ItemKey) : Option Unlock → Option Unlock
  | none => none
  | some u => if some u.key = key ∧ ¬ u.expiry.passed s then some u else none

/-! ### Re-evaluation -/

/-- Step 1, position: the current event and the next boundary of a LIVE item at the wall time; both absent in every
other case (R113). -/
def position (s : State) (item : Item) : Option Entry × Option Nat :=
  match item, s.wallNow with
  | .live service, some w => (currentEvent s.prt.entries service w, nextBoundary s.prt.entries service w)
  | _, _ => (none, none)

/-- Step 2, hold: NONE out of an unrated gap; in one, a hold that is NONE starts RUNNING with the hold time, SPENT at
once if that is 0, and any other is kept (R113, R118). -/
def nextHold (holdTime : Nat) (gap : Bool) (h : Hold) : Hold :=
  if gap then
    match h with
    | .none => if holdTime = 0 then .spent else .running holdTime
    | .running n => .running n
    | .spent => .spent
  else .none

def Hold.isRunning : Hold → Bool
  | .none => false
  | .running _ => true
  | .spent => false

/-- Step 5, enforcement from the new decision, the picture windows and the enforcement before (R110). -/
def nextEnforcement (d : Decision) (picture : Bool) (e : Enforcement) : Enforcement :=
  if d.permits then
    if picture then
      match e with
      | .hiding => .releasing
      | .releasing => .releasing
      | .showing => .showing
    else .showing
  else .hiding

/-- The decision function on a slot (R107 to R109): gate 1, then the gates and steps, then the unlock. -/
def decideSlot (s : State) (x : Slot) (event : Option Entry) : Decision :=
  match x.item with
  | .nothing => .vacant
  | .live _ | .recording _ | .external _ =>
      let held := unratedGap s.pss.services x.item event && x.hold.isRunning
      let d := (judge s x.bound (s.curfewHeld x.bound) x.item event held).decision
      if d.unlockable && x.unlock.isSome then .unlocked else d

/-- A slot record as steps 2 to 5 of a re-evaluation leave it, step 1 having found the position `pos` (R113). -/
def reevaluatedAt (pos : Option Entry × Option Nat) (s : State) (x : Slot) : Slot :=
  let current := pos.1.map Entry.key
  let hold := nextHold s.sc.settings.hold (unratedGap s.pss.services x.item pos.1) x.hold
  let unlock := keptUnlock s (itemKey x.item current) x.unlock
  let y := { x with current := current, boundary := pos.2, hold := hold, unlock := unlock,
                    holdDue := x.holdDue && hold.isRunning && x.hold.isRunning }
  let d := decideSlot s y pos.1
  { y with decision := d, enforcement := nextEnforcement d x.picture x.enforcement }

/-- A slot record as the five steps of a re-evaluation leave it (R113). -/
def reevaluated (s : State) (x : Slot) : Slot := reevaluatedAt (position s x.item) s x

/-- A re-evaluated slot record takes slot `i`'s place; DECISION is raised where the decision or its reason differs from the
one slot `i` held (R112). -/
def placeSlot (i : Fin 4) (y : Slot) (s : State) : State :=
  let t := s.setSlot i y
  if y.decision = (s.slot i).decision then t else t.raise .decision

/-- A slot record put in place of slot `i`'s, re-evaluated (R113). -/
def reevaluateAs (i : Fin 4) (x : Slot) (s : State) : State := placeSlot i (reevaluated s x) s

/-- A re-evaluation of slot `i` (R113). -/
def reevaluate (i : Fin 4) (s : State) : State := reevaluateAs i (s.slot i) s

/-- The slots that `hit` picks are re-evaluated, once each, in ascending order (R114). -/
def reevaluateWhere (hit : Slot → Bool) (s : State) : State :=
  forSlots (fun i t => if hit (t.slot i) then reevaluate i t else t) s

/-! ### Reports to SDU -/

/-- A report of a PRT change on services: the slots LIVE on one of them (R71). -/
def reportServices (services : List Nat) (s : State) : State :=
  reevaluateWhere (fun x => match x.item with
    | .live service => services.contains service
    | _ => false) s

/-- A report of a service-table change of a service: slots LIVE on it and RECORDING slots carrying it (R95). -/
def reportServiceEntry (service : Nat) (s : State) : State :=
  reevaluateWhere (fun x => x.item.service = some service) s

/-- A report of a profile: the slots bound to it (R87, R115). -/
def reportProfile (p : Fin 8) (s : State) : State :=
  reevaluateWhere (fun x => x.bound = p) s

/-! ### Binds and frame starts -/

/-- A slot record with its pending profile applied, before the re-evaluation (R127 steps 1 to 3). -/
def Slot.withBound (x : Slot) (p : Fin 8) : Slot :=
  { x with bound := p, pending := none, unlock := none, countdownDue := false }

/-- Applying the pending profile of slot `i`, if one is waiting (R127). -/
def applyPending (i : Fin 4) (s : State) : State :=
  match (s.slot i).pending with
  | none => s
  | some q => reevaluateAs i ((s.slot i).withBound q.profile) s

/-- RELEASING becomes SHOWING (R106, R111). -/
def Slot.released (x : Slot) : Slot :=
  match x.enforcement with
  | .releasing => { x with enforcement := .showing }
  | .showing => x
  | .hiding => x

/-- SDU takes a frame start for slot `i`: RELEASING ends, then the pending profile is applied (R111). -/
def takeFrameStart (i : Fin 4) (s : State) : State :=
  applyPending i (s.setSlot i (s.slot i).released)

/-- WD's report of slot `i`'s PICTURE window count crossing zero: on NONE, RELEASING ends and a pending profile is
applied; on SOME nothing more changes at once (R106). -/
def reportPicture (i : Fin 4) (some? : Bool) (s : State) : State :=
  let t := s.setSlot i { s.slot i with picture := some? }
  if some? then t else applyPending i (t.setSlot i (t.slot i).released)

/-! ### Permissiveness -/

/-- The rating schemes (R89). -/
def schemeList : List (Fin 4) := [0, 1, 2, 3]

/-- The rank of an unrated policy: ALLOW above ASK above BLOCK (R89). -/
def UnratedPolicy.rank : UnratedPolicy → Nat
  | .allow => 2
  | .ask => 1
  | .block => 0

/-- The ceiling of a profile for a scheme, 15 for profile 0 (R82, R124). -/
def State.ceiling (s : State) (p : Fin 8) (scheme : Fin 4) : Nat :=
  match childOf p with
  | none => 15
  | some c => (s.child c).ceilings[scheme]

/-- The blocked content flags of a profile, none for profile 0. -/
def State.blockedFlags (s : State) (p : Fin 8) : BitVec 8 :=
  match childOf p with
  | none => 0
  | some c => (s.child c).blocked

/-- The unrated policy of a profile, ALLOW for profile 0. -/
def State.unratedOf (s : State) (p : Fin 8) : UnratedPolicy :=
  match childOf p with
  | none => .allow
  | some c => (s.child c).unrated

/-- Remaining time at or below another, unlimited counting as greater than any finite time (R124 part 5). -/
def remainingAtMost : Option Nat → Option Nat → Bool
  | _, none => true
  | none, some _ => false
  | some a, some b => decide (a ≤ b)

/-- `n` is not more permissive than `b`: all five parts of R124. -/
def notMorePermissive (s : State) (n b : Fin 8) : Bool :=
  decide (n ≠ 0)
    && schemeList.all (fun scheme => decide (s.ceiling n scheme ≤ s.ceiling b scheme))
    && decide (s.blockedFlags n &&& s.blockedFlags b = s.blockedFlags b)
    && decide ((s.unratedOf n).rank ≤ (s.unratedOf b).rank)
    && remainingAtMost (s.remaining n) (s.remaining b)

end Sys2Proof.Machine
end

