-- ==== Sys2Proof/Machine/Viewing.lean ====
section
/-! DEFINITION. The Viewing Time Unit: accrual, warning, exhaustion, extension, restoration, rollover, the accounting
tick and the setting of the clock (R135 to R152). -/

namespace Sys2Proof.Machine

/-! ### Accrual -/

/-- The category of a slot's item (R136). -/
def slotCategory (s : State) (x : Slot) : Fin 4 :=
  match x.item with
  | .nothing => 0
  | .live service =>
      match x.current.bind (entryOfKey s.prt.entries) with
      | some e => e.category
      | none => defaultCategory s.pss.services service
  | .recording r => r.category
  | .external _ => 0

/-- A slot contributes to a child profile at a tick (R136). -/
def Slot.contributes (x : Slot) (c : Fin 7) : Bool :=
  decide (x.bound = childNumber c ∧ x.item ≠ .nothing ∧ x.enforcement = .showing ∧ 1 ≤ x.frames)

/-- The profile weight: the largest weight among the contributing slots, 0 when none contributes (R137). -/
def profileWeight (s : State) (c : Fin 7) : Nat :=
  slotList.foldl (fun w i =>
    if (s.slot i).contributes c then max w (s.child c).weights[slotCategory s (s.slot i)] else w) 0

/-- Accrual of a weight in eighths (R137). -/
def accrue (w : Nat) (u : Usage) : Usage :=
  { u with acc := (u.acc + w) % 8, today := min 86400 (u.today + (u.acc + w) / 8),
           week := min 604800 (u.week + (u.acc + w) / 8) }

/-- Whether a remaining time is finite, above 0 and at or below a bound in seconds (R138). -/
def dueForWarning (r : Option Nat) (bound : Nat) : Bool :=
  match r with
  | none => false
  | some n => decide (0 < n ∧ n ≤ bound)

/-- Profile `p` joins the warned-profile set (R196). -/
def State.addWarned (s : State) (p : Fin 8) : State :=
  { s with au.warned := s.au.warned ||| (1#8 <<< p.val) }

/-- The warning test (R138). -/
def warningTest (c : Fin 7) (s : State) : State :=
  if dueForWarning (s.remainingChild c) ((s.child c).warn * 60) && !(s.usage c).warned then
    ((s.setUsage c { s.usage c with warned := true }).addWarned (childNumber c)).raise .warn
  else s

/-! ### The finish-the-show extension -/

/-- An item under way with a known end (R141). -/
structure Candidate where
  key : ItemKey
  expiry : Expiry
  left : Nat
  deriving DecidableEq, Repr

/-- The candidate a slot gives a child profile at the tick: SHOWING, bound to it, LIVE with a current event still
running or RECORDING with a remaining length (R141, R143). -/
def candidateOf (s : State) (c : Fin 7) (x : Slot) : Option Candidate :=
  if x.bound = childNumber c ∧ x.enforcement = .showing then
    match x.item with
    | .nothing => none
    | .live _ =>
        match x.current.bind (entryOfKey s.prt.entries), s.wallNow with
        | some e, some w =>
            some { key := .event e.key, expiry := .wall e.stop, left := e.stop - w }
        | _, _ => none
    | .recording r =>
        match r.remaining, s.wallNow with
        | some n, some w => some { key := .title r.title, expiry := .wall (w + n), left := n }
        | some n, none => some { key := .title r.title, expiry := .uptime (s.vtu.uptime + n), left := n }
        | none, _ => none
    | .external _ => none
  else none

/-- A candidate qualifies when its time to end is above 0 and at or below the extension limit (R141). -/
def Candidate.qualifies (k : Candidate) (limit : Nat) : Bool := decide (0 < k.left ∧ k.left ≤ limit * 60)

/-- The first candidate with the earliest end, so the lowest slot among equal ends (R141). -/
def earliestCandidate : List Candidate → Option Candidate
  | [] => none
  | k :: ks =>
      match earliestCandidate ks with
      | none => some k
      | some j => if j.left < k.left then some j else some k

/-- The candidate the extension grant chooses; none where it grants nothing (R141). -/
def grantChoice (s : State) (c : Fin 7) : Option Candidate :=
  if (s.usage c).extUsed then none
  else
    earliestCandidate ((slotList.filterMap fun i => candidateOf s c (s.slot i)).filter fun k =>
      k.qualifies (s.child c).extLimit)

/-- The extension grant of an exhaustion (R141). -/
def grantExtension (c : Fin 7) (s : State) : State :=
  match grantChoice s c with
  | none => s
  | some k =>
      s.setUsage c { s.usage c with ext := some { key := k.key, expiry := k.expiry }, extUsed := true }

/-- The exhaustion test (R139); the record is marked dirty on exhaustion and on a grant (R185). -/
def exhaustionTest (c : Fin 7) (s : State) : State :=
  if s.remainingChild c = some 0 ∧ (s.usage c).exhausted = false then
    (grantExtension c ((s.setUsage c { s.usage c with exhausted := true }).raise .timeUp)).markDirty (.usage c)
  else s

/-! ### Restoration (R144) -/

/-- Whether a remaining time is greater than a bound, unlimited being greater. -/
def aboveBound (r : Option Nat) (bound : Nat) : Bool :=
  match r with
  | none => true
  | some n => decide (bound < n)

/-- The restoration steps of a child profile: with remaining time above 0, exhaustion is cleared, an extension ends,
warned today is cleared above the threshold, and the profile is reported if one of the first two changed anything;
with none, nothing (R144). The record is marked dirty where the steps are carried out (R185). -/
def restore (c : Fin 7) (s : State) : State :=
  if aboveZero (s.remainingChild c) then
    let u := s.usage c
    let t := (s.setUsage c
      { u with exhausted := false, ext := none,
               warned := u.warned && !aboveBound (s.remainingChild c) ((s.child c).warn * 60) }).markDirty (.usage c)
    if u.exhausted || u.ext.isSome then reportProfile (childNumber c) t else t
  else s

/-! ### Rollover -/

/-- A usage record after a day rollover: the carry measured against the old day class's allowance where the new day is
the next and that allowance finite, 0 otherwise; the day's fields and flags cleared (R149). -/
def rolledUsage (p : Profile) (u : Usage) (weekend adjacent : Bool) : Usage :=
  { u with
    carry := if adjacent && decide (p.allowance weekend ≠ 1440) then
        min (p.carryCap * 60) (p.allowance weekend * 60 - u.today) else 0
    today := 0
    acc := 0
    bonus := 0
    ext := none
    extUsed := false
    warned := false
    exhausted := false }

/-- All seven usage records are marked dirty (R149, R185). -/
def markUsageDirty (s : State) : State := forChildren (fun c t => t.markDirty (.usage c)) s

/-- The day rollover to accounting day `day` (R149; log 19 on the changed marks). -/
def dayRollover (day : Nat) (a : Acct) (s : State) : State :=
  let weekend := weekendDay s.sc.settings.weekend a.day
  let t := forChildren (fun c t =>
    if (t.child c).valid then t.setUsage c (rolledUsage (t.child c) (t.usage c) weekend (day == a.day + 1)) else t) s
  { markUsageDirty t with vtu.acct := some { a with day := day } }

/-- The week check after a day rollover (R150). -/
def weekRollover (s : State) : State :=
  match s.vtu.acct with
  | none => s
  | some a =>
      let week := accountingWeek s.sc.settings.weekStart a.day
      if a.week < week then
        let t := forChildren (fun c t =>
          if (t.child c).valid then t.setUsage c { t.usage c with week := 0, weekBonus := 0 } else t) s
        { t with vtu.acct := some { a with week := week } }
      else s

/-- The rollover check (R148); with A and W unknown it takes the computed day and week and makes no rollover (R192). That
alters the copies of A and W in the usage records (R183) and no field of R132's: it sets neither their dirty marks nor their
changed marks, the model's choice (log 19). -/
def rolloverCheck (s : State) : State :=
  match s.localNow with
  | none => s
  | some l =>
      let day := accountingDay s.sc.settings.rollover l
      match s.vtu.acct with
      | none => { s with vtu.acct := some { day := day, week := accountingWeek s.sc.settings.weekStart day } }
      | some a => if a.day < day then weekRollover (dayRollover day a s) else s

/-! ### The accounting tick -/

/-- One child profile's part of the tick: contribution and accrual, warning test, exhaustion test (R135 part 2). -/
def tickChild (c : Fin 7) (s : State) : State :=
  if (s.child c).valid then
    exhaustionTest c (warningTest c (s.setUsage c (accrue (profileWeight s c) (s.usage c))))
  else s

/-- The zeroing of every slot's frame count (R135 part 3, R140). -/
def zeroFrames (s : State) : State :=
  forSlots (fun i t => t.setSlot i { t.slot i with frames := 0 }) s

/-- The recomputation of every curfew state (R147). -/
def recomputeCurfews (s : State) : State := forChildren recomputeCurfew s

/-- At a minute boundary: local seconds a multiple of 60 with the clock SET (R147). -/
def State.atMinute (s : State) : Bool :=
  match s.localNow with
  | none => false
  | some l => decide (l % 60 = 0)

/-- A child's exhausted flag, extension or curfew state differs between two states (R140, R152). -/
def vtuDiffers (before after : State) (c : Fin 7) : Bool :=
  decide ((before.usage c).exhausted ≠ (after.usage c).exhausted ∨ (before.usage c).ext ≠ (after.usage c).ext
    ∨ before.curfewActive c ≠ after.curfewActive c)

/-- VTU's reports of the child profiles that differ from a state before (R115, R140). -/
def reportDiffering (before after : State) : State :=
  forChildren (fun c t => if vtuDiffers before after c then reportProfile (childNumber c) t else t) after

/-- Parts 1 to 4 of the accounting tick (R135): what VTU, AU and SC hold when the reports are made. -/
def tickBeforeReports (s : State) : State :=
  let t := zeroFrames (forChildren tickChild (rolloverCheck s))
  if t.atMinute then recomputeCurfews t else t

/-- The accounting tick (R135). -/
def tickBody (s : State) : State := reportDiffering s (tickBeforeReports s)

/-! ### Setting the clock (R152) -/

/-- An end held in uptime becomes a wall time: the new wall time plus the seconds of uptime it still had to run
(R117, R143). -/
def Expiry.toWall (e : Expiry) (wall uptime : Nat) : Expiry :=
  match e with
  | .wall t => .wall t
  | .uptime t => .wall (wall + (t - uptime))

/-- Steps 1 and 2 of R152: the clock is SET and every extension's end in uptime is converted. -/
def startClock (wall : Nat) (zone : Int) (s : State) : State :=
  let t := { s with vtu.clock := some { wall := wall, since := s.vtu.uptime }, sc.settings.zone := zone }
  forChildren (fun c t =>
    t.setUsage c { t.usage c with
      ext := (t.usage c).ext.map fun e => { e with expiry := e.expiry.toWall wall s.vtu.uptime } }) t

/-- An extension whose wall end is at or before a wall time (R152 step 3). -/
def Extension.endedBy (e : Extension) (wall : Nat) : Bool :=
  match e.expiry with
  | .wall t => decide (t ≤ wall)
  | .uptime _ => false

/-- Step 3 of R152: every extension whose wall end is at or before the new wall time ends. -/
def endPastExtensions (wall : Nat) (s : State) : State :=
  forChildren (fun c t =>
    if (t.usage c).ext.any fun e => e.endedBy wall then t.setUsage c { t.usage c with ext := none } else t) s

/-- Steps 1 to 5 of R152. -/
def clockBeforeReports (wall : Nat) (zone : Int) (s : State) : State :=
  recomputeCurfews (rolloverCheck (endPastExtensions wall (startClock wall zone s)))

/-- An unlock with its expiry in wall time (R117 step 1). -/
def Unlock.toWall (u : Unlock) (wall uptime : Nat) : Unlock := { u with expiry := u.expiry.toWall wall uptime }

/-- SDU's response to a CLOCK_SET: unlock expiries in uptime are converted, then every slot is re-evaluated (R117). -/
def clockToSlots (wall : Nat) (s : State) : State :=
  reevaluateWhere (fun _ => true)
    (forSlots (fun i t => t.setSlot i
      { t.slot i with unlock := (t.slot i).unlock.map fun u => u.toWall wall s.vtu.uptime }) s)

/-- The setting of the clock (R152), the settings record taking the zone offset and its mark (R129, R168). -/
def setClock (wall : Nat) (zone : Int) (s : State) : State :=
  clockToSlots wall (reportDiffering s ((clockBeforeReports wall zone s).markDirty .settings))

end Sys2Proof.Machine
end

