-- ==== Sys2Proof/Machine/Pin.lean ====
section
/-! DEFINITION. The PIN: compare, failure count and lockout (R96 to R100), and what the acceptance order hands to and
takes from a command's owner (R47, R50). -/

namespace Sys2Proof.Machine

/-- A PIN is required of the commands that need one: the PIN state is SET or UNKNOWN (R46). -/
def State.pinRequired (s : State) : Bool :=
  match s.pss.pin with
  | .unset => false
  | .set _ => true
  | .unknown => true

/-- A compare of a PIN field succeeds: the state is SET, the field well formed and its digits the stored ones (R97). -/
def pinMatches (pin : PinState) (field : Vector Byte 8) : Bool :=
  match pin with
  | .unset => false
  | .set digits => pinDigits field.toList = some digits
  | .unknown => false

/-- The failure count takes a value; each change marks the PIN record dirty (R98; log 18). -/
def State.setFailures (s : State) (n : Nat) : State :=
  if n = s.pss.failures then s else { s with pss.failures := n }.markDirty .pin

/-- The length of the lockout a failure count starts (R99). -/
def lockoutSeconds (count : Nat) : Nat := min (60 * 2 ^ (count - 5)) 3840

/-- A failed compare: the count rises by one, 255 staying 255, and from 5 upward a lockout starts and LOCKOUT is raised
(R98, R99). -/
def failCompare (s : State) : State :=
  let n := min 255 (s.pss.failures + 1)
  let t := s.setFailures n
  if 5 ≤ n then { t with pss.lockout := some (lockoutSeconds n), pss.lockoutDue := false }.raise .lockout else t

/-- The payload of a LOCKED_OUT or PIN_WRONG reply (R50, R201). -/
def pinPayload (s : State) : List Byte := num8 s.pss.failures ++ num16 (s.pss.lockout.getD 0)

/-- What a record's taking tells the command's owner: the lane, the ring slot and the tag, whether the comparison of
R124 waived the PIN and whether the PIN was compared. -/
structure TakeCtx where
  lane : Fin 4
  ring : Fin 64
  tag : BitVec 16
  waived : Bool
  compared : Bool
  deriving DecidableEq, Repr

/-- What steps 6 to 8 of the acceptance order give: the state, the outcome and the payload (R47, R50). -/
structure Taken where
  state : State
  code : ReplyCode
  payload : List Byte
  deriving DecidableEq, Repr

/-- A refusal with the payload its entry gives, empty where it gives none: the state is untouched (R47, R50). -/
def refuse (s : State) (code : ReplyCode) (payload : List Byte) : Taken :=
  { state := s, code := code, payload := payload }

/-- An acceptance, OK or ADJUSTED. -/
def accept (s : State) (adjusted : Bool) (payload : List Byte) : Taken :=
  { state := s, code := if adjusted then .adjusted else .ok, payload := payload }

/-- How a command is checked and carried out: its class, its body length, when it needs the PIN and when the
comparison of R124 waives it (R46), and steps 6 to 8. -/
structure Handler where
  cls : CmdClass
  length : Nat
  needsPin : State → Bool
  waives : State → Bool
  act : TakeCtx → State → Taken

/-- A command that never needs the PIN. -/
def Handler.free (cls : CmdClass) (length : Nat) (act : TakeCtx → State → Taken) : Handler where
  cls := cls
  length := length
  needsPin _ := false
  waives _ := false
  act := act

/-- A command that needs the PIN while one is required. -/
def Handler.gated (cls : CmdClass) (length : Nat) (act : TakeCtx → State → Taken) : Handler where
  cls := cls
  length := length
  needsPin := State.pinRequired
  waives _ := false
  act := act

end Sys2Proof.Machine
end

