-- ==== Sys2Proof/Machine/Summary.lean ====
section
/-! DEFINITION. The content of the REPLY window: the device status block, the live summaries and the reply rings, in
lines of 32 bytes (R51 to R54, R202). -/

namespace Sys2Proof.Machine

/-- The wall time shown in the status block, 0 while UNSET (R52). -/
def State.wallShown (s : State) : List Byte :=
  match s.wallNow with
  | none => num32 0
  | some w => wall32 w

/-- Offsets 0 to 31 of the device status block (R202). The channel state is CT's at the snapshot: a burst classified in
PASS-ONLY whose beats pass once the state is ACTIVE again shows 3, where R52 also says that the field reads ACTIVE to every
reader (log 37). -/
def statusLine (s : State) : List Byte :=
  le16 0x4A43 ++ [1, s.ct.channel.code, flagByte s.vtu.clock.isSome, s.pss.pin.code]
    ++ num8 s.pss.failures ++ [openingByte [s.sc.writing.isSome, s.sc.faultSeen]]
    ++ s.wallShown ++ le16 (s.au.status.zeroExtend 16) ++ le16 (s.au.enable.zeroExtend 16) ++ [s.au.warned]
    ++ [openingByte [s.au.capture.isSome, s.au.capture.any Capture.more],
        (s.au.capture.map fun c => c.kind.code).getD 0, flagByte s.prt.ingest.isSome]
    ++ num16 (s.pss.lockout.getD 0) ++ num16 ((s.prt.ingest.map Ingest.remaining).getD 0)
    ++ num32 ((s.prt.ingest.map Ingest.next).getD 0) ++ num32 0

/-- The status of a lane, 8 bytes (R54, R202). -/
def laneStatus (l : Lane) : List Byte :=
  num8 l.expected.val ++ [flagByte l.toggle] ++ le16 l.replyNo ++ [l.classes.zeroExtend 8, 0, 0, 0]

/-- Offsets 32 to 63 of the device status block (R202). -/
def laneLine (s : State) : List Byte :=
  laneStatus (s.lane 0) ++ laneStatus (s.lane 1) ++ laneStatus (s.lane 2) ++ laneStatus (s.lane 3)

/-- The seconds remaining until a slot's next boundary (R158, R202); absent where there is none. -/
def State.boundaryLeft (s : State) (x : Slot) : Option Nat :=
  match x.boundary, s.wallNow with
  | some b, some w => some (b - w)
  | _, _ => none

/-- The 24 bytes of READ_SLOT's payload and of a slot summary (R158, R202). -/
def slotPayload (s : State) (x : Slot) : List Byte :=
  [openingByte [x.picture, x.current.isSome, x.unlock.isSome, x.unlock.any fun u => u.expiry.isUptime], x.item.code]
    ++ x.item.identity ++ num8 x.bound.val
    ++ (match x.pending with
        | none => [0xFF, 0]
        | some q => num8 q.profile.val ++ num8 q.countdown)
    ++ [x.decision.code, x.decision.reasonCode, x.enforcement.code, x.hold.byte]
    ++ num8 x.frames ++ num16 ((x.current.map Key.event).getD 0)
    ++ orAbsent32 (s.boundaryLeft x) ++ expiry32 (x.unlock.map Unlock.expiry)

/-- A child profile's summary, taken from PSS and VTU (R53); its extension is held with its key and its end (R142). -/
structure ProfileSummary where
  valid : Bool
  suspended : Bool
  remaining : Option Nat
  today : Nat
  week : Nat
  exhausted : Bool
  warned : Bool
  extUsed : Bool
  extension : Option Extension
  curfew : Bool
  deriving DecidableEq, Repr

/-- The summary of a child profile at the snapshot (R53, R142). -/
def State.profileSummary (s : State) (c : Fin 7) : ProfileSummary where
  valid := (s.child c).valid
  suspended := (s.child c).suspended
  remaining := s.remainingChild c
  today := (s.usage c).today
  week := (s.usage c).week
  exhausted := (s.usage c).exhausted
  warned := (s.usage c).warned
  extUsed := (s.usage c).extUsed
  extension := (s.usage c).ext
  curfew := s.curfewActive c

/-- A summary's 32 bytes (R202). The layout gives the extension's end a place and its key none, and makes bytes 16 to 31
zero (log 31). -/
def ProfileSummary.bytes (x : ProfileSummary) : List Byte :=
  if x.valid then
    fit 32 ([openingByte [true, x.exhausted, x.warned, x.extUsed, x.extension.isSome,
              x.extension.any fun e => e.expiry.isUptime, x.curfew], flagByte x.suspended]
      ++ minutes16 x.remaining ++ num32 x.today ++ num32 x.week ++ expiry32 (x.extension.map Extension.expiry))
  else List.replicate 32 0

/-- The summary of a profile in the REPLY window; profile 0's is fixed (R53, R202). -/
def profileLine (s : State) (p : Fin 8) : List Byte :=
  match childOf p with
  | none => fit 32 ([1, 0] ++ num16 0xFFFF)
  | some c => (s.profileSummary c).bytes

/-- The 32 bytes of a reply entry (R200). -/
def ReplyEntry.bytes (e : ReplyEntry) : List Byte :=
  le16 e.number ++ le16 e.tag ++ [e.code, e.outcome, flagByte e.adjusted] ++ num8 e.ringSlot.val ++ fit 24 e.payload

/-- Line `k` of the REPLY window: its 32 bytes from offset `32 * k` (R51). -/
def replyLine (s : State) (k : Nat) : List Byte :=
  if k = 0 then statusLine s
  else if k = 1 then laneLine s
  else if k < 4 then List.replicate 32 0
  else if h : k < 8 then fit 32 (slotPayload s (s.slot ⟨k - 4, by omega⟩))
  else if h : k < 16 then profileLine s ⟨k - 8, by omega⟩
  else if k < 64 then List.replicate 32 0
  else if h : k < 128 then ((s.lane ⟨(k - 64) / 16, by omega⟩).ring[k % 16]'(Nat.mod_lt _ (by decide))).bytes
  else List.replicate 32 0

/-- The `size` bytes of the REPLY window at an offset, a burst's block: zero bytes until start-up has ended (R51,
R56). -/
def replyBlock (s : State) (offset size : Nat) : List Byte :=
  if s.isRunning then ((replyLine s (offset / 32)).drop (offset % 32)).take size else List.replicate size 0

end Sys2Proof.Machine
end

