-- ==== Sys2Proof/Machine/Windows.lean ====
section
/-! DEFINITION. The Window Decoder: the window table, its conditions, and the classification of a burst (R24 to
R39). -/

namespace Sys2Proof.Machine

/-! ### The table -/

/-- A window covers every channel byte address from base to limit (R24). -/
def Window.contains (w : Window) (addr : Nat) : Bool := decide (w.base ≤ addr ∧ addr ≤ w.limit)

/-- Two ranges intersect. -/
def Window.intersects (v w : Window) : Bool := decide (v.base ≤ w.limit ∧ w.base ≤ v.limit)

/-- The valid windows in index order. -/
def WD.valid (wd : WD) : List Window := wd.windows.toList.filterMap id

/-- The valid window that contains a block address (R29). -/
def WD.find (wd : WD) (block : Nat) : Option Window := wd.valid.find? fun w => w.contains block

/-- The number of valid windows of a kind bound to a slot (R25). -/
def WD.countOf (wd : WD) (kind : WindowKind) (slot : Fin 4) : Nat :=
  (wd.valid.filter fun w => w.kind = kind && w.slot = slot).length

/-- The INGEST window, if there is one (R25). -/
def WD.ingestWindow (wd : WD) : Option Window := wd.valid.find? fun w => w.kind = .ingest

/-- The entry indices in ascending order. -/
def windowIndices : List (Fin 16) := [0, 1, 2, 3, 4, 5, 6, 7, 8, 9, 10, 11, 12, 13, 14, 15]

/-- The index of the INGEST entry, if there is one. -/
def WD.ingestIndex (wd : WD) : Option (Fin 16) :=
  windowIndices.find? fun i => wd.windows[i].any fun w => w.kind = .ingest

/-- The table with one entry replaced. -/
def WD.setWindow (wd : WD) (i : Fin 16) (w : Option Window) : WD := { wd with windows := putAt wd.windows i w }

/-- The table takes a new content, and every slot whose PICTURE count crosses zero is reported to SDU (R28, R106). -/
def changeWindows (wd : WD) (s : State) : State :=
  let t := { s with wd := wd }
  forSlots (fun i t =>
    if (s.wd.countOf .picture i = 0) ≠ (wd.countOf .picture i = 0) then
      reportPicture i (decide (wd.countOf .picture i ≠ 0)) t
    else t) t

/-! ### Classification -/

/-- WD's answer to a classification request: the state it leaves, the treatment and the replacement block (R15,
R29). -/
structure Classified where
  state : State
  treatment : Treatment
  repl : List Byte
  deriving DecidableEq, Repr

/-- The fill-tile bytes for a block of `size` bytes (R16, R38). -/
def tileBytes (wd : WD) (block size : Nat) : List Byte :=
  ((wd.tile[block % 64 / 32]'(by omega)).toList.drop (block % 32)).take size

/-- A frame start shown: the count rises by one and stays at 255 (R36 stage 3, R103). -/
def countFrame (i : Fin 4) (s : State) : State :=
  s.setSlot i { s.slot i with frames := min 255 ((s.slot i).frames + 1) }

/-- The lane and ring slot of a CONTROL window block (R30). -/
def stageTarget (base block : Nat) : Treatment :=
  .stageLane ⟨(block - base) / 4096 % 4, Nat.mod_lt _ (by decide)⟩ ⟨(block - base) % 4096 / 64, by omega⟩

/-- A READ in a PICTURE window: a read of the base block is first a frame start, in the three stages of R36; the
treatment follows from the enforcement that results (R33). -/
def classifyPictureRead (w : Window) (block size : Nat) (s : State) : Classified :=
  if block = w.base then
    let t := takeFrameStart w.slot s
    match (t.slot w.slot).enforcement with
    | .showing => { state := countFrame w.slot t, treatment := .pass, repl := [] }
    | .releasing => { state := t, treatment := .pass, repl := [] }
    | .hiding => { state := t, treatment := .fill, repl := tileBytes t.wd block size }
  else
    match (s.slot w.slot).enforcement with
    | .showing => { state := s, treatment := .pass, repl := [] }
    | .releasing => { state := s, treatment := .pass, repl := [] }
    | .hiding => { state := s, treatment := .fill, repl := tileBytes s.wd block size }

/-- The classification of a READ (R29 to R36). -/
def classifyRead (block size : Nat) (s : State) : Classified :=
  match s.wd.find block with
  | none => { state := s, treatment := .pass, repl := [] }
  | some w =>
      match w.kind with
      | .control => { state := s, treatment := .pass, repl := [] }
      | .reply => { state := s, treatment := .reply, repl := replyBlock s (block - w.base) size }
      | .ingest => { state := s, treatment := .pass, repl := [] }
      | .picture => classifyPictureRead w block size s
      | .audio =>
          match (s.slot w.slot).enforcement with
          | .showing => { state := s, treatment := .pass, repl := [] }
          | .releasing => { state := s, treatment := .pass, repl := [] }
          | .hiding => { state := s, treatment := .zeros, repl := List.replicate size 0 }

/-- The treatment of a WRITE into a PICTURE or AUDIO window (R34). -/
def guardTreatment (s : State) (w : Window) : Treatment :=
  if w.guard && (s.slot w.slot).enforcement = .hiding then .mask else .pass

/-- The classification of a WRITE, with the bank, row and column of its command (R29 to R34). -/
def classifyWrite (block : Nat) (bank : BitVec 3) (row col : Nat) (s : State) : Classified :=
  match s.wd.find block with
  | none => { state := s, treatment := .pass, repl := [] }
  | some w =>
      match w.kind with
      | .control => { state := s, treatment := stageTarget w.base block, repl := [] }
      | .reply => { state := s.report .replyWrite block bank row col, treatment := .mask, repl := [] }
      | .ingest =>
          { state := s, treatment := if s.prt.ingest.isSome then .stageIngest else .pass, repl := [] }
      | .picture => { state := s, treatment := guardTreatment s w, repl := [] }
      | .audio => { state := s, treatment := guardTreatment s w, repl := [] }

end Sys2Proof.Machine
end

