-- ==== Sys2Proof/Machine/Query.lean ====
section
/-! DEFINITION. The QUERY commands (R154 to R161): each changes nothing and answers from its owners' state. -/

namespace Sys2Proof.Machine

/-- READ_EVENT's payload at time `t` (R154). -/
def eventPayload (s : State) (service t : Nat) : List Byte :=
  let e := currentEvent s.prt.entries service t
  let b := nextBoundary s.prt.entries service t
  [openingByte [e.isSome, b.isSome]] ++ wall32 t ++ num16 ((e.map Entry.event).getD 0)
    ++ orAbsent32 (e.map Entry.start) ++ orAbsent32 (e.map Entry.duration) ++ num8 ((e.map Entry.version).getD 0)
    ++ num8 ((e.map fun x => x.category.val).getD 0) ++ [(e.map Entry.flags).getD 0]
    ++ (match e with
        | some x => ratingPositions x.ratings
        | none => [0, 0])
    ++ orAbsent32 (b.map fun n => n - t)

/-- READ_EVENT (R154). -/
def readEvent (service : BitVec 16) (time : BitVec 32) : Handler :=
  .free .query 6 fun _ s =>
    match timeField s time with
    | none => refuse s .clockUnset []
    | some t => accept s false (eventPayload s service.toNat t)

/-- A profile's curfew at a time, local time reckoned with the stored zone offset (R155). -/
def curfewAt (s : State) (p : Fin 8) (t : Nat) : Bool :=
  match childOf p with
  | none => false
  | some c => curfewCovers (s.child c).curfews (localSeconds t s.sc.settings.zone)

/-- RATING_CHECK's payload at time `t`; the decision is written as its code, though R155 lets it take two values only (R155,
R201; log 33). -/
def checkPayload (s : State) (p : Fin 8) (service t : Nat) : List Byte :=
  let e := currentEvent s.prt.entries service t
  let v := judge s p (curfewAt s p t) (.live service) e false
  [openingByte [e.isSome, curfewAt s p t, unratedGap s.pss.services (.live service) e], v.decision.code,
      v.decision.reasonCode] ++ num8 v.step ++ num16 ((e.map Entry.event).getD 0)
    ++ num8 (match e with
        | some x => x.category.val
        | none => (defaultCategory s.pss.services service).val)
    ++ minutes16 (s.remaining p)

/-- RATING_CHECK (R155). -/
def ratingCheck (profile : Byte) (service : BitVec 16) (time : BitVec 32) : Handler :=
  .free .query 7 fun _ s =>
    match validProfileField s profile with
    | none => refuse s .badProfile []
    | some p =>
        match timeField s time with
        | none => refuse s .clockUnset []
        | some t => accept s false (checkPayload s p service.toNat t)

/-- The fixed settings of the open profile (R82). -/
def openProfile : Profile where
  valid := true
  suspended := false
  ceilings := Vector.replicate 4 15
  blocked := 0
  unrated := .allow
  mode := .openMode
  weekday := 1440
  weekend := 1440
  weekly := 10080
  carryCap := 0
  warn := 1
  extLimit := 0
  weights := Vector.replicate 4 0
  curfews := []

/-- A profile's settings as read (R82, R83). -/
def State.profileRead (s : State) (p : Fin 8) : Profile :=
  match childOf p with
  | none => openProfile
  | some c => s.child c

/-- A curfew window in 5 bytes (R201); one beyond the count reads as zero (R156). -/
def curfewBytes : Option Curfew → List Byte
  | none => [0, 0, 0, 0, 0]
  | some c => [c.days.zeroExtend 8] ++ num16 c.start ++ num16 c.stop

/-- The four parts of READ_PROFILE's payload (R156; log 13). -/
def profilePayload (s : State) (p : Fin 8) (part : Nat) : List Byte :=
  let P := s.profileRead p
  match part with
  | 0 => [openingByte [P.valid, P.suspended, P.mode.isAllowList]] ++ P.ceilings.toList.flatMap num8
      ++ [P.blocked, P.unrated.code]
  | 1 => num16 P.weekday ++ num16 P.weekend ++ num16 P.weekly ++ num8 P.carryCap ++ num8 P.warn ++ num8 P.extLimit
      ++ P.weights.toList.flatMap num8
  | 2 => num8 P.curfews.length ++ curfewBytes P.curfews[0]? ++ curfewBytes P.curfews[1]?
  | _ => [openingByte [s.curfewHeld p]] ++ curfewBytes P.curfews[2]? ++ curfewBytes P.curfews[3]?

/-- READ_PROFILE (R156). -/
def readProfile (profile part : Byte) : Handler :=
  .free .query 2 fun _ s =>
    match profileField profile with
    | none => refuse s .badProfile []
    | some p => if 3 < part.toNat then refuse s .badValue [] else accept s false (profilePayload s p part.toNat)

/-- READ_USAGE's payload (R157). -/
def usagePayload (s : State) (p : Fin 8) : List Byte :=
  match childOf p with
  | none => List.replicate 22 0 ++ minutes16 none
  | some c =>
      let u := s.usage c
      [openingByte [u.ext.isSome, u.ext.any fun e => e.expiry.isUptime, u.extUsed, u.warned, u.exhausted]]
        ++ num32 u.today ++ num8 u.acc ++ num32 u.week ++ num16 u.carry ++ num16 u.bonus ++ num32 u.weekBonus
        ++ expiry32 (u.ext.map Extension.expiry) ++ minutes16 (s.remainingChild c)

/-- READ_USAGE (R157). -/
def readUsage (profile : Byte) : Handler :=
  .free .query 1 fun _ s =>
    match validProfileField s profile with
    | none => refuse s .badProfile []
    | some p => accept s false (usagePayload s p)

/-- READ_SLOT (R158). -/
def readSlot (slot : Byte) : Handler :=
  .free .query 1 fun _ s =>
    match slotField slot with
    | none => refuse s .badSlot []
    | some i => accept s false (slotPayload s (s.slot i))

/-- READ_SERVICE (R159). An absent service is refused NOT_FOUND with the number of entries in the table, and the PRT count,
which answers whether or not the service has an entry, follows it (log 34). -/
def readService (service : BitVec 16) : Handler :=
  .free .query 2 fun _ s =>
    match serviceEntry s.pss.services service.toNat with
    | none => refuse s .notFound
        (num16 s.pss.services.length ++ num16 (countOfService s.prt.entries service.toNat))
    | some e => accept s false
        (ratingPositions e.ratings ++ num8 e.category.val ++ [e.allow, e.block] ++ num16 s.pss.services.length
          ++ num16 (countOfService s.prt.entries service.toNat))

/-- The capture record as a payload; an empty record is all zero (R160). -/
def capturePayload : Option Capture → List Byte
  | none => []
  | some c => [openingByte [true, c.more], c.kind.code] ++ num32 c.block ++ [c.bank.zeroExtend 8] ++ num16 c.row
      ++ num16 c.col

/-- READ_CAPTURE (R160). -/
def readCapture : Handler :=
  .free .query 0 fun _ s => accept s false (capturePayload s.au.capture)

/-- A kind that has a slot and a write-guard (R24). -/
def WindowKind.hasSlot : WindowKind → Bool
  | .picture => true
  | .audio => true
  | .control => false
  | .reply => false
  | .ingest => false

/-- READ_WINDOW's payload for an entry (R161). -/
def windowPayload (s : State) (i : Fin 16) : List Byte :=
  match s.wd.windows[i] with
  | none => [openingByte [false, false, s.wd.locked]] ++ num8 i.val
  | some w =>
      let bound := w.kind.hasSlot
      [openingByte [true, bound && w.guard, s.wd.locked]] ++ num8 i.val ++ [w.kind.code] ++ num32 w.base
        ++ num32 w.limit ++ num8 (if bound then w.slot.val else 0)
        ++ num8 (if bound then s.wd.countOf .picture w.slot else 0)
        ++ num8 (if bound then s.wd.countOf .audio w.slot else 0)

/-- READ_WINDOW's payload for a quarter of the fill tile (R161). -/
def tilePayload (s : State) (half : Fin 2) (part : Nat) : List Byte :=
  [openingByte [s.wd.locked]] ++ (s.wd.tile[half].toList.drop (part * 16)).take 16 ++ num8 half.val ++ num8 part

/-- READ_WINDOW (R161). -/
def readWindow (index part : Byte) : Handler :=
  .free .query 2 fun _ s =>
    if h : index.toNat < 16 then
      if part = 0 then accept s false (windowPayload s ⟨index.toNat, h⟩) else refuse s .badValue []
    else if h : index.toNat < 18 then
      if part.toNat < 2 then accept s false (tilePayload s ⟨index.toNat - 16, by omega⟩ part.toNat)
      else refuse s .badValue []
    else refuse s .badValue []

end Sys2Proof.Machine
end

