-- ==== Sys2Proof/Machine/Admin.lean ====
section
/-! DEFINITION. The ADMIN commands (R84 to R96, R101, R144, R171 to R179). -/

namespace Sys2Proof.Machine

/-! ### PROFILE_WRITE -/

/-- The four settings bytes of a vector as numbers. -/
def numbers {n : Nat} (v : Vector Byte n) : Vector Nat n := v.map fun b => b.toNat

/-- The settings fields are in their ranges; none is BAD_VALUE (R84). -/
def settingsInRange (f : ProfileFields) : Bool :=
  (numbers f.ceilings).toList.all (fun n => decide (n ≤ 15))
    && decide (f.weekday.toNat ≤ 1440 ∧ f.weekend.toNat ≤ 1440 ∧ f.weekly.toNat ≤ 10080 ∧ f.carryCap.toNat ≤ 240
      ∧ f.warn.toNat ≤ 30 ∧ f.extLimit.toNat ≤ 60)
    && (numbers f.weights).toList.all (fun n => decide (n ≤ 8))

/-- A profile record with the settings of a PROFILE_WRITE, a warn threshold of 0 stored as 1; none is BAD_VALUE. State
and curfew list are kept (R84, R85). -/
def writtenProfile (p : Profile) (f : ProfileFields) : Option Profile :=
  match unratedField f.unrated, modeField f.mode with
  | some unrated, some mode =>
      if settingsInRange f then
        some { p with
          valid := true
          ceilings := numbers f.ceilings
          blocked := f.blocked
          unrated := unrated
          mode := mode
          weekday := f.weekday.toNat
          weekend := f.weekend.toNat
          weekly := f.weekly.toNat
          carryCap := f.carryCap.toNat
          warn := max 1 f.warn.toNat
          extLimit := f.extLimit.toNat
          weights := numbers f.weights }
      else none
  | _, _ => none

/-- The settings stored over an INVALID profile: ACTIVE, an empty curfew list, a zero usage record, an inactive curfew
(R85, R147); the usage record is marked dirty (R185). -/
def createProfile (c : Fin 7) (p : Profile) (s : State) : State :=
  (((s.setChild c { p with suspended := false, curfews := [] }).setUsage c .zero).setCurfew c false).markDirty (.usage c)

/-- Step 1 of R86: a carry above the new cap is lowered to it, and the usage record marked dirty. -/
def lowerCarry (c : Fin 7) (s : State) : State :=
  if (s.child c).carryCap * 60 < (s.usage c).carry then
    (s.setUsage c { s.usage c with carry := (s.child c).carryCap * 60 }).markDirty (.usage c)
  else s

/-- The settings stored over a valid profile, and its usage record adjusted (R85, R86). -/
def rewriteProfile (c : Fin 7) (p : Profile) (s : State) : State := restore c (lowerCarry c (s.setChild c p))

/-- PROFILE_WRITE's effect (R85, R86, R87, R102). -/
def storeProfile (c : Fin 7) (p : Profile) (s : State) : State :=
  let t := if (s.child c).valid then rewriteProfile c p s else createProfile c p s
  reportProfile (childNumber c) (t.markDirty (.profile c))

/-- PROFILE_WRITE's payload (R171; log 13). -/
def profileWritePayload (c : Fin 7) (p : Profile) (s t : State) : List Byte :=
  let valid := (s.child c).valid
  [openingByte [!valid, (t.child c).suspended, valid && decide (p.carryCap * 60 < (s.usage c).carry),
      valid && aboveZero ((lowerCarry c (s.setChild c p)).remainingChild c)]]
    ++ num16 (t.usage c).carry ++ minutes16 (t.remainingChild c)

/-- PROFILE_WRITE (R171). -/
def profileWrite (profile : Byte) (fields : ProfileFields) : Handler :=
  .gated .admin 21 fun _ s =>
    match (profileField profile).bind childOf with
    | none => refuse s .badProfile []
    | some c =>
        match writtenProfile (s.child c) fields with
        | none => refuse s .badValue []
        | some p =>
            let t := storeProfile c p s
            accept t (fields.warn = 0) (profileWritePayload c p s t)

/-! ### The other profile commands -/

/-- PROFILE_CURFEW's effect (R85, R87, R102, R147). -/
def storeCurfews (c : Fin 7) (cs : List Curfew) (s : State) : State :=
  reportProfile (childNumber c)
    ((recomputeCurfew c (s.setChild c { s.child c with curfews := cs })).markDirty (.profile c))

/-- PROFILE_CURFEW (R91, R172). -/
def profileCurfew (profile count : Byte) (windows : Vector CurfewField 4) : Handler :=
  .gated .admin 22 fun _ s =>
    match validChildField s profile with
    | none => refuse s .badProfile []
    | some c =>
        if 4 < count.toNat then refuse s .badValue []
        else
          match curfewList count.toNat windows with
          | none => refuse s .badValue []
          | some cs =>
              let t := storeCurfews c cs s
              accept t false ([openingByte [t.curfewActive c]] ++ num8 cs.length)

/-- The state of a child profile set, its record marked dirty and the profile reported (R85, R87, R102). -/
def setSuspended (c : Fin 7) (b : Bool) (s : State) : State :=
  reportProfile (childNumber c) ((s.setChild c { s.child c with suspended := b }).markDirty (.profile c))

/-- The number of slots bound to a profile (R173). -/
def boundCount (s : State) (p : Fin 8) : Nat := (slotList.filter fun i => (s.slot i).bound = p).length

/-- The payload of PROFILE_SUSPEND and PROFILE_RESUME (R173; log 13). -/
def suspendPayload (c : Fin 7) (s t : State) : List Byte :=
  [openingByte [(s.child c).suspended, (t.child c).suspended]] ++ num8 (boundCount s (childNumber c))

/-- PROFILE_SUSPEND (R173). -/
def profileSuspend (profile : Byte) : Handler :=
  .gated .admin 1 fun _ s =>
    match validChildField s profile with
    | none => refuse s .badProfile []
    | some c => accept (setSuspended c true s) false (suspendPayload c s (setSuspended c true s))

/-- PROFILE_RESUME (R173). -/
def profileResume (profile : Byte) : Handler :=
  .gated .admin 1 fun _ s =>
    match validChildField s profile with
    | none => refuse s .badProfile []
    | some c => accept (setSuspended c false s) false (suspendPayload c s (setSuspended c false s))

/-- The first use of a profile by a slot: bound, pending, start-up default, in that order (R174). -/
def useBySlot (s : State) (p : Fin 8) (i : Fin 4) : Option InUse :=
  if (s.slot i).bound = p then some .bound
  else if (s.slot i).pending.any fun q => q.profile = p then some .pending
  else if s.sc.settings.defaults[i] = p then some .slotDefault
  else none

/-- The first use of a profile, tried slot by slot (R101, R174). -/
def firstUse (s : State) (p : Fin 8) : Option (Fin 4 × InUse) :=
  slotList.findSome? fun i => (useBySlot s p i).map fun u => (i, u)

/-- A service entry with a profile taken out of both sets (R101). -/
def ServiceEntry.without (e : ServiceEntry) (p : Fin 8) : ServiceEntry :=
  { e with allow := e.allow &&& ~~~(1#8 <<< p.val), block := e.block &&& ~~~(1#8 <<< p.val) }

/-- A service entry names a profile in one of its sets. -/
def ServiceEntry.names (e : ServiceEntry) (p : Fin 8) : Bool := inSet e.allow p.val || inSet e.block p.val

/-- PROFILE_REMOVE's effect (R101). -/
def dropProfile (c : Fin 7) (s : State) : State :=
  let p := childNumber c
  let t := (((s.setChild c .invalid).markDirty (.profile c)).setUsage c .zero).markDirty (.usage c)
  let t := t.setCurfew c false
  let t := { t with pss.services := t.pss.services.map fun e => e.without p }
  if s.pss.services.any fun e => e.names p then t.markDirty .services else t

/-- PROFILE_REMOVE (R101, R174; log 16 for the code of the use). -/
def profileRemove (profile : Byte) : Handler :=
  .gated .admin 1 fun _ s =>
    match validChildField s profile with
    | none => refuse s .badProfile []
    | some c =>
        match firstUse s (childNumber c) with
        | some (i, use) => refuse s .inUse (num8 i.val ++ [Config.inUseCode use])
        | none =>
            accept (dropProfile c s) false
              (num16 (s.pss.services.filter fun e => e.names (childNumber c)).length)

/-! ### The service table -/

/-- A new or replaced service entry at its place in the order (R92, R94). -/
def putService (e : ServiceEntry) : List ServiceEntry → List ServiceEntry
  | [] => [e]
  | x :: xs =>
      if e.service < x.service then e :: x :: xs
      else if e.service = x.service then e :: xs
      else x :: putService e xs

/-- A new service table: its record is marked dirty and the service reported (R95, R102). -/
def storeServices (service : Nat) (t : List ServiceEntry) (s : State) : State :=
  reportServiceEntry service ({ s with pss.services := t }.markDirty .services)

/-- The service entry of a SERVICE_WRITE's fields; none is BAD_VALUE (R94, R175). -/
def serviceFields (service : BitVec 16) (rating0 rating1 category allow block : Byte) : Option ServiceEntry :=
  match ratingField rating0 rating1, categoryField category, profileSetField allow, profileSetField block with
  | some ratings, some cat, some a, some b =>
      if a &&& b ≠ 0 then none
      else some { service := service.toNat, ratings := ratings, category := cat, allow := a, block := b }
  | _, _, _, _ => none

/-- SERVICE_WRITE (R175). -/
def serviceWrite (service : BitVec 16) (rating0 rating1 category allow block : Byte) : Handler :=
  .gated .admin 7 fun _ s =>
    match serviceFields service rating0 rating1 category allow block with
    | none => refuse s .badValue []
    | some e =>
        let new := (serviceEntry s.pss.services e.service).isNone
        if new && decide (256 ≤ s.pss.services.length) then refuse s .tableFull (num16 s.pss.services.length)
        else
          let table := putService e s.pss.services
          accept (storeServices e.service table s) false ([openingByte [new]] ++ num16 table.length)

/-- SERVICE_REMOVE (R175). -/
def serviceRemove (service : BitVec 16) : Handler :=
  .gated .admin 2 fun _ s =>
    match serviceEntry s.pss.services service.toNat with
    | none => refuse s .notFound []
    | some _ =>
        let table := s.pss.services.filter fun e => e.service ≠ service.toNat
        accept (storeServices service.toNat table s) false (num16 table.length)

/-! ### Time grants -/

/-- The payload of ALLOWANCE_GRANT and USAGE_RESET (R176). -/
def grantPayload (c : Fin 7) (restored : Bool) (t : State) : List Byte :=
  let u := t.usage c
  [openingByte [u.exhausted, restored]] ++ num16 u.bonus ++ num32 u.weekBonus ++ num32 u.today ++ num32 u.week
    ++ minutes16 (t.remainingChild c)

/-- A usage record with granted minutes (R176). -/
def Usage.granted (u : Usage) (minutes : Nat) : Usage :=
  { u with bonus := min 43200 (u.bonus + minutes * 60), weekBonus := min 302400 (u.weekBonus + minutes * 60) }

/-- A grant clamps its minutes, the bonus or the week bonus (R176). -/
def grantClamps (u : Usage) (minutes : Nat) : Bool :=
  decide (240 < minutes ∨ 43200 < u.bonus + min 240 minutes * 60 ∨ 302400 < u.weekBonus + min 240 minutes * 60)

/-- ALLOWANCE_GRANT (R144, R176). -/
def allowanceGrant (profile minutes : Byte) : Handler :=
  .gated .admin 2 fun _ s =>
    match validChildField s profile with
    | none => refuse s .badProfile []
    | some c =>
        if minutes = 0 then refuse s .badValue []
        else
          let t := (s.setUsage c ((s.usage c).granted (min 240 minutes.toNat))).markDirty (.usage c)
          let r := restore c t
          accept r (grantClamps (s.usage c) minutes.toNat) (grantPayload c (aboveZero (t.remainingChild c)) r)

/-- A usage record reset, the week's figures too where asked (R176). -/
def Usage.reset (u : Usage) (week : Bool) : Usage :=
  { u with today := 0, acc := 0, week := if week then 0 else u.week, weekBonus := if week then 0 else u.weekBonus }

/-- USAGE_RESET (R144, R176). -/
def usageReset (profile week : Byte) : Handler :=
  .gated .admin 2 fun _ s =>
    match validChildField s profile with
    | none => refuse s .badProfile []
    | some c =>
        match flagField week with
        | none => refuse s .badValue []
        | some w =>
            let t := (s.setUsage c ((s.usage c).reset w)).markDirty (.usage c)
            let r := restore c t
            accept r false (grantPayload c (aboveZero (t.remainingChild c)) r)

/-! ### PIN, lanes and settings -/

/-- The PIN state a new PIN's digits give: none of them UNSET, 4 to 8 SET (R96). -/
def pinStateOf (digits : List Nat) : PinState :=
  match digits with
  | [] => .unset
  | d :: ds => .set (d :: ds)

/-- A new PIN's digits: malformed, or 1 to 3 digits, is BAD_VALUE (R177). -/
def newPinDigits (field : Vector Byte 8) : Option (List Nat) :=
  (pinDigits field.toList).filter fun ds => decide (ds.length = 0 ∨ 4 ≤ ds.length)

/-- PIN_SET (R96, R177). The PIN state, one of two in this reply, is written as its code (R201, R202; log 39). -/
def pinSet (newPin : Vector Byte 8) : Handler :=
  .gated .admin 8 fun _ s =>
    match newPinDigits newPin with
    | none => refuse s .badValue []
    | some ds =>
        let t := { s with pss.pin := pinStateOf ds, pss.failures := 0 }.markDirty .pin
        accept t false ([t.pss.pin.code] ++ num8 ds.length)

/-- A lane field LANE_PERMIT may name: 1 to 3 (R178). -/
def permitLane (b : Byte) : Option (Fin 4) :=
  if h : 1 ≤ b.toNat ∧ b.toNat < 4 then some ⟨b.toNat, h.2⟩ else none

/-- LANE_PERMIT (R45, R178). -/
def lanePermit (lane classes : Byte) : Handler :=
  .gated .admin 2 fun _ s =>
    match permitLane lane, classSetField classes with
    | some n, some set =>
        accept ((s.setLane n { s.lane n with classes := set }).markDirty .lane) false
          (num8 n.val ++ [(s.lane n).classes.zeroExtend 8, set.zeroExtend 8])
    | _, _ => refuse s .badValue []

/-- The settings of a SETTINGS_WRITE, or the outcome step 6 refuses them with (R179). The zone offset is kept. -/
def settingsFields (s : State) (hold rollover weekend weekStart : Byte) (defaults : Vector Byte 4) :
    Except ReplyCode Settings :=
  match daySetField weekend with
  | none => .error .badValue
  | some days =>
      if 23 < rollover.toNat ∨ 6 < weekStart.toNat then .error .badValue
      else
        match validProfileField s defaults[0], validProfileField s defaults[1], validProfileField s defaults[2],
            validProfileField s defaults[3] with
        | some a, some b, some c, some d =>
            .ok { s.sc.settings with
                  hold := min 30 hold.toNat
                  rollover := rollover.toNat
                  weekend := days
                  weekStart := weekStart.toNat
                  defaults := #v[a, b, c, d] }
        | _, _, _, _ => .error .badProfile

/-- The settings as SETTINGS_WRITE's payload echoes them (R179). -/
def Settings.bytes (t : Settings) : List Byte :=
  num8 t.hold ++ num8 t.rollover ++ [t.weekend.zeroExtend 8] ++ num8 t.weekStart
    ++ (t.defaults.toList.flatMap fun p => num8 p.val) ++ le16 (BitVec.ofInt 16 t.zone)

/-- SETTINGS_WRITE (R179). -/
def settingsWrite (hold rollover weekend weekStart : Byte) (defaults : Vector Byte 4) : Handler :=
  .gated .admin 8 fun _ s =>
    match settingsFields s hold rollover weekend weekStart defaults with
    | .error code => refuse s code []
    | .ok t =>
        accept ({ s with sc.settings := t }.markDirty .settings) (decide (30 < hold.toNat)) t.bytes

end Sys2Proof.Machine
end

