-- ==== Sys2Proof/Machine/Commit.lean ====
section
/-! DEFINITION. The Store Controller's commit: taking a record's contents, beginning, completing and failing a write
(R183 to R188). -/

namespace Sys2Proof.Machine

/-- The contents of a record as its owner holds them (R183, R186). -/
def State.imageOf (s : State) : RecordId → Image
  | .pin => .pin { pin := s.pss.pin, failures := s.pss.failures }
  | .lane => .lane #v[(s.lane 1).classes, (s.lane 2).classes, (s.lane 3).classes]
  | .profile c => .profile c (s.child c)
  | .services => .services s.pss.services
  | .settings => .settings s.sc.settings
  | .usage c => .usage c { usage := s.usage c, acct := s.vtu.acct }

/-- The record an image is of. -/
def Image.record : Image → RecordId
  | .pin _ => .pin
  | .lane _ => .lane
  | .profile c _ => .profile c
  | .services _ => .services
  | .settings _ => .settings
  | .usage c _ => .usage c

/-- The store with an image's record holding it, complete or, while and after a write that has not completed, not
(R186, R187). -/
def Store.put (st : Store) (complete : Bool) : Image → Store
  | .pin r => { st with pin := { content := r, complete := complete } }
  | .lane r => { st with lane := { content := r, complete := complete } }
  | .profile c r => { st with profiles := putAt st.profiles c { content := r, complete := complete } }
  | .services r => { st with services := { content := r, complete := complete } }
  | .settings r => { st with settings := { content := r, complete := complete } }
  | .usage c r => { st with usage := putAt st.usage c { content := r, complete := complete } }

/-- Beginning the write of a usage record clears its changed mark and sets its age to 0 (R186). -/
def State.refreshUsage (s : State) : RecordId → State
  | .usage c => { s with sc.changed := putAt s.sc.changed c false, sc.age := putAt s.sc.age c 0 }
  | .pin | .lane | .profile _ | .services | .settings => s

/-- The beginning of a write: the contents are taken, the dirty mark is cleared, as R186 says and R184 says of the
completion (log 35), and until the write completes the stored record fails its check (R183, R186). -/
def beginWrite (r : RecordId) (s : State) : State :=
  let image := s.imageOf r
  { s with sc.dirty := putAt s.sc.dirty r.place false, sc.writing := some image,
           sc.store := s.sc.store.put false image }.refreshUsage r

/-- The first record in store order that is dirty and has not failed in the running commit (R186, R187). -/
def nextDirty (s : State) : Option RecordId :=
  storeOrder.find? fun r => s.isDirty r && !s.sc.failed[r.place]

/-- An event that leaves a record dirty while no commit is running starts one (R186). -/
def startCommit (s : State) : State :=
  match s.sc.writing with
  | some _ => s
  | none =>
      let t := { s with sc.failed := Vector.replicate 18 false }
      match nextDirty t with
      | some r => beginWrite r t
      | none => s

/-- After a write has ended: the commit goes on to the next dirty record that has not failed in it, or ends; a record
still dirty then starts the next commit at once (R186, R187). -/
def continueCommit (s : State) : State :=
  let t := { s with sc.writing := none }
  match nextDirty t with
  | some r => beginWrite r t
  | none => startCommit { t with sc.failed := Vector.replicate 18 false }

/-- The write under way completes: the stored record holds the contents taken (R186). -/
def completeWrite (s : State) : State :=
  match s.sc.writing with
  | none => s
  | some image => { s with sc.store := s.sc.store.put true image, sc.writing := none }

/-- The write under way fails: its dirty mark is set, STORE is raised and the stored record stays half-written
(R187). -/
def failWrite (s : State) : State :=
  match s.sc.writing with
  | none => s
  | some image =>
      ({ s with sc.writing := none, sc.failed := putAt s.sc.failed image.record.place true }.markDirty
        image.record).raise .store

end Sys2Proof.Machine
end

