-- ==== Sys2Proof/Machine/Guide.lean ====
section
/-! DEFINITION. Changes of the Programme Rating Table and the bulk ingest (R71 to R81), and the GUIDE commands (R162
to R164). -/

namespace Sys2Proof.Machine

/-! ### Changes and their reports -/

/-- The table an insert left stands, and the services it touched are reported (R71); STALE and TABLE_FULL leave the
table as it stood and report nothing (R66). -/
def applyInsert (new : Entry) (r : InsertResult) (s : State) : State :=
  match r with
  | .stored table _ _ evicted =>
      reportServices (new.service :: (evicted.map Entry.service).toList) (s.setEntries table)
  | .stale _ => s
  | .full => s

/-- A withdrawal of the key of an entry held: it is removed and its service reported (R67, R71). -/
def withdraw (k : Key) (s : State) : State :=
  reportServices [k.service] (s.setEntries (withoutKey s.prt.entries k))

/-! ### The ingest run -/

/-- The counts of an ingest as a payload (R164). -/
def Ingest.counts (g : Ingest) : List Byte := num16 g.taken ++ num16 g.stale ++ num16 g.refused

/-- The code of INGEST_END (R200). -/
def ingestEndCode : Byte := 0x2F

/-- Ending an ingest: the state becomes IDLE, the stager is zeroed, the INGEST_END reply is posted on the initiating
lane and INGEST is raised (R79). -/
def endIngest (g : Ingest) (outcome : ReplyCode) (s : State) : State :=
  ({ s with prt.ingest := none, prt.stager := List.replicate 32 0 }.postReply g.lane g.tag ingestEndCode outcome.code
    g.adjusted g.ring g.counts).raise .ingest

/-- A reset ends an ACTIVE ingest with no reply and no cause (R80). -/
def dropIngest (s : State) : State := { s with prt.ingest := none, prt.stager := List.replicate 32 0 }

/-- The four ways an ingest record is counted (R77). -/
inductive Counted where
  | taken
  | adjusted
  | stale
  | refused
  deriving DecidableEq, Repr

/-- The counting of a record (R77). -/
def Ingest.count (g : Ingest) : Counted → Ingest
  | .taken => { g with taken := g.taken + 1 }
  | .adjusted => { g with taken := g.taken + 1, adjusted := true }
  | .stale => { g with stale := g.stale + 1 }
  | .refused => { g with refused := g.refused + 1 }

/-- What processing an ingest record does to the table, and how it is counted (R77). -/
def processRecord (core : EventCore) (s : State) : State × Counted :=
  if core.start = 0xFFFFFFFF then
    let k : Key := { service := core.service.toNat, event := core.event.toNat }
    match entryOfKey s.prt.entries k with
    | none => (s, .refused)
    | some _ => (withdraw k s, .taken)
  else
    match entryOf core with
    | none => (s, .refused)
    | some e =>
        let r := insertEntry s.wallNow s.pinnedKeys e s.prt.entries
        (applyInsert e r s,
          match r with
          | .stored _ _ _ _ => if coreClamped core then .adjusted else .taken
          | .stale _ => .stale
          | .full => .refused)

/-- The address after the next address: the base again when it lies above the INGEST window's limit (R78). -/
def advanceAddress (wd : WD) (next : Nat) : Nat :=
  match wd.ingestWindow with
  | none => next + 32
  | some w => if w.limit < next + 32 then w.base else next + 32

/-- The advance of a run after a processed record: it ends as DONE when the remaining count reaches 0 (R78). -/
def advanceIngest (g : Ingest) (s : State) : State :=
  let h := { g with remaining := g.remaining - 1, next := advanceAddress s.wd g.next }
  if h.remaining = 0 then endIngest h .done s
  else { s with prt.ingest := some h, prt.stager := List.replicate 32 0 }

/-- A staged burst delivered whole to its consumer (R17): `none` marks a masked position. -/
structure Delivery where
  block : Nat
  bytes : List (Option Byte)
  bank : BitVec 3
  row : Nat
  col : Nat
  deriving DecidableEq, Repr

/-- Bytes replaced by the unmasked positions of a delivery, from the first on. -/
def overlay : List Byte → List (Option Byte) → List Byte
  | [], _ => []
  | b :: bs, [] => b :: bs
  | b :: bs, o :: os => o.getD b :: overlay bs os

/-- Bytes replaced by the unmasked positions of a delivery at an offset (R41, R75). -/
def overlayAt (bs : List Byte) (offset : Nat) (new : List (Option Byte)) : List Byte :=
  bs.take offset ++ overlay (bs.drop offset) new

/-- A delivery closes an ingest record: its block includes the record's byte 31, unmasked and 0x5A (R76). -/
def Delivery.closesIngest (d : Delivery) : Bool :=
  decide (d.block % 32 + d.bytes.length = 32 ∧ d.bytes.getLast? = some (some 0x5A))

/-- A delivery to the ingest stager (R75, R76; log 29). -/
def ingestDelivery (d : Delivery) (s : State) : State :=
  match s.prt.ingest with
  | none => s
  | some g =>
      if d.block - d.block % 32 = g.next then
        let t := { s with prt.stager := overlayAt s.prt.stager (d.block % 32) d.bytes }
        if d.closesIngest then
          let r := processRecord (eventCoreAt t.prt.stager 0) t
          advanceIngest (g.count r.2) r.1
        else t
      else if d.closesIngest then
        endIngest g .aborted (s.report .ingestOrder d.block d.bank d.row d.col)
      else s

/-! ### GUIDE commands -/

/-- EVENT_NOTICE's payload (R66, R162). -/
def noticePayload (s : State) (e : Entry) : InsertResult → List Byte
  | .stored table replaced overlap evicted =>
      [openingByte [replaced, evicted.isSome]] ++ num16 overlap ++ key32 (evicted.map Entry.key) ++ num32 e.duration
        ++ num16 table.length
  | .stale held => num8 held.version ++ num16 s.prt.entries.length
  | .full => num16 s.prt.entries.length
      ++ num32 (((latestUnpinned s.pinnedKeys s.prt.entries).map Entry.start).getD 0)

/-- EVENT_NOTICE (R162). -/
def eventNotice (core : EventCore) : Handler :=
  .free .guide 20 fun _ s =>
    if core.start = 0xFFFFFFFF then refuse s .badValue []
    else
      match entryOf core with
      | none => refuse s .badValue []
      | some e =>
          let r := insertEntry s.wallNow s.pinnedKeys e s.prt.entries
          match r with
          | .stored _ _ _ _ => accept (applyInsert e r s) (coreClamped core) (noticePayload s e r)
          | .stale _ => refuse s .stale (noticePayload s e r)
          | .full => refuse s .tableFull (noticePayload s e r)

/-- EVENT_WITHDRAW (R163). -/
def eventWithdraw (service event : BitVec 16) : Handler :=
  .free .guide 4 fun _ s =>
    let k : Key := { service := service.toNat, event := event.toNat }
    match entryOfKey s.prt.entries k with
    | none => refuse s .notFound (num16 s.prt.entries.length)
    | some e => accept (withdraw k s) false
        ([openingByte [s.pinnedKeys.contains k]] ++ num32 e.start ++ num32 e.duration ++ num8 e.version
          ++ num16 (withoutKey s.prt.entries k).length)

/-- SERVICE_EVENTS_CLEAR (R68, R163). -/
def serviceEventsClear (service : BitVec 16) : Handler :=
  .free .guide 2 fun _ s =>
    let left := withoutService s.prt.entries service.toNat
    let removed := s.prt.entries.length - left.length
    let t := if removed = 0 then s else reportServices [service.toNat] (s.setEntries left)
    accept t false (num16 removed ++ num16 left.length)

/-- INGEST_BEGIN (R74, R164). -/
def ingestBegin (start : BitVec 32) (count : BitVec 16) : Handler :=
  .free .guide 6 fun x s =>
    if count = 0 ∨ 4096 < count.toNat ∨ start.toNat % 32 ≠ 0 then refuse s .badValue []
    else
      match s.prt.ingest with
      | some g => refuse s .busy (num8 g.lane.val ++ num16 g.remaining ++ num32 g.next)
      | none =>
          match s.wd.ingestIndex, s.wd.ingestWindow with
          | some i, some w =>
              if w.contains start.toNat then
                accept
                  { s with
                    prt.ingest := some
                      { lane := x.lane, tag := x.tag, ring := x.ring, remaining := count.toNat, next := start.toNat,
                        taken := 0, stale := 0, refused := 0, adjusted := false }
                    prt.stager := List.replicate 32 0 }
                  false (num8 i.val ++ num32 w.base ++ num32 w.limit)
              else refuse s .notFound []
          | _, _ => refuse s .notFound []

/-- INGEST_ABORT: the INGEST_END reply is posted first, the command's own last (R79, R164). -/
def ingestAbort : Handler :=
  .free .guide 0 fun _ s =>
    match s.prt.ingest with
    | none => refuse s .badState []
    | some g => accept (endIngest g .aborted s) false g.counts

end Sys2Proof.Machine
end

