-- ==== Sys2Proof/Machine/Platform.lean ====
section
/-! DEFINITION. The PLATFORM commands (R25 to R28, R38, R180 to R182). -/

namespace Sys2Proof.Machine

/-- An entry index WINDOW_DEFINE and WINDOW_REMOVE may name: 2 to 15 (R180, R181). -/
def definableIndex (b : Byte) : Option (Fin 16) :=
  if h : 2 ≤ b.toNat ∧ b.toNat < 16 then some ⟨b.toNat, h.2⟩ else none

/-- Base and limit as R24 requires (R180 checks 3 and 4). -/
def goodRange (base limit : Nat) : Bool :=
  decide (base % 4096 = 0 ∧ base ≤ 2147479552 ∧ (limit + 1) % 4096 = 0 ∧ base + 4095 ≤ limit ∧ limit ≤ 2147483647)

/-- The lowest index of a valid window other than entry `i` that a window's range intersects (R180). -/
def overlapIndex (wd : WD) (i : Fin 16) (w : Window) : Option (Fin 16) :=
  windowIndices.find? fun j => decide (j ≠ i) && wd.windows[j].any fun v => v.intersects w

/-- The table has no room for a definition of entry `i`: a second INGEST window, or a fifth PICTURE or third AUDIO window
for one slot, the entry's own present window left out (R25, R180). -/
def tableFullFor (wd : WD) (i : Fin 16) (w : Window) : Bool :=
  let others := wd.setWindow i none
  match w.kind with
  | .ingest => others.ingestWindow.isSome
  | .picture => decide (4 ≤ others.countOf .picture w.slot)
  | .audio => decide (2 ≤ others.countOf .audio w.slot)
  | .control => false
  | .reply => false

/-- WINDOW_DEFINE meets an ACTIVE ingest: it names the INGEST entry or defines an INGEST window (R180). -/
def defineBusy (s : State) (i : Fin 16) (kind : WindowKind) : Bool :=
  s.prt.ingest.isSome && (decide (s.wd.ingestIndex = some i) || decide (kind = .ingest))

/-- The window a WINDOW_DEFINE's fields define, or the outcome step 6 refuses them with (R180 checks 2 to 6). -/
def windowFields (kind : Byte) (base limit : BitVec 32) (slot guard : Byte) : Except ReplyCode Window :=
  match definableKind kind with
  | none => .error .badValue
  | some k =>
      if goodRange base.toNat limit.toNat then
        if k = .ingest then
          if 1048576 < limit.toNat - base.toNat + 1 then .error .badValue
          else .ok { kind := k, base := base.toNat, limit := limit.toNat, slot := 0, guard := false }
        else
          match slotField slot with
          | none => .error .badSlot
          | some i =>
              match flagField guard with
              | none => .error .badValue
              | some g => .ok { kind := k, base := base.toNat, limit := limit.toNat, slot := i, guard := g }
      else .error .badValue

/-- WINDOW_DEFINE's payload (R180; log 14 for the counts of an INGEST entry). -/
def definePayload (before after : WD) (i : Fin 16) (w : Window) : List Byte :=
  let old := before.windows[i]
  [openingByte [old.isSome], (old.map fun v => v.kind.code).getD 0]
    ++ num8 (if w.kind.hasSlot then after.countOf .picture w.slot else 0)
    ++ num8 (if w.kind.hasSlot then after.countOf .audio w.slot else 0) ++ num8 after.valid.length

/-- WINDOW_DEFINE (R180). -/
def windowDefine (index kind : Byte) (base limit : BitVec 32) (slot guard : Byte) : Handler :=
  .free .platform 12 fun _ s =>
    match definableIndex index with
    | none => refuse s .badValue []
    | some i =>
        match windowFields kind base limit slot guard with
        | .error code => refuse s code []
        | .ok w =>
            if s.wd.locked then refuse s .locked []
            else if defineBusy s i w.kind then refuse s .busy []
            else
              match overlapIndex s.wd i w with
              | some j => refuse s .overlap (num8 j.val)
              | none =>
                  if tableFullFor s.wd i w then refuse s .tableFull []
                  else
                    let wd := s.wd.setWindow i (some w)
                    accept (changeWindows wd s) false (definePayload s.wd wd i w)

/-- WINDOW_REMOVE (R181). -/
def windowRemove (index : Byte) : Handler :=
  .free .platform 1 fun _ s =>
    match definableIndex index with
    | none => refuse s .badValue []
    | some i =>
        if s.wd.locked then refuse s .locked []
        else if s.prt.ingest.isSome && decide (s.wd.ingestIndex = some i) then refuse s .busy []
        else
          match s.wd.windows[i] with
          | none => refuse s .notFound []
          | some w =>
              accept (changeWindows (s.wd.setWindow i none) s) false
                ([w.kind.code] ++ num32 w.base ++ num32 w.limit ++ num8 (if w.kind.hasSlot then w.slot.val else 0))

/-- WINDOW_LOCK (R27, R181). -/
def windowLock : Handler :=
  .free .platform 0 fun _ s =>
    accept { s with wd.locked := true } false ([openingByte [s.wd.locked]] ++ num8 s.wd.valid.length)

/-- FILL_TILE_WRITE (R38, R182). -/
def fillTileWrite (half : Byte) (bytes : Vector Byte 32) : Handler :=
  .free .platform 33 fun _ s =>
    if h : half.toNat < 2 then
      if s.wd.locked then refuse s .locked []
      else accept { s with wd.tile := putAt s.wd.tile ⟨half.toNat, h⟩ bytes } false (num8 half.toNat)
    else refuse s .badValue []

end Sys2Proof.Machine
end

