-- ==== Sys2Proof/Machine/Present.lean ====
section
/-! DEFINITION. The PRESENT commands (R119 to R127, R165 to R167). -/

namespace Sys2Proof.Machine

/-- The slot's decision, reason and enforcement as payload bytes. -/
def Slot.verdictBytes (x : Slot) : List Byte := [x.decision.code, x.decision.reasonCode, x.enforcement.code]

/-- A slot record with a new item, before the re-evaluation: unlock cleared, hold NONE, frame count 0 (R123 steps 1
to 4). -/
def Slot.tuned (x : Slot) (item : Item) : Slot :=
  { x with item := item, unlock := none, hold := .none, frames := 0, holdDue := false, lengthDue := false }

/-- The tune of slot `i` (R123). -/
def tuneSlot (i : Fin 4) (item : Item) (s : State) : State := reevaluateAs i ((s.slot i).tuned item) s

/-- SLOT_TUNE's payload (R165). -/
def tunePayload (s : State) (i : Fin 4) : List Byte :=
  let x := s.slot i
  [openingByte [x.current.isSome]] ++ x.verdictBytes ++ [x.hold.byte] ++ num16 ((x.current.map Key.event).getD 0)
    ++ orAbsent32 (s.boundaryLeft x)

/-- SLOT_TUNE (R123, R165). -/
def slotTune (slot kind : Byte) (item : Vector Byte 16) : Handler :=
  .free .present 18 fun _ s =>
    match slotField slot with
    | none => refuse s .badSlot []
    | some i =>
        match itemField kind item with
        | none => refuse s .badValue []
        | some it =>
            let t := tuneSlot i it s
            accept t false (tunePayload t i)

/-- The slot and profile a SLOT_BIND names, where both are in range and the profile valid (R46, R166). -/
def bindFields (s : State) (slot profile : Byte) : Option (Fin 4 × Fin 8) :=
  match slotField slot, validProfileField s profile with
  | some i, some p => some (i, p)
  | _, _ => none

/-- The comparison of R124 waives the PIN of a bind. -/
def bindWaived (s : State) (slot profile : Byte) : Bool :=
  match bindFields s slot profile with
  | none => false
  | some (i, p) => s.pinRequired && notMorePermissive s p (s.slot i).bound

/-- A SLOT_BIND needs the PIN while one is required, when its fields are good and the comparison does not waive it
(R46). -/
def bindNeedsPin (s : State) (slot profile : Byte) : Bool :=
  match bindFields s slot profile with
  | none => false
  | some (i, p) => s.pinRequired && !notMorePermissive s p (s.slot i).bound

/-- The bind of slot `i`: the profile becomes pending with a countdown of 2; without picture windows it is applied at
once (R125). Its countdown of the present second is due while the second's tick is (log 3). -/
def bindSlot (i : Fin 4) (p : Fin 8) (s : State) : State :=
  let x := s.slot i
  let t := s.setSlot i { x with pending := some { profile := p, countdown := 2 }, countdownDue := s.vtu.tickDue }
  if x.picture then t else applyPending i t

/-- SLOT_BIND's payload; the bit for "applied at once or pending" is set where it was applied at once (R166, R201; logs 17
and 32). -/
def bindPayload (x : TakeCtx) (s : State) (i : Fin 4) : List Byte :=
  let y := s.slot i
  [openingByte [x.waived, x.compared, y.pending.isNone]] ++ num8 ((y.pending.map Pending.countdown).getD 0)
    ++ num8 y.bound.val ++ y.verdictBytes

/-- SLOT_BIND (R125, R166). -/
def slotBind (slot profile : Byte) : Handler where
  cls := .present
  length := 2
  needsPin s := bindNeedsPin s slot profile
  waives s := bindWaived s slot profile
  act x s :=
    match slotField slot with
    | none => refuse s .badSlot []
    | some i =>
        match validProfileField s profile with
        | none => refuse s .badProfile []
        | some p =>
            let t := bindSlot i p s
            accept t false (bindPayload x t i)

/-- The longest unlock (R119). -/
def unlockSpan : Nat := 14400

/-- An expiry `span` seconds from now: a wall time, or uptime while the clock is UNSET (R119, R120). -/
def expiryAfter (s : State) (span : Nat) : Expiry :=
  match s.wallNow with
  | some w => .wall (w + span)
  | none => .uptime (s.vtu.uptime + span)

/-- The expiry of an unlock of a slot's current item (R119, R120). -/
def unlockExpiry (s : State) (x : Slot) : Expiry :=
  match x.item with
  | .live _ =>
      match x.current.bind (entryOfKey s.prt.entries) with
      | some e => .wall e.stop
      | none => expiryAfter s unlockSpan
  | .recording r => expiryAfter s (min unlockSpan (r.remaining.getD unlockSpan))
  | .nothing => expiryAfter s unlockSpan
  | .external _ => expiryAfter s unlockSpan

/-- The unlock of slot `i` for an item key, and its re-evaluation (R119). -/
def unlockSlot (i : Fin 4) (key : ItemKey) (s : State) : State :=
  reevaluateAs i { s.slot i with unlock := some { key := key, expiry := unlockExpiry s (s.slot i) } } s

/-- SLOT_UNLOCK (R119, R167). -/
def slotUnlock (slot : Byte) : Handler :=
  .gated .present 1 fun _ s =>
    match slotField slot with
    | none => refuse s .badSlot []
    | some i =>
        let x := s.slot i
        match itemKey x.item x.current with
        | some key =>
            if x.decision.unlockable then
              let t := unlockSlot i key s
              let e := unlockExpiry s x
              accept t false ([openingByte [e.isUptime], key.code] ++ expiry32 (some e)
                ++ [(t.slot i).decision.code, (t.slot i).enforcement.code])
            else refuse s .badState [x.decision.code, x.decision.reasonCode]
        | none => refuse s .badState [x.decision.code, x.decision.reasonCode]

/-- The relock of slot `i` (R122). -/
def relockSlot (i : Fin 4) (s : State) : State := reevaluateAs i { s.slot i with unlock := none } s

/-- SLOT_RELOCK (R122, R167). -/
def slotRelock (slot : Byte) : Handler :=
  .free .present 1 fun _ s =>
    match slotField slot with
    | none => refuse s .badSlot []
    | some i =>
        let t := relockSlot i s
        accept t false ([openingByte [(s.slot i).unlock.isSome]] ++ (t.slot i).verdictBytes)

end Sys2Proof.Machine
end

