-- ==== Sys2Proof/Machine/Report.lean ====
section
/-! DEFINITION. The CLOCK and REPORT commands (R168 to R170). -/

namespace Sys2Proof.Machine

/-- The number of child profiles that VTU reports between two states (R152, R168). -/
def differingCount (before after : State) : Nat := (childList.filter fun c => vtuDiffers before after c).length

/-- An extension ends at step 3 of R152. -/
def endsExtension (wall : Nat) (s : State) : Bool :=
  childList.any fun c => (s.usage c).ext.any fun e => e.endedBy wall

/-- A day or a week moved from a known one (R148, R192). -/
def acctMoved (f : Acct → Nat) (before after : Option Acct) : Bool :=
  match before, after with
  | some a, some b => decide (f a < f b)
  | _, _ => false

/-- CLOCK_SET's payload (R168). -/
def clockPayload (wall : Nat) (zone : Int) (s : State) : List Byte :=
  let t := clockBeforeReports wall zone s
  [openingByte [s.vtu.clock.isSome, acctMoved Acct.day s.vtu.acct t.vtu.acct, acctMoved Acct.week s.vtu.acct t.vtu.acct,
      endsExtension wall (startClock wall zone s)]]
    ++ s.wallShown ++ num16 ((t.vtu.acct.map Acct.day).getD 0) ++ num16 ((t.vtu.acct.map Acct.week).getD 0)
    ++ num8 (differingCount s t)

/-- CLOCK_SET (R152, R168). -/
def clockSet (wall : BitVec 32) (zone : BitVec 16) : Handler :=
  .free .clock 6 fun _ s =>
    if wall = 0xFFFFFFFF then refuse s .badValue []
    else if zone.toInt < -720 ∨ 840 < zone.toInt then refuse s .badValue []
    else accept (setClock wall.toNat zone.toInt s) false (clockPayload wall.toNat zone.toInt s)

/-- ATTENTION_SET (R169). Its payload's status is that of before its own reply raises REPLY, which R169 says of
ATTENTION_CLEAR alone (log 38). -/
def attentionSet (causes : BitVec 16) : Handler :=
  .free .report 2 fun _ s =>
    match causeSetField causes with
    | none => refuse s .badValue []
    | some set =>
        accept { s with au.enable := set } false (le16 (s.au.status.zeroExtend 16) ++ le16 (set.zeroExtend 16))

/-- Clearing causes; clearing WARN empties the warned-profile set (R169, R196). -/
def clearCauses (set : BitVec 10) (s : State) : State :=
  { s with
    au.status := s.au.status &&& ~~~set
    au.warned := if set &&& Cause.warn.bit ≠ 0 then 0 else s.au.warned }

/-- ATTENTION_CLEAR (R169). -/
def attentionClear (causes : BitVec 16) : Handler :=
  .free .report 2 fun _ s =>
    match causeSetField causes with
    | none => refuse s .badValue []
    | some set =>
        let t := clearCauses set s
        accept t false (le16 (s.au.status.zeroExtend 16) ++ [s.au.warned] ++ le16 (t.au.status.zeroExtend 16))

/-- CAPTURE_CLEAR (R170, R198). -/
def captureClear : Handler :=
  .free .report 0 fun _ s => accept { s with au.capture := none } false (capturePayload s.au.capture)

end Sys2Proof.Machine
end

