-- ==== Sys2Proof/Machine/Accept.lean ====
section
/-! DEFINITION. The Lane Controller's taking of records: the acceptance order, the reply, the lane's advance, and a
record closed whole in a lane (R40 to R50, R56). -/

namespace Sys2Proof.Machine

/-- How each record command is checked and carried out; none where the code names no command (R47 step 1) and for the
commands that are not records. -/
def handlerOf : Instr → Option Handler
  | .readEvent _ service time => some (readEvent service time)
  | .ratingCheck _ profile service time => some (ratingCheck profile service time)
  | .readProfile _ profile part => some (readProfile profile part)
  | .readUsage _ profile => some (readUsage profile)
  | .readSlot _ slot => some (readSlot slot)
  | .readService _ service => some (readService service)
  | .readCapture _ => some readCapture
  | .readWindow _ index part => some (readWindow index part)
  | .eventNotice _ core => some (eventNotice core)
  | .eventWithdraw _ service event => some (eventWithdraw service event)
  | .serviceEventsClear _ service => some (serviceEventsClear service)
  | .ingestBegin _ start count => some (ingestBegin start count)
  | .ingestAbort _ => some ingestAbort
  | .slotTune _ slot kind item => some (slotTune slot kind item)
  | .slotBind _ slot profile => some (slotBind slot profile)
  | .slotUnlock _ slot => some (slotUnlock slot)
  | .slotRelock _ slot => some (slotRelock slot)
  | .clockSet _ wall zone => some (clockSet wall zone)
  | .attentionSet _ causes => some (attentionSet causes)
  | .attentionClear _ causes => some (attentionClear causes)
  | .captureClear _ => some captureClear
  | .profileWrite _ profile fields => some (profileWrite profile fields)
  | .profileCurfew _ profile count windows => some (profileCurfew profile count windows)
  | .profileSuspend _ profile => some (profileSuspend profile)
  | .profileResume _ profile => some (profileResume profile)
  | .profileRemove _ profile => some (profileRemove profile)
  | .serviceWrite _ service rating0 rating1 category allow block =>
      some (serviceWrite service rating0 rating1 category allow block)
  | .serviceRemove _ service => some (serviceRemove service)
  | .allowanceGrant _ profile minutes => some (allowanceGrant profile minutes)
  | .usageReset _ profile week => some (usageReset profile week)
  | .pinSet _ newPin => some (pinSet newPin)
  | .lanePermit _ lane classes => some (lanePermit lane classes)
  | .settingsWrite _ hold rollover weekend weekStart defaults =>
      some (settingsWrite hold rollover weekend weekStart defaults)
  | .windowDefine _ index kind base limit slot guard => some (windowDefine index kind base limit slot guard)
  | .windowRemove _ index => some (windowRemove index)
  | .windowLock _ => some windowLock
  | .fillTileWrite _ half bytes => some (fillTileWrite half bytes)
  | .unknownCommand _ _ | .bankOpen _ _ | .readBurst _ _ | .writeBurst _ _ | .bankClose _ _ | .closeAll _ _
  | .refresh _ _ | .modeLoad _ _ | .restEntry _ _ | .restExit | .idleEntry _ | .idleExit | .channelReset
  | .dataBeat _ _ _ _ | .lockoutExpiry | .accountingTick | .extensionExpiry _ | .boundaryExpiry _
  | .holdExpiry _ | .unlockExpiry _ | .pendingCountdown _ | .countdownExpiry _ | .recordingLengthExpiry _
  | .usageAgeExpiry _ | .storeWriteComplete | .storeWriteFail | .partReset | .partResetRelease _ _ _
  | .startupEnd _ | .startupSecond => none

/-! ### The acceptance order (R47) -/

/-- A lane holds a class: lane 0 every one, permanently, the others those of their set (R45). -/
def laneHolds (s : State) (lane : Fin 4) (cls : CmdClass) : Bool :=
  decide (lane = 0) || (s.lane lane).classes.getLsbD cls.bit

/-- Steps 4 to 8: a command that needs the PIN is refused while a lockout runs, and compared otherwise; a successful
compare sets the failure count to 0, whatever steps 6 and 7 then answer (R46, R47, R48). -/
def judgePin (H : Handler) (x : TakeCtx) (pin : Vector Byte 8) (s : State) : Taken :=
  if H.needsPin s then
    if s.pss.lockout.isSome then refuse s .lockedOut (pinPayload s)
    else if pinMatches s.pss.pin pin then H.act { x with waived := false, compared := true } (s.setFailures 0)
    else refuse (failCompare s) .pinWrong (pinPayload (failCompare s))
  else H.act { x with waived := H.waives s, compared := false } s

/-- The acceptance order, from step 1 (R47). -/
def acceptRecord (H : Option Handler) (x : TakeCtx) (hd : Header) (s : State) : Taken :=
  match H with
  | none => refuse s .badCommand []
  | some h =>
      if laneHolds s hd.lane h.cls then
        if hd.len.toNat = h.length then judgePin h x hd.pin s else refuse s .badLength []
      else refuse s .notPermitted []

/-! ### Taking a record (R44, R49) -/

/-- A lane after a record is taken: the expected ring slot rises by one, the toggle flips on the wrap, the buffers
change places and the taken one is opened with its bytes kept (R44). -/
def Lane.advance (l : Lane) : Lane :=
  { l with
    expected := l.expected + 1
    toggle := if l.expected = 63 then !l.toggle else l.toggle
    cur := l.nxt
    nxt := { l.cur with closed := false } }

def advanceLane (lane : Fin 4) (s : State) : State := s.setLane lane (s.lane lane).advance

/-- What a record's taking tells the command's owner before the PIN is judged. -/
def takeCtx (hd : Header) (s : State) : TakeCtx :=
  { lane := hd.lane, ring := (s.lane hd.lane).expected, tag := hd.tag, waived := false, compared := false }

/-- The posting of a taken record's reply (R49, R50). -/
def replyTo (hd : Header) (code : Byte) (ring : Fin 64) (r : Taken) : State :=
  r.state.postReply hd.lane hd.tag code r.code.code (decide (r.code = .adjusted)) ring r.payload

/-- The taking of a record of a lane: it is checked and carried out, its reply is posted, the lane advances, and what
it left dirty starts a commit (R44, R47, R49, R186). -/
def takeRecord (H : Option Handler) (code : Byte) (hd : Header) (s : State) : State :=
  startCommit
    (advanceLane hd.lane (replyTo hd code (s.lane hd.lane).expected (acceptRecord H (takeCtx hd s) hd s)))

/-- The expected record of a lane is taken if it is closed (R44). -/
def takeOne (lane : Fin 4) (s : State) : State :=
  let l := s.lane lane
  if l.cur.closed then
    takeRecord (handlerOf (decodeRecord lane l.cur.bytes)) (byteAt l.cur.bytes 0) (headerAt lane l.cur.bytes) s
  else s

/-- A lane takes its closed records in succession: at most two are ever staged (R44). -/
def takeHeld (lane : Fin 4) (s : State) : State := takeOne lane (takeOne lane s)

/-- Each lane takes what it holds: one record for each lane that `order` names, then what is still held (R44, R56;
log 7). -/
def takeAll (order : List (Fin 4)) (s : State) : State :=
  slotList.foldl (fun t lane => takeHeld lane t) (order.foldl (fun t lane => takeOne lane t) s)

/-! ### A record closed whole in a lane (log 5) -/

/-- Writes reach the lanes: CT decodes the commands that carry them, and the channel state is ACTIVE (R2, R21, R41). -/
def State.trafficReaches (s : State) : Bool :=
  s.decodes && decide (s.ct.channel = .active)

/-- The toggle of the next ring slot (R42). -/
def Lane.nextToggle (l : Lane) : Bool := if l.expected = 63 then !l.toggle else l.toggle

/-- Software writes one record whole into the lane's first open staged ring slot and closes it with the toggle that
slot has. In the expected ring slot it is taken at once, and a record held in the next one after it; while start-up
runs, and in the next ring slot, it is held (R41, R42, R44, R56). Where writes do not reach the lanes, or both buffers
are closed, nothing changes (log 5). -/
def presentRecord (H : Option Handler) (hd : Header) (code : Byte) (body : List Byte) (s : State) : State :=
  if s.trafficReaches then
    let l := s.lane hd.lane
    if !l.cur.closed then
      let t := s.setLane hd.lane { l with cur := { bytes := recordBytes hd code body l.toggle, closed := true } }
      if s.isRunning then takeOne hd.lane (takeRecord H code hd t) else t
    else if !l.nxt.closed then
      s.setLane hd.lane { l with nxt := { bytes := recordBytes hd code body l.nextToggle, closed := true } }
    else s
  else s

end Sys2Proof.Machine
end

