-- ==== Sys2Proof/Machine/Channel.lean ====
section
/-! DEFINITION. The Channel Tracker's commands and data beats (R1 to R23), and the staging of what they deliver
(R40 to R43). -/

namespace Sys2Proof.Machine

/-! ### Re-driving -/

/-- The command lines reach the DRAM side as they were driven, in every state (R1). -/
def driveLines (l : Lines) (s : State) : State := { s with ct.out.lines := some l }

/-- A data beat is driven on in the direction of its transfer (R1). -/
def driveBeat (b : BeatOut) (s : State) : State := { s with ct.out.beat := some b }

/-- One of the commands presented while the DRAM reset line stays asserted is over (R22; log 9). -/
def passUntracked (s : State) : State := { s with ct.drst := s.ct.drst - 1 }

/-! ### The bank table -/

def bankIndex (ba : BitVec 3) : Fin 8 := ⟨ba.toNat, ba.isLt⟩

/-- A bank's entry: none while CLOSED, its row while OPEN. -/
def State.bank (s : State) (ba : BitVec 3) : Option (BitVec 16) := s.ct.banks[bankIndex ba]

def State.setBank (s : State) (ba : BitVec 3) (x : Option (BitVec 16)) : State :=
  { s with ct.banks := putAt s.ct.banks (bankIndex ba) x }

/-- OPEN: the entry takes the row; on an open bank it is a REOPEN anomaly (R4, R5). -/
def openBank (ba : BitVec 3) (row : BitVec 16) (s : State) : State :=
  let t := if (s.bank ba).isSome then s.report .reopen 0 ba row.toNat 0 else s
  t.setBank ba (some row)

/-- Every entry becomes CLOSED. -/
def closeBanks (s : State) : State := { s with ct.banks := Vector.replicate 8 none }

/-- The banks in ascending order. -/
def bankList : List (BitVec 3) := [0, 1, 2, 3, 4, 5, 6, 7]

/-- The lowest-numbered open bank with its row. -/
def State.lowestOpen (s : State) : Option (BitVec 3 × BitVec 16) :=
  bankList.findSome? fun ba => (s.bank ba).map fun row => (ba, row)

/-- A refresh: one REFRESH_OPEN report if any bank is open, then every entry CLOSED (R9). -/
def refreshBanks (s : State) : State :=
  match s.lowestOpen with
  | some (ba, row) => closeBanks (s.report .refreshOpen 0 ba row.toNat 0)
  | none => closeBanks s

/-! ### Column commands -/

/-- The entry of a burst to a closed bank (R7, R14). -/
def closedBurst (dir : Dir) (len : Nat) (ba : BitVec 3) (col : Nat) : Burst where
  dir := dir
  len := len
  block := none
  start := col % len
  bank := ba
  col := col
  row := 0
  treatment := .pass
  repl := []
  gathered := []
  passed := 0
  spoiled := false

/-- A treatment that stages (R17). -/
def Treatment.staged : Treatment → Bool
  | .stageLane _ _ => true
  | .stageIngest => true
  | .pass => false
  | .fill => false
  | .zeros => false
  | .reply => false
  | .mask => false

/-- The entry of a burst to an open bank, with WD's answer (R6, R14, R15). -/
def openBurst (dir : Dir) (len block : Nat) (ba : BitVec 3) (col : Nat) (row : BitVec 16) (c : Classified) : Burst where
  dir := dir
  len := len
  block := some block
  start := col % len
  bank := ba
  col := col
  row := row.toNat
  treatment := c.treatment
  repl := c.repl
  gathered := if c.treatment.staged then List.replicate (len * 4) none else []
  passed := 0
  spoiled := false

/-- A burst joins the outstanding list at its end (R14). -/
def pushBurst (b : Burst) (s : State) : State := { s with ct.outstanding := s.ct.outstanding ++ [b] }

/-- The list has room for a burst (R14). -/
def State.hasRoom (s : State) : Bool := decide (s.ct.outstanding.length < 8)

/-- WD's answer to the classification request of a column command (R15, R29). -/
def classify (dir : Dir) (len block : Nat) (ba : BitVec 3) (row : BitVec 16) (col : Nat) (s : State) : Classified :=
  match dir with
  | .read => classifyRead block (len * 4) s
  | .write => classifyWrite block ba row.toNat col s

/-- A column command to a closed bank (R7; R14 and log 24 where the list is full). -/
def columnClosed (dir : Dir) (ba : BitVec 3) (a : BitVec 16) (s : State) : State :=
  let t := s.report .closedBank 0 ba 0 (columnOf a)
  if s.hasRoom then pushBurst (closedBurst dir (burstLength s.ct.form (burstSelect a)) ba (columnOf a)) t else t

/-- The block address of a column command to a bank open on `row` (R3, R11, R12). -/
def columnBlock (s : State) (ba : BitVec 3) (row a : BitVec 16) : Nat :=
  blockAddress (burstLength s.ct.form (burstSelect a)) (channelAddress s.ct.arr ba row (columnOf a))

/-- A column command to an open bank: the burst is formed, classified and entered, unless the list is full, and the
auto-close flag closes the bank (R6, R14). -/
def columnOpen (dir : Dir) (ba : BitVec 3) (row a : BitVec 16) (s : State) : State :=
  let len := burstLength s.ct.form (burstSelect a)
  let block := columnBlock s ba row a
  let t :=
    if s.hasRoom then
      let c := classify dir len block ba row (columnOf a) s
      pushBurst (openBurst dir len block ba (columnOf a) row c) c.state
    else s
  if autoClose a then t.setBank ba none else t

/-- READ and WRITE (R6, R7). -/
def columnCommand (dir : Dir) (ba : BitVec 3) (a : BitVec 16) (s : State) : State :=
  match s.bank ba with
  | none => columnClosed dir ba a s
  | some row => columnOpen dir ba row a s

/-! ### Mode loads and channel states -/

/-- The unfollowed set has a member. -/
def Unfollowed.any (u : Unfollowed) : Bool := u.form || u.readLat || u.addLat || u.writeLat

/-- The burst form a register-0 load names (R203). -/
def formField (a : BitVec 16) : Option BurstForm :=
  match (a.extractLsb' 8 2).toNat with
  | 1 => some .fixed8
  | 2 => some .fixed4
  | 3 => some .selectable
  | _ => none

/-- The read latency a register-0 load names, where supported (R203). -/
def readLatField (a : BitVec 16) : Option Nat :=
  let n := (a.extractLsb' 0 5).toNat
  if 5 ≤ n ∧ n ≤ 16 then some n else none

/-- The additive latency a register-1 load names, where supported (R203). -/
def addLatField (a : BitVec 16) : Option Nat :=
  let n := (a.extractLsb' 10 3).toNat
  if n ≤ 4 then some n else none

/-- The write latency a register-2 load names, where supported (R203). -/
def writeLatField (a : BitVec 16) : Option Nat :=
  let n := (a.extractLsb' 0 4).toNat
  if n ≤ 7 then some (n + 5) else none

/-- The held values after a load of a register: each field it carries on its own merit (R18). -/
def loadMode (reg : Nat) (a : BitVec 16) (ct : CT) : CT :=
  match reg with
  | 0 =>
      { ct with
        form := (formField a).getD ct.form
        readLat := (readLatField a).getD ct.readLat
        unfollowed := { ct.unfollowed with form := (formField a).isNone, readLat := (readLatField a).isNone } }
  | 1 =>
      { ct with
        addLat := (addLatField a).getD ct.addLat
        unfollowed := { ct.unfollowed with addLat := (addLatField a).isNone } }
  | 2 =>
      { ct with
        writeLat := (writeLatField a).getD ct.writeLat
        unfollowed := { ct.unfollowed with writeLat := (writeLatField a).isNone } }
  | _ => ct

/-- The channel state while clock enable is high: PASS-ONLY while the unfollowed set has a member (R19, R20, R21). -/
def Unfollowed.channelState (u : Unfollowed) : ChannelState := if u.any then .passOnly else .active

/-- The channel has left PASS-ONLY for ACTIVE: once start-up has ended, the lanes take the records that PASS-ONLY kept
waiting (R44, R195; log 36). -/
def resumeTaking (s : State) : State := if s.isRunning then takeAll s.lc.order s else s

/-- MODE LOAD: the held values, and where the unfollowed set goes between empty and non-empty, the channel state and
CHANNEL; where it becomes empty, PASS-ONLY is over (R18, R21). -/
def modeEffect (ba : BitVec 3) (a : BitVec 16) (s : State) : State :=
  let ct := loadMode (ba.toNat % 4) a s.ct
  if s.ct.unfollowed.any = ct.unfollowed.any then { s with ct := ct }
  else
    let t := { s with ct := { ct with channel := ct.unfollowed.channelState } }.raise .channel
    if ct.unfollowed.any then t else resumeTaking t

/-- Every outstanding burst is abandoned (R14). -/
def abandonBursts (s : State) : State := { s with ct.outstanding := [] }

/-- Clock enable falls with a refresh: the channel state becomes REST (R9, R20). -/
def enterRest (s : State) : State := { abandonBursts (refreshBanks s) with ct.channel := .rest }

/-- Clock enable falls with anything else: the channel state becomes IDLE-DOWN (R19). -/
def enterIdle (s : State) : State := { abandonBursts s with ct.channel := .idleDown }

/-- The channel state after a rising of clock enable (R2, R19, R20). -/
def CT.afterRise (ct : CT) : ChannelState :=
  match ct.channel with
  | .idleDown => ct.unfollowed.channelState
  | .rest => ct.unfollowed.channelState
  | .active => .active
  | .passOnly => .passOnly

/-- Clock enable goes high. Its rising is decoded where CT follows the channel; where it is already high there is no
rising (R1, R2, R19, R20; log 9). -/
def riseEnable (s : State) : State :=
  if s.decodes then s
  else if s.tracks then { s with ct.cke := true, ct.channel := s.ct.afterRise }
  else { passUntracked s with ct.cke := true }

/-- The falling of clock enable with command lines `l`: REST ENTRY with a refresh, IDLE ENTRY with anything else (R2,
R19, R20). -/
def fallingEffect (l : Lines) (s : State) : State := if l.group = .refresh then enterRest s else enterIdle s

/-- Clock enable goes low with command lines `l`. Its falling is decoded where CT follows the channel; where it is already
low there is no falling (R1, R2; log 9). -/
def fallEnable (l : Lines) (s : State) : State :=
  let t := driveLines l s
  { (if s.decodes then fallingEffect l t else passUntracked t) with ct.cke := false }

/-- Every lane in its initial state with its classes kept (R57). -/
def resetLanes (s : State) : State := { s with lc.lanes := s.lc.lanes.map fun l => Lane.atReset l.classes }

/-- A channel reset (R22, R57, R80, R103): CT's reset state with the arrangement and the pins kept, CHANNEL if the
unfollowed set was not empty, the lanes reset, an ingest dropped, the frame counts zeroed. -/
def resetChannel (s : State) : State :=
  let t := { s with ct := CT.atReset s.ct.arr s.ct.toPins }
  let t := if s.ct.unfollowed.any then t.raise .channel else t
  zeroFrames (dropIngest (resetLanes t))

/-! ### Staging (R41, R42, R43) -/

/-- The toggle byte of a delivery that is a closing write: it covers bytes 60 to 63 of its record, all four unmasked,
with the mark 0x5A (R42). -/
def Delivery.closingToggle (d : Delivery) : Option Byte :=
  if d.block % 64 + d.bytes.length = 64 then
    match d.bytes.drop (d.bytes.length - 4) with
    | [some _, some _, some toggle, some mark] => if mark = 0x5A then some toggle else none
    | _ => none
  else none

/-- A staging buffer after a delivery: a closed one is kept as it stands; an open one takes the unmasked bytes and is
closed by a closing write with its toggle (R41, R42). -/
def Buffer.stage (b : Buffer) (d : Delivery) (toggle : Bool) : Buffer :=
  if b.closed then b
  else
    { bytes := overlayAt b.bytes (d.block % 64) d.bytes, closed := decide (d.closingToggle = some (flagByte toggle)) }

/-- A delivery to a lane's ring slot (R41, R42, R43, R56). -/
def laneDelivery (lane : Fin 4) (ring : Fin 64) (d : Delivery) (s : State) : State :=
  let l := s.lane lane
  if ring = l.expected then
    let t := s.setLane lane { l with cur := l.cur.stage d l.toggle }
    if s.isRunning && !l.cur.closed then takeHeld lane t else t
  else if ring = l.expected + 1 then s.setLane lane { l with nxt := l.nxt.stage d l.nextToggle }
  else if d.closingToggle.isSome then s.report .laneSequence d.block d.bank d.row d.col
  else s

/-! ### Data beats -/

/-- The data a beat is driven on with, where its treatment is applied (R16). -/
def Burst.dataOut (b : Burst) (data : BitVec 32) : BitVec 32 :=
  let own := wordAt b.repl (beatOffset b.len b.start b.passed)
  match b.treatment with
  | .fill => own
  | .zeros => own
  | .reply => own
  | .pass => data
  | .mask => data
  | .stageLane _ _ => data
  | .stageIngest => data

/-- The mask lines a beat is driven on with, where its treatment is applied (R17). -/
def Burst.maskOut (b : Burst) (mask : BitVec 4) : BitVec 4 :=
  match b.treatment with
  | .mask => 15
  | .pass => mask
  | .fill => mask
  | .zeros => mask
  | .reply => mask
  | .stageLane _ _ => mask
  | .stageIngest => mask

/-- The four byte positions of a beat: the byte, or none where the host masked it (R17). -/
def beatBytes (data : BitVec 32) (mask : BitVec 4) : List (Option Byte) :=
  [0, 1, 2, 3].map fun i => if mask.getLsbD i then none else some (beatByte data i)

/-- The gathered bytes after a beat (R17). -/
def Burst.gather (b : Burst) (data : BitVec 32) (mask : BitVec 4) : List (Option Byte) :=
  let o := beatOffset b.len b.start b.passed
  if b.treatment.staged then b.gathered.take o ++ beatBytes data mask ++ b.gathered.drop (o + 4) else b.gathered

/-- A burst's entry after one more beat; one that passes in PASS-ONLY is not gathered and spoils a staged burst (R17,
R21). -/
def Burst.afterBeat (b : Burst) (passOnly : Bool) (data : BitVec 32) (mask : BitVec 4) : Burst :=
  { b with
    gathered := if passOnly then b.gathered else b.gather data mask
    spoiled := b.spoiled || passOnly
    passed := b.passed + 1 }

/-- The delivery of a burst whose last beat has passed (R17). -/
def Burst.delivery (b : Burst) : Delivery :=
  { block := b.block.getD 0, bytes := b.gathered, bank := b.bank, row := b.row, col := b.col }

/-- The consumer of a staged burst takes its delivery; a spoiled burst delivers nothing (R17, R21). -/
def deliver (b : Burst) (s : State) : State :=
  if b.spoiled then s
  else
    match b.treatment with
    | .stageLane lane ring => laneDelivery lane ring b.delivery s
    | .stageIngest => ingestDelivery b.delivery s
    | .pass => s
    | .fill => s
    | .zeros => s
    | .reply => s
    | .mask => s

/-- A beat of the burst at a place on the outstanding list (R14, R16, R17, R21). -/
def trackedBeat (index : Nat) (b : Burst) (data : BitVec 32) (mask : BitVec 4) (s : State) : State :=
  let passOnly := decide (s.ct.channel = .passOnly)
  let after := b.afterBeat passOnly data mask
  let out : BeatOut :=
    if passOnly then { dir := b.dir, data := data, mask := mask }
    else { dir := b.dir, data := b.dataOut data, mask := b.maskOut mask }
  let t := driveBeat out s
  if after.passed < b.len then { t with ct.outstanding := t.ct.outstanding.set index after }
  else deliver after { t with ct.outstanding := t.ct.outstanding.eraseIdx index }

/-- A data beat: of a burst on the list in its direction, or of none, which passes as driven (R1, R7, R14). -/
def passBeat (dir : Dir) (index : Nat) (data : BitVec 32) (mask : BitVec 4) (s : State) : State :=
  match s.ct.outstanding[index]? with
  | some b =>
      if b.dir = dir then trackedBeat index b data mask s
      else driveBeat { dir := dir, data := data, mask := mask } s
  | none => driveBeat { dir := dir, data := data, mask := mask } s

/-! ### The commands -/

/-- The command lines of a command group (R2). -/
def commandLines (ras cas we : Bool) (ba : BitVec 3) (a : BitVec 16) : Lines :=
  { csN := false, rasN := ras, casN := cas, weN := we, ba := ba, a := a }

/-- The effect of the command that command lines spell while clock enable is and stays high, by the levels of the four
lines and, on a close, line 10; a no-op and a deselect have none (R2, R4 to R9, R18). -/
def commandEffect (l : Lines) (s : State) : State :=
  match l.group with
  | .deselect => s
  | .noOp => s
  | .activate => openBank l.ba l.a s
  | .column dir => columnCommand dir l.ba l.a s
  | .close => if l.a.getLsbD 10 then closeBanks s else s.setBank l.ba none
  | .refresh => refreshBanks s
  | .mode => modeEffect l.ba l.a s

/-- A command presented while clock enable is high: its lines pass, and it is decoded where CT decodes (R1, R2). -/
def present (l : Lines) (s : State) : State :=
  let t := driveLines l s
  if s.decodes then commandEffect l t else passUntracked t

/-- OPEN (R4, R5). -/
def execBankOpen (ba : BitVec 3) (a : BitVec 16) (s : State) : Host.Outcome State Fault Refusal :=
  .next (present (commandLines false true true ba a) s)

/-- READ (R6, R7). -/
def execReadBurst (ba : BitVec 3) (a : BitVec 16) (s : State) : Host.Outcome State Fault Refusal :=
  .next (present (commandLines true false true ba a) s)

/-- WRITE (R6, R7). -/
def execWriteBurst (ba : BitVec 3) (a : BitVec 16) (s : State) : Host.Outcome State Fault Refusal :=
  .next (present (commandLines true false false ba a) s)

/-- CLOSE, line 10 low: the bank's entry becomes CLOSED (R2, R8). -/
def execBankClose (ba : BitVec 3) (a : BitVec 16) (s : State) : Host.Outcome State Fault Refusal :=
  .next (present (commandLines false true false ba a) s)

/-- CLOSE-ALL, line 10 high: every entry becomes CLOSED (R2, R8). -/
def execCloseAll (ba : BitVec 3) (a : BitVec 16) (s : State) : Host.Outcome State Fault Refusal :=
  .next (present (commandLines false true false ba a) s)

/-- REFRESH (R9). -/
def execRefresh (ba : BitVec 3) (a : BitVec 16) (s : State) : Host.Outcome State Fault Refusal :=
  .next (present (commandLines false false true ba a) s)

/-- MODE LOAD (R18, R203). -/
def execModeLoad (ba : BitVec 3) (a : BitVec 16) (s : State) : Host.Outcome State Fault Refusal :=
  .next (present (commandLines false false false ba a) s)

/-- REST ENTRY (R20). -/
def execRestEntry (ba : BitVec 3) (a : BitVec 16) (s : State) : Host.Outcome State Fault Refusal :=
  .next (fallEnable (commandLines false false true ba a) s)

/-- REST EXIT (R20). -/
def execRestExit (s : State) : Host.Outcome State Fault Refusal := .next (riseEnable s)

/-- IDLE ENTRY (R19). -/
def execIdleEntry (lines : Lines) (s : State) : Host.Outcome State Fault Refusal := .next (fallEnable lines s)

/-- IDLE EXIT (R19). -/
def execIdleExit (s : State) : Host.Outcome State Fault Refusal := .next (riseEnable s)

/-- The DRAM reset line is asserted, and stays so for as many commands as the next entry of its input says (R22;
log 9). -/
def assertLine (s : State) : State :=
  { s with ct.drst := s.ct.holds.headD 0, ct.holds := s.ct.holds.tail }

/-- CHANNEL_RESET: the DRAM reset line is asserted; while the part reset input is asserted too, the assertion is not
decoded (R2, R22; log 9). -/
def execChannelReset (s : State) : Host.Outcome State Fault Refusal :=
  .next (assertLine (if s.isReleased then resetChannel s else s))

/-- DATA_BEAT (R16, R17). -/
def execDataBeat (dir : Dir) (index : Nat) (data : BitVec 32) (mask : BitVec 4) (s : State) :
    Host.Outcome State Fault Refusal :=
  .next (passBeat dir index data mask s)

end Sys2Proof.Machine
end

