-- ==== Sys2Proof/Machine/Records.lean ====
section
/-! DEFINITION. The meanings of the record commands: each is its record written whole by software and closed in its lane
(R40 to R50; log 5), checked and carried out by its own handler. -/

namespace Sys2Proof.Machine

/-- A record command's record is closed in its lane, to be taken by the handler given (R42, R44, R47). -/
def closeRecord (i : Instr) (H : Option Handler) (s : State) : State :=
  match recordParts i with
  | some (h, code, body) => presentRecord H h code body s
  | none => s

/-- UNKNOWN_COMMAND: a record whose code names no command is refused BAD_COMMAND (R47 step 1). A code that names a
command makes it another row's record, and nothing is written (log 27). -/
def execUnknownCommand (h : Header) (code : Byte) (s : State) : Host.Outcome State Fault Refusal :=
  .next (if (bodyLength code).isNone then closeRecord (.unknownCommand h code) none s else s)

/-- READ_EVENT (R154). -/
def execReadEvent (h : Header) (service : BitVec 16) (time : BitVec 32) (s : State) :
    Host.Outcome State Fault Refusal :=
  .next (closeRecord (.readEvent h service time) (some (readEvent service time)) s)

/-- RATING_CHECK (R155). -/
def execRatingCheck (h : Header) (profile : Byte) (service : BitVec 16) (time : BitVec 32) (s : State) :
    Host.Outcome State Fault Refusal :=
  .next (closeRecord (.ratingCheck h profile service time) (some (ratingCheck profile service time)) s)

/-- READ_PROFILE (R156). -/
def execReadProfile (h : Header) (profile : Byte) (part : Byte) (s : State) : Host.Outcome State Fault Refusal :=
  .next (closeRecord (.readProfile h profile part) (some (readProfile profile part)) s)

/-- READ_USAGE (R157). -/
def execReadUsage (h : Header) (profile : Byte) (s : State) : Host.Outcome State Fault Refusal :=
  .next (closeRecord (.readUsage h profile) (some (readUsage profile)) s)

/-- READ_SLOT (R158). -/
def execReadSlot (h : Header) (slot : Byte) (s : State) : Host.Outcome State Fault Refusal :=
  .next (closeRecord (.readSlot h slot) (some (readSlot slot)) s)

/-- READ_SERVICE (R159). -/
def execReadService (h : Header) (service : BitVec 16) (s : State) : Host.Outcome State Fault Refusal :=
  .next (closeRecord (.readService h service) (some (readService service)) s)

/-- READ_CAPTURE (R160). -/
def execReadCapture (h : Header) (s : State) : Host.Outcome State Fault Refusal :=
  .next (closeRecord (.readCapture h) (some readCapture) s)

/-- READ_WINDOW (R161). -/
def execReadWindow (h : Header) (index : Byte) (part : Byte) (s : State) : Host.Outcome State Fault Refusal :=
  .next (closeRecord (.readWindow h index part) (some (readWindow index part)) s)

/-- EVENT_NOTICE (R162). -/
def execEventNotice (h : Header) (core : EventCore) (s : State) : Host.Outcome State Fault Refusal :=
  .next (closeRecord (.eventNotice h core) (some (eventNotice core)) s)

/-- EVENT_WITHDRAW (R163). -/
def execEventWithdraw (h : Header) (service : BitVec 16) (event : BitVec 16) (s : State) :
    Host.Outcome State Fault Refusal :=
  .next (closeRecord (.eventWithdraw h service event) (some (eventWithdraw service event)) s)

/-- SERVICE_EVENTS_CLEAR (R68). -/
def execServiceEventsClear (h : Header) (service : BitVec 16) (s : State) : Host.Outcome State Fault Refusal :=
  .next (closeRecord (.serviceEventsClear h service) (some (serviceEventsClear service)) s)

/-- INGEST_BEGIN (R74). -/
def execIngestBegin (h : Header) (start : BitVec 32) (count : BitVec 16) (s : State) :
    Host.Outcome State Fault Refusal :=
  .next (closeRecord (.ingestBegin h start count) (some (ingestBegin start count)) s)

/-- INGEST_ABORT (R79). -/
def execIngestAbort (h : Header) (s : State) : Host.Outcome State Fault Refusal :=
  .next (closeRecord (.ingestAbort h) (some ingestAbort) s)

/-- SLOT_TUNE (R123). -/
def execSlotTune (h : Header) (slot : Byte) (kind : Byte) (item : Vector Byte 16) (s : State) :
    Host.Outcome State Fault Refusal :=
  .next (closeRecord (.slotTune h slot kind item) (some (slotTune slot kind item)) s)

/-- SLOT_BIND (R125). -/
def execSlotBind (h : Header) (slot : Byte) (profile : Byte) (s : State) : Host.Outcome State Fault Refusal :=
  .next (closeRecord (.slotBind h slot profile) (some (slotBind slot profile)) s)

/-- SLOT_UNLOCK (R119). -/
def execSlotUnlock (h : Header) (slot : Byte) (s : State) : Host.Outcome State Fault Refusal :=
  .next (closeRecord (.slotUnlock h slot) (some (slotUnlock slot)) s)

/-- SLOT_RELOCK (R122). -/
def execSlotRelock (h : Header) (slot : Byte) (s : State) : Host.Outcome State Fault Refusal :=
  .next (closeRecord (.slotRelock h slot) (some (slotRelock slot)) s)

/-- CLOCK_SET (R152). -/
def execClockSet (h : Header) (wall : BitVec 32) (zone : BitVec 16) (s : State) : Host.Outcome State Fault Refusal :=
  .next (closeRecord (.clockSet h wall zone) (some (clockSet wall zone)) s)

/-- ATTENTION_SET (R169). -/
def execAttentionSet (h : Header) (causes : BitVec 16) (s : State) : Host.Outcome State Fault Refusal :=
  .next (closeRecord (.attentionSet h causes) (some (attentionSet causes)) s)

/-- ATTENTION_CLEAR (R169). -/
def execAttentionClear (h : Header) (causes : BitVec 16) (s : State) : Host.Outcome State Fault Refusal :=
  .next (closeRecord (.attentionClear h causes) (some (attentionClear causes)) s)

/-- CAPTURE_CLEAR (R198). -/
def execCaptureClear (h : Header) (s : State) : Host.Outcome State Fault Refusal :=
  .next (closeRecord (.captureClear h) (some captureClear) s)

/-- PROFILE_WRITE (R171). -/
def execProfileWrite (h : Header) (profile : Byte) (fields : ProfileFields) (s : State) :
    Host.Outcome State Fault Refusal :=
  .next (closeRecord (.profileWrite h profile fields) (some (profileWrite profile fields)) s)

/-- PROFILE_CURFEW (R172). -/
def execProfileCurfew (h : Header) (profile : Byte) (count : Byte) (windows : Vector CurfewField 4) (s : State) :
    Host.Outcome State Fault Refusal :=
  .next (closeRecord (.profileCurfew h profile count windows) (some (profileCurfew profile count windows)) s)

/-- PROFILE_SUSPEND (R173). -/
def execProfileSuspend (h : Header) (profile : Byte) (s : State) : Host.Outcome State Fault Refusal :=
  .next (closeRecord (.profileSuspend h profile) (some (profileSuspend profile)) s)

/-- PROFILE_RESUME (R173). -/
def execProfileResume (h : Header) (profile : Byte) (s : State) : Host.Outcome State Fault Refusal :=
  .next (closeRecord (.profileResume h profile) (some (profileResume profile)) s)

/-- PROFILE_REMOVE (R101). -/
def execProfileRemove (h : Header) (profile : Byte) (s : State) : Host.Outcome State Fault Refusal :=
  .next (closeRecord (.profileRemove h profile) (some (profileRemove profile)) s)

/-- SERVICE_WRITE (R175). -/
def execServiceWrite (h : Header) (service : BitVec 16) (rating0 : Byte) (rating1 : Byte) (category : Byte) (allow : Byte) (block : Byte) (s : State) :
    Host.Outcome State Fault Refusal :=
  .next (closeRecord (.serviceWrite h service rating0 rating1 category allow block) (some (serviceWrite service rating0 rating1 category allow block)) s)

/-- SERVICE_REMOVE (R175). -/
def execServiceRemove (h : Header) (service : BitVec 16) (s : State) : Host.Outcome State Fault Refusal :=
  .next (closeRecord (.serviceRemove h service) (some (serviceRemove service)) s)

/-- ALLOWANCE_GRANT (R176). -/
def execAllowanceGrant (h : Header) (profile : Byte) (minutes : Byte) (s : State) :
    Host.Outcome State Fault Refusal :=
  .next (closeRecord (.allowanceGrant h profile minutes) (some (allowanceGrant profile minutes)) s)

/-- USAGE_RESET (R176). -/
def execUsageReset (h : Header) (profile : Byte) (week : Byte) (s : State) : Host.Outcome State Fault Refusal :=
  .next (closeRecord (.usageReset h profile week) (some (usageReset profile week)) s)

/-- PIN_SET (R177). -/
def execPinSet (h : Header) (newPin : Vector Byte 8) (s : State) : Host.Outcome State Fault Refusal :=
  .next (closeRecord (.pinSet h newPin) (some (pinSet newPin)) s)

/-- LANE_PERMIT (R178). -/
def execLanePermit (h : Header) (lane : Byte) (classes : Byte) (s : State) : Host.Outcome State Fault Refusal :=
  .next (closeRecord (.lanePermit h lane classes) (some (lanePermit lane classes)) s)

/-- SETTINGS_WRITE (R179). -/
def execSettingsWrite (h : Header) (hold : Byte) (rollover : Byte) (weekend : Byte) (weekStart : Byte) (defaults : Vector Byte 4) (s : State) :
    Host.Outcome State Fault Refusal :=
  .next (closeRecord (.settingsWrite h hold rollover weekend weekStart defaults) (some (settingsWrite hold rollover weekend weekStart defaults)) s)

/-- WINDOW_DEFINE (R180). -/
def execWindowDefine (h : Header) (index : Byte) (kind : Byte) (base : BitVec 32) (limit : BitVec 32) (slot : Byte) (guard : Byte) (s : State) :
    Host.Outcome State Fault Refusal :=
  .next (closeRecord (.windowDefine h index kind base limit slot guard) (some (windowDefine index kind base limit slot guard)) s)

/-- WINDOW_REMOVE (R181). -/
def execWindowRemove (h : Header) (index : Byte) (s : State) : Host.Outcome State Fault Refusal :=
  .next (closeRecord (.windowRemove h index) (some (windowRemove index)) s)

/-- WINDOW_LOCK (R181). -/
def execWindowLock (h : Header) (s : State) : Host.Outcome State Fault Refusal :=
  .next (closeRecord (.windowLock h) (some windowLock) s)

/-- FILL_TILE_WRITE (R182). -/
def execFillTileWrite (h : Header) (half : Byte) (bytes : Vector Byte 32) (s : State) :
    Host.Outcome State Fault Refusal :=
  .next (closeRecord (.fillTileWrite h half bytes) (some (fillTileWrite half bytes)) s)

end Sys2Proof.Machine
end

