-- ==== Sys2Proof/Machine/StartUp.lean ====
section
/-! DEFINITION. Part reset, the checks and the load of the stored records, the factory clear, start-up, and the store's
completions (R23, R26, R55, R105, R183 to R193, R199). -/

namespace Sys2Proof.Machine

/-! ### Which contents are in range (R183) -/

/-- A rating list as a rating field stores it (R59). -/
def goodRatings (rs : List Rating) : Bool :=
  (rs.all fun r => decide (r.value < 15))
    && match rs with
      | [] => true
      | [_] => true
      | [a, b] => decide (a.scheme.val < b.scheme.val)
      | _ :: _ :: _ :: _ => false

def PinRecord.inRange (r : PinRecord) : Bool :=
  decide (r.failures ≤ 255)
    && match r.pin with
      | .unset => true
      | .unknown => true
      | .set ds => decide (4 ≤ ds.length ∧ ds.length ≤ 8) && ds.all fun d => decide (d ≤ 9)

def Curfew.inRange (c : Curfew) : Bool :=
  decide (c.days ≠ 0 ∧ c.start ≤ 1439 ∧ c.stop ≤ 1439 ∧ c.start ≠ c.stop)

/-- An INVALID profile holds no settings; a valid one's lie in the ranges of R83. -/
def Profile.inRange (p : Profile) : Bool :=
  !p.valid
    || ((p.ceilings.toList.all fun n => decide (n ≤ 15)) && (p.weights.toList.all fun n => decide (n ≤ 8))
      && decide (p.weekday ≤ 1440 ∧ p.weekend ≤ 1440 ∧ p.weekly ≤ 10080 ∧ p.carryCap ≤ 240 ∧ 1 ≤ p.warn ∧ p.warn ≤ 30
        ∧ p.extLimit ≤ 60 ∧ p.curfews.length ≤ 4)
      && p.curfews.all Curfew.inRange)

/-- A service entry's ranges and set rules (R93, R94). -/
def ServiceEntry.inRange (e : ServiceEntry) : Bool :=
  decide (e.service ≤ 65535) && goodRatings e.ratings && !e.allow.getLsbD 0 && !e.block.getLsbD 0
    && decide (e.allow &&& e.block = 0)

/-- Services in strictly rising order (R92). -/
def risingServices : List ServiceEntry → Bool
  | [] => true
  | [_] => true
  | a :: b :: es => decide (a.service < b.service) && risingServices (b :: es)

/-- The service table keeps its size, its order and uniqueness, and its entries their rules (R92, R94). -/
def goodServices (t : List ServiceEntry) : Bool :=
  decide (t.length ≤ 256) && t.all ServiceEntry.inRange && risingServices t

def Settings.inRange (t : Settings) : Bool :=
  decide (t.hold ≤ 30 ∧ t.rollover ≤ 23 ∧ t.weekStart ≤ 6 ∧ -720 ≤ t.zone ∧ t.zone ≤ 840)

/-- A usage record's ranges, its carry checked against the largest any profile can hold (R132, R191). No rule gives an
extension's item key and end, or the copies of A and W, a range: the model checks none, its own choice (log 40). -/
def Usage.inRange (u : Usage) : Bool :=
  decide (u.today ≤ 86400 ∧ u.acc ≤ 7 ∧ u.week ≤ 604800 ∧ u.carry ≤ 14400 ∧ u.bonus ≤ 43200 ∧ u.weekBonus ≤ 302400)

/-! ### Fail-safe values (R191) -/

def Profile.failSafe : Profile where
  valid := true
  suspended := true
  ceilings := Vector.replicate 4 0
  blocked := 0xFF
  unrated := .block
  mode := .allowList
  weekday := 0
  weekend := 0
  weekly := 0
  carryCap := 0
  warn := 1
  extLimit := 0
  weights := Vector.replicate 4 8
  curfews := []

def Usage.failSafe : Usage where
  today := 86400
  acc := 0
  week := 604800
  carry := 0
  bonus := 0
  weekBonus := 0
  ext := none
  extUsed := true
  warned := true
  exhausted := true

/-! ### The load (R189 step 3, R191, R192) -/

/-- A record fails its check: it is marked dirty, STORE is raised and FAULT-SEEN set (R191). -/
def failCheck (r : RecordId) (s : State) : State :=
  let t := (s.markDirty r).raise .store
  { t with sc.faultSeen := true }

/-- A failure count of 5 or more restarts its lockout at full length, raising nothing (R100). -/
def restartLockout (s : State) : State :=
  if 5 ≤ s.pss.failures then { s with pss.lockout := some (lockoutSeconds s.pss.failures), pss.lockoutDue := false } else s

/-- The PIN record (R100, R102, R191). -/
def loadPin (s : State) : State :=
  let c := s.sc.store.pin
  if c.complete && c.content.inRange then
    restartLockout { s with pss.pin := c.content.pin, pss.failures := c.content.failures }
  else failCheck .pin { s with pss.pin := .unknown, pss.failures := 0 }

def State.setClasses (s : State) (n : Fin 4) (set : BitVec 7) : State := s.setLane n { s.lane n with classes := set }

/-- The lane record: the class sets of lanes 1 to 3 (R45, R191). Every set it can hold is in range. -/
def loadLanes (s : State) : State :=
  let c := s.sc.store.lane
  if c.complete then
    ((s.setClasses 1 c.content[0]).setClasses 2 c.content[1]).setClasses 3 c.content[2]
  else
    failCheck .lane
      (((s.setClasses 1 defaultClasses[1]).setClasses 2 defaultClasses[2]).setClasses 3 defaultClasses[3])

/-- A profile record (R191). -/
def loadProfile (c : Fin 7) (s : State) : State :=
  let x := s.sc.store.profiles[c]
  if x.complete && x.content.inRange then s.setChild c x.content
  else failCheck (.profile c) (s.setChild c .failSafe)

/-- The service table (R191). -/
def loadServices (s : State) : State :=
  let c := s.sc.store.services
  if c.complete && goodServices c.content then { s with pss.services := c.content }
  else failCheck .services { s with pss.services := [] }

/-- The lowest-numbered valid child profile, or profile 0 if there is none (R105, R191). -/
def lowestValid (s : State) : Fin 8 :=
  match childList.find? fun c => (s.child c).valid with
  | some c => childNumber c
  | none => 0

/-- The slot defaults with every one that names an INVALID profile replaced (R191). -/
def soundDefaults (s : State) (d : Vector (Fin 8) 4) : Vector (Fin 8) 4 :=
  d.map fun p => if s.profileValid p then p else lowestValid s

/-- The settings record (R191). -/
def loadSettings (s : State) : State :=
  let c := s.sc.store.settings
  if c.complete && c.content.inRange then
    let d := soundDefaults s c.content.defaults
    let t := { s with sc.settings := { c.content with defaults := d } }
    if d = c.content.defaults then t else t.markDirty .settings
  else
    failCheck .settings
      { s with sc.settings := { Settings.factory with defaults := Vector.replicate 4 (lowestValid s) } }

/-- A usage record passes its check. -/
def usageSound (s : State) (c : Fin 7) : Bool :=
  s.sc.store.usage[c].complete && s.sc.store.usage[c].content.usage.inRange

/-- The day and week a sound usage record holds; none for one that fails or holds 0xFFFF (R192). -/
def storedDay (s : State) (c : Fin 7) : Option Acct :=
  if usageSound s c then s.sc.store.usage[c].content.acct else none

/-- The greatest A and the greatest W that any sound usage record holds; none where none holds a day (R192). -/
def loadedAcct (s : State) : Option Acct :=
  match childList.filterMap (storedDay s) with
  | [] => none
  | a :: as => some (as.foldl (fun x y => { day := max x.day y.day, week := max x.week y.week }) a)

/-- A usage record whose end in uptime does not survive a part reset (R133). -/
def Usage.withoutUptimeEnd (u : Usage) : Usage :=
  { u with ext := u.ext.filter fun e => !e.expiry.isUptime }

/-- A sound record that missed a rollover, rolled forward from its own day and week to the loaded ones (R192). -/
def caughtUp (p : Profile) (weekend : BitVec 7) (own loaded : Acct) (u : Usage) : Usage :=
  let v := rolledUsage p u (weekendDay weekend own.day) (loaded.day == own.day + 1)
  if own.week < loaded.week then { v with week := 0, weekBonus := 0 } else v

/-- A sound usage record as loaded under profile `p`, with whether it is marked dirty: one that holds no day, or an
earlier day than the loaded one, is; so is one whose carry exceeds its profile's cap (R191, R192; log 20). -/
def soundUsage (p : Profile) (weekend : BitVec 7) (own loaded : Option Acct) (u : Usage) : Usage × Bool :=
  let v := u.withoutUptimeEnd
  let w := if p.carryCap * 60 < v.carry then { v with carry := p.carryCap * 60 } else v
  match own, loaded with
  | some a, some b => if a.day < b.day then (caughtUp p weekend a b w, true) else (w, decide (p.carryCap * 60 < v.carry))
  | _, _ => (w, true)

def State.putUsage (s : State) (c : Fin 7) (u : Usage) : State := { s with vtu.usage := putAt s.vtu.usage c u }

/-- A usage record (R133, R191, R192): that of a profile INVALID after the load becomes zero. -/
def loadUsage (acct : Option Acct) (c : Fin 7) (s : State) : State :=
  let x := s.sc.store.usage[c].content
  let p := s.child c
  if usageSound s c then
    let r := soundUsage p s.sc.settings.weekend x.acct acct x.usage
    let u := if p.valid then r.1 else .zero
    let t := s.putUsage c u
    if r.2 || (!p.valid && decide (x.usage ≠ .zero)) then t.markDirty (.usage c) else t
  else failCheck (.usage c) (s.putUsage c (if p.valid then .failSafe else .zero))

/-- The usage records with the stored accounting day and week (R192). -/
def loadUsages (s : State) : State :=
  let acct := loadedAcct s
  { forChildren (loadUsage acct) s with vtu.acct := acct }

/-- Step 3: the records are loaded and checked in store order (R189, R191). -/
def loadStore (s : State) : State :=
  loadUsages (loadSettings (loadServices (forChildren loadProfile (loadLanes (loadPin s)))))

/-! ### The other steps (R189) -/

/-- Step 6: every slot at its part-reset values with its default binding (R105). -/
def resetSlots (s : State) : State :=
  { s with sdu.slots := s.sc.settings.defaults.map fun p => Slot.atReset (if s.profileValid p then p else lowestValid s) }

/-- Steps 6 and 7, after which step 8 is awaited; the marks that stand, those of failed factory-clear writes among them,
start a commit (R189, R193; log 25). -/
def finishLoad (s : State) : State :=
  let t := (resetSlots s).raise .clock
  startCommit { t with phase := .starting }

/-- Every record marked dirty. -/
def markAll (s : State) : State := { s with sc.dirty := Vector.replicate 18 true }

/-- Step 2: the factory clear begins to write the factory values, which the owners hold, in store order (R190; log
25). -/
def beginClear (s : State) : State := startCommit (markAll { s with phase := .clearing })

/-- The release: the straps are sampled, the window table and CT take their part-reset contents, the uptime counter
starts from 0, and the factory clear or the load follows (R23, R26, R128, R189). -/
def release (arr : Bool) (cb : Byte) (fclr : Bool) (s : State) : State :=
  let t := State.inReset s.sc.store (if arr then .brc else .rbc) cb s.ct.toPins s.pending
  if fclr then beginClear t else finishLoad (loadStore t)

/-- After a write of the factory clear has ended: the next record is attempted, or, each having been attempted, the
values are taken directly and start-up goes on (R190; log 25). -/
def continueClear (s : State) : State :=
  match nextDirty s with
  | some r => beginWrite r s
  | none => finishLoad s

/-- What follows the end of a write: the factory clear or the commit goes on (R186, R190). -/
def afterWrite (s : State) : State := if s.phase = .clearing then continueClear s else continueCommit s

/-- Step 8: start-up ends and the lanes take their held records (R44, R56, R189; log 7). In PASS-ONLY no lane takes a
record, so what is held waits, with its order, until a MODE LOAD returns the channel to ACTIVE (R188, R195; log 36). -/
def endStartup (order : List (Fin 4)) (s : State) : State :=
  let t := { s with phase := .running, vtu.tickDue := false }
  if s.ct.channel = .passOnly then { t with lc.order := order } else takeAll order t

/-! ### The commands -/

/-- PART_RESET: everything but the store, the straps last sampled and the pins takes its part-reset value; a write under
way is abandoned half-written (R4, R14, R23, R55, R72, R80, R188, R199). -/
def execPartReset (s : State) : Host.Outcome State Fault Refusal :=
  .next (State.inReset s.sc.store s.ct.arr s.wd.strapCb s.ct.toPins s.pending)

/-- PART_RESET_RELEASE; with the input already released there is no release (R189; log 8). -/
def execPartResetRelease (arr : Bool) (cb : Byte) (fclr : Bool) (s : State) : Host.Outcome State Fault Refusal :=
  .next (if s.isReleased then s else release arr cb fclr s)

/-- STARTUP_END; it ends a start-up whose other steps are done (R189; log 8). -/
def execStartupEnd (order : List (Fin 4)) (s : State) : Host.Outcome State Fault Refusal :=
  .next (if s.phase = .starting then endStartup order s else s)

/-- STORE_WRITE_COMPLETE; with no write under way there is none to complete (R186; log 8). -/
def execStoreWriteComplete (s : State) : Host.Outcome State Fault Refusal :=
  .next (if s.sc.writing.isSome then afterWrite (completeWrite s) else s)

/-- STORE_WRITE_FAIL; with no write under way there is none to fail (R187; log 8). -/
def execStoreWriteFail (s : State) : Host.Outcome State Fault Refusal :=
  .next (if s.sc.writing.isSome then afterWrite (failWrite s) else s)

end Sys2Proof.Machine
end

