-- ==== Sys2Proof/Machine/Timers.lean ====
section
/-! DEFINITION. The seconds of the time base, the accounting tick and the expiries that fall due in a second (R99,
R104, R116, R118, R121, R126, R128, R135, R142, R185). A second begins at its first event, whichever that is; the
expiries of a second still untaken when the next begins are taken then (log 3). -/

namespace Sys2Proof.Machine

/-! ### What is due, and what its expiry does -/

/-- The boundary of a slot has been reached (R116). -/
def boundaryDue (i : Fin 4) (s : State) : Bool :=
  match (s.slot i).boundary, s.wallNow with
  | some b, some w => decide (b ≤ w)
  | _, _ => false

/-- A boundary expiry re-evaluates the slot (R116). -/
def expireBoundary (i : Fin 4) (s : State) : State := reevaluate i s

def holdDue (i : Fin 4) (s : State) : Bool := (s.slot i).holdDue

/-- The hold becomes SPENT and the slot is re-evaluated (R118). -/
def expireHold (i : Fin 4) (s : State) : State :=
  reevaluateAs i { s.slot i with hold := .spent, holdDue := false } s

/-- The unlock of a slot has expired (R121). -/
def unlockDue (i : Fin 4) (s : State) : Bool := (s.slot i).unlock.any fun u => u.expiry.passed s

/-- The position an unlock expiry re-evaluates slot `i` at: while the slot stands on an event and its boundary has been
reached and is still to be taken, the old event and that boundary (R121); otherwise the lookup of R113 step 1. R113 alone
would look up the next event at once: log 30. -/
def expiryPosition (i : Fin 4) (s : State) : Option Entry × Option Nat :=
  match (s.slot i).current.bind (entryOfKey s.prt.entries) with
  | some e => if boundaryDue i s then (some e, (s.slot i).boundary) else position s (s.slot i).item
  | none => position s (s.slot i).item

/-- The unlock is cleared and the slot re-evaluated, under the old event until its boundary is taken (R121; log 30). -/
def expireUnlock (i : Fin 4) (s : State) : State :=
  placeSlot i (reevaluatedAt (expiryPosition i s) s { s.slot i with unlock := none }) s

def countdownDue (i : Fin 4) (s : State) : Bool := (s.slot i).countdownDue

/-- The countdown's last fall is due (R126). -/
def countdownAtEnd (i : Fin 4) (s : State) : Bool :=
  (s.slot i).countdownDue && (s.slot i).pending.any fun q => decide (q.countdown ≤ 1)

/-- The countdown falls by one; reaching 0, the pending profile is applied (R126). -/
def fallCountdown (i : Fin 4) (s : State) : State :=
  match (s.slot i).pending with
  | none => s.setSlot i { s.slot i with countdownDue := false }
  | some q =>
      if q.countdown ≤ 1 then applyPending i s
      else s.setSlot i { s.slot i with pending := some { q with countdown := q.countdown - 1 }, countdownDue := false }

def lengthDue (i : Fin 4) (s : State) : Bool := (s.slot i).lengthDue

/-- An item whose remaining length, if it has one, becomes absent (R104). -/
def Item.withoutLength : Item → Item
  | .recording r => .recording { r with remaining := none }
  | .nothing => .nothing
  | .live service => .live service
  | .external input => .external input

/-- The remaining length becomes absent (R104). -/
def expireLength (i : Fin 4) (s : State) : State :=
  s.setSlot i { s.slot i with item := (s.slot i).item.withoutLength, lengthDue := false }

def lockoutDue (s : State) : Bool := s.pss.lockoutDue

/-- The lockout ends, the failure count as it was (R99). -/
def expireLockout (s : State) : State := { s with pss.lockout := none, pss.lockoutDue := false }

/-- The extension of a child profile has reached its end (R142). -/
def extensionDue (c : Fin 7) (s : State) : Bool := (s.usage c).ext.any fun e => e.expiry.passed s

/-- The extension becomes NONE and the profile is reported (R142). -/
def expireExtension (c : Fin 7) (s : State) : State :=
  reportProfile (childNumber c) (s.setUsage c { s.usage c with ext := none })

/-- A changed usage record is 60 seconds old or more (R185). -/
def usageAgeDue (c : Fin 7) (s : State) : Bool := s.sc.changed[c] && decide (60 ≤ s.sc.age[c])

/-- The usage record is marked dirty, which starts a commit if none is running (R185, R186). -/
def expireUsageAge (c : Fin 7) (s : State) : State := startCommit (s.markDirty (.usage c))

/-! ### A second -/

/-- `act` where `due`. -/
def whenDue (due : State → Bool) (act : State → State) (s : State) : State := if due s then act s else s

/-- The expiries of one slot still due, in the order boundary, hold, unlock, countdown, length (log 3). -/
def flushSlot (i : Fin 4) (s : State) : State :=
  whenDue (lengthDue i) (expireLength i) (whenDue (countdownDue i) (fallCountdown i)
    (whenDue (unlockDue i) (expireUnlock i) (whenDue (holdDue i) (expireHold i)
      (whenDue (boundaryDue i) (expireBoundary i) s))))

/-- The expiries of one child profile still due (log 3). -/
def flushChild (c : Fin 7) (s : State) : State :=
  whenDue (usageAgeDue c) (expireUsageAge c) (whenDue (extensionDue c) (expireExtension c) s)

/-- Every expiry of the second that ends still untaken is taken: the lockout's, the slots', the profiles' (log 3). -/
def flushSecond (s : State) : State :=
  forChildren flushChild (forSlots flushSlot (whenDue lockoutDue expireLockout s))

/-- The hold's remaining seconds fall by one; the fall to 0 is left to the expiry (R118; log 4). -/
def Hold.second : Hold → Hold
  | .none => .none
  | .running n => if 1 < n then .running (n - 1) else .running n
  | .spent => .spent

/-- The hold's last second has come. -/
def Hold.ending : Hold → Bool
  | .none => false
  | .running n => decide (n ≤ 1)
  | .spent => false

/-- A recording's remaining length falls by one; the fall to 0 is left to the expiry (R104; log 4). -/
def Item.second : Item → Item
  | .recording r => .recording { r with remaining := r.remaining.map fun n => if 1 < n then n - 1 else n }
  | .nothing => .nothing
  | .live service => .live service
  | .external input => .external input

/-- A recording's last second has come. -/
def Item.ending : Item → Bool
  | .recording r => r.remaining.any fun n => decide (n ≤ 1)
  | .nothing => false
  | .live _ => false
  | .external _ => false

/-- A slot's timers at a second (R104, R116). -/
def Slot.second (x : Slot) : Slot :=
  { x with
    item := x.item.second
    hold := x.hold.second
    holdDue := x.hold.ending
    lengthDue := x.item.ending
    countdownDue := x.pending.isSome }

/-- The beginning of a second: the uptime counter rises, every per-second timer falls, the usage records age, and the
accounting tick is due (R99, R128, R185). -/
def beginSecond (s : State) : State :=
  { s with
    vtu.uptime := s.vtu.uptime + 1
    vtu.tickDue := true
    pss.lockout := s.pss.lockout.map fun n => if 1 < n then n - 1 else n
    pss.lockoutDue := s.pss.lockout.any fun n => decide (n ≤ 1)
    sdu.slots := s.sdu.slots.map Slot.second
    sc.age := s.sc.age.map fun n => n + 1 }

/-- The next second (log 3). -/
def nextSecond (s : State) : State := beginSecond (flushSecond s)

/-- An expiry presented: taken if it is due; if it is not, and the present second's tick has been taken, it may be the
first event of the next second; otherwise it has no effect (log 3, log 8). -/
def expiry (due : State → Bool) (act : State → State) (s : State) : State :=
  if s.isRunning then
    if due s then act s
    else if s.vtu.tickDue then s
    else if due (nextSecond s) then act (nextSecond s)
    else s
  else s

/-- The accounting tick of the present second, or the first event of the next one (R128, R135; log 3). -/
def accountingTick (s : State) : State :=
  if s.isRunning then
    let t := if s.vtu.tickDue then s else nextSecond s
    startCommit (tickBody { t with vtu.tickDue := false })
  else s

/-! ### The commands -/

/-- LOCKOUT_EXPIRY (R99). -/
def execLockoutExpiry (s : State) : Host.Outcome State Fault Refusal := .next (expiry lockoutDue expireLockout s)

/-- ACCOUNTING_TICK (R135). -/
def execAccountingTick (s : State) : Host.Outcome State Fault Refusal := .next (accountingTick s)

/-- EXTENSION_EXPIRY (R142). -/
def execExtensionExpiry (c : Fin 7) (s : State) : Host.Outcome State Fault Refusal :=
  .next (expiry (extensionDue c) (expireExtension c) s)

/-- BOUNDARY_EXPIRY (R116). -/
def execBoundaryExpiry (i : Fin 4) (s : State) : Host.Outcome State Fault Refusal :=
  .next (expiry (boundaryDue i) (expireBoundary i) s)

/-- HOLD_EXPIRY (R118). -/
def execHoldExpiry (i : Fin 4) (s : State) : Host.Outcome State Fault Refusal :=
  .next (expiry (holdDue i) (expireHold i) s)

/-- UNLOCK_EXPIRY (R121). -/
def execUnlockExpiry (i : Fin 4) (s : State) : Host.Outcome State Fault Refusal :=
  .next (expiry (unlockDue i) (expireUnlock i) s)

/-- PENDING_COUNTDOWN: the countdown of the slot falls by one (R126). -/
def execPendingCountdown (i : Fin 4) (s : State) : Host.Outcome State Fault Refusal :=
  .next (expiry (countdownDue i) (fallCountdown i) s)

/-- COUNTDOWN_EXPIRY: the countdown reaches 0 and the pending profile is applied (R126, R127). -/
def execCountdownExpiry (i : Fin 4) (s : State) : Host.Outcome State Fault Refusal :=
  .next (expiry (countdownAtEnd i) (applyPending i) s)

/-- RECORDING_LENGTH_EXPIRY (R104). -/
def execRecordingLengthExpiry (i : Fin 4) (s : State) : Host.Outcome State Fault Refusal :=
  .next (expiry (lengthDue i) (expireLength i) s)

/-- USAGE_AGE_EXPIRY (R185). -/
def execUsageAgeExpiry (c : Fin 7) (s : State) : Host.Outcome State Fault Refusal :=
  .next (expiry (usageAgeDue c) (expireUsageAge c) s)

/-- STARTUP_SECOND: a second that falls during start-up advances the uptime counter alone (R128). -/
def execStartupSecond (s : State) : Host.Outcome State Fault Refusal :=
  .next (if s.isReleased && !s.isRunning then { s with vtu.uptime := s.vtu.uptime + 1 } else s)

end Sys2Proof.Machine
end

