-- ==== Sys2Proof/Machine/Dispatch.lean ====
section
/-! DEFINITION. One arm for each command: a direct call of its meaning. -/

namespace Sys2Proof.Machine

def exec (i : Instr) (s : State) : Host.Outcome State Fault Refusal :=
  match i with
  | .bankOpen ba a => Sys2Proof.Machine.execBankOpen ba a s
  | .readBurst ba a => Sys2Proof.Machine.execReadBurst ba a s
  | .writeBurst ba a => Sys2Proof.Machine.execWriteBurst ba a s
  | .bankClose ba a => Sys2Proof.Machine.execBankClose ba a s
  | .closeAll ba a => Sys2Proof.Machine.execCloseAll ba a s
  | .refresh ba a => Sys2Proof.Machine.execRefresh ba a s
  | .modeLoad ba a => Sys2Proof.Machine.execModeLoad ba a s
  | .restEntry ba a => Sys2Proof.Machine.execRestEntry ba a s
  | .restExit => Sys2Proof.Machine.execRestExit s
  | .idleEntry lines => Sys2Proof.Machine.execIdleEntry lines s
  | .idleExit => Sys2Proof.Machine.execIdleExit s
  | .channelReset => Sys2Proof.Machine.execChannelReset s
  | .dataBeat dir index data mask => Sys2Proof.Machine.execDataBeat dir index data mask s
  | .lockoutExpiry => Sys2Proof.Machine.execLockoutExpiry s
  | .unknownCommand h code => Sys2Proof.Machine.execUnknownCommand h code s
  | .readEvent h service time => Sys2Proof.Machine.execReadEvent h service time s
  | .ratingCheck h profile service time => Sys2Proof.Machine.execRatingCheck h profile service time s
  | .readProfile h profile part => Sys2Proof.Machine.execReadProfile h profile part s
  | .readUsage h profile => Sys2Proof.Machine.execReadUsage h profile s
  | .readSlot h slot => Sys2Proof.Machine.execReadSlot h slot s
  | .readService h service => Sys2Proof.Machine.execReadService h service s
  | .readCapture h => Sys2Proof.Machine.execReadCapture h s
  | .readWindow h index part => Sys2Proof.Machine.execReadWindow h index part s
  | .eventNotice h core => Sys2Proof.Machine.execEventNotice h core s
  | .eventWithdraw h service event => Sys2Proof.Machine.execEventWithdraw h service event s
  | .serviceEventsClear h service => Sys2Proof.Machine.execServiceEventsClear h service s
  | .ingestBegin h start count => Sys2Proof.Machine.execIngestBegin h start count s
  | .ingestAbort h => Sys2Proof.Machine.execIngestAbort h s
  | .slotTune h slot kind item => Sys2Proof.Machine.execSlotTune h slot kind item s
  | .slotBind h slot profile => Sys2Proof.Machine.execSlotBind h slot profile s
  | .slotUnlock h slot => Sys2Proof.Machine.execSlotUnlock h slot s
  | .slotRelock h slot => Sys2Proof.Machine.execSlotRelock h slot s
  | .clockSet h wall zone => Sys2Proof.Machine.execClockSet h wall zone s
  | .attentionSet h causes => Sys2Proof.Machine.execAttentionSet h causes s
  | .attentionClear h causes => Sys2Proof.Machine.execAttentionClear h causes s
  | .captureClear h => Sys2Proof.Machine.execCaptureClear h s
  | .profileWrite h profile fields => Sys2Proof.Machine.execProfileWrite h profile fields s
  | .profileCurfew h profile count windows => Sys2Proof.Machine.execProfileCurfew h profile count windows s
  | .profileSuspend h profile => Sys2Proof.Machine.execProfileSuspend h profile s
  | .profileResume h profile => Sys2Proof.Machine.execProfileResume h profile s
  | .profileRemove h profile => Sys2Proof.Machine.execProfileRemove h profile s
  | .serviceWrite h service rating0 rating1 category allow block => Sys2Proof.Machine.execServiceWrite h service rating0 rating1 category allow block s
  | .serviceRemove h service => Sys2Proof.Machine.execServiceRemove h service s
  | .allowanceGrant h profile minutes => Sys2Proof.Machine.execAllowanceGrant h profile minutes s
  | .usageReset h profile week => Sys2Proof.Machine.execUsageReset h profile week s
  | .pinSet h newPin => Sys2Proof.Machine.execPinSet h newPin s
  | .lanePermit h lane classes => Sys2Proof.Machine.execLanePermit h lane classes s
  | .settingsWrite h hold rollover weekend weekStart defaults => Sys2Proof.Machine.execSettingsWrite h hold rollover weekend weekStart defaults s
  | .windowDefine h index kind base limit slot guard => Sys2Proof.Machine.execWindowDefine h index kind base limit slot guard s
  | .windowRemove h index => Sys2Proof.Machine.execWindowRemove h index s
  | .windowLock h => Sys2Proof.Machine.execWindowLock h s
  | .fillTileWrite h half bytes => Sys2Proof.Machine.execFillTileWrite h half bytes s
  | .accountingTick => Sys2Proof.Machine.execAccountingTick s
  | .extensionExpiry child => Sys2Proof.Machine.execExtensionExpiry child s
  | .boundaryExpiry slot => Sys2Proof.Machine.execBoundaryExpiry slot s
  | .holdExpiry slot => Sys2Proof.Machine.execHoldExpiry slot s
  | .unlockExpiry slot => Sys2Proof.Machine.execUnlockExpiry slot s
  | .pendingCountdown slot => Sys2Proof.Machine.execPendingCountdown slot s
  | .countdownExpiry slot => Sys2Proof.Machine.execCountdownExpiry slot s
  | .recordingLengthExpiry slot => Sys2Proof.Machine.execRecordingLengthExpiry slot s
  | .usageAgeExpiry child => Sys2Proof.Machine.execUsageAgeExpiry child s
  | .storeWriteComplete => Sys2Proof.Machine.execStoreWriteComplete s
  | .storeWriteFail => Sys2Proof.Machine.execStoreWriteFail s
  | .partReset => Sys2Proof.Machine.execPartReset s
  | .partResetRelease arr cb fclr => Sys2Proof.Machine.execPartResetRelease arr cb fclr s
  | .startupEnd order => Sys2Proof.Machine.execStartupEnd order s
  | .startupSecond => Sys2Proof.Machine.execStartupSecond s

end Sys2Proof.Machine
end

