-- ==== Sys2Proof/Safety.lean ====
section
/-! DEFINITION. What counts as a safe run: the standing laws of the part (00, laws of the device) as predicates over a
state, and the words the statements are written in. -/

namespace Sys2Proof.Machine

/-! ### The standing laws -/

/-- Enforcement agrees with decision: a slot hides exactly while its decision is PENDING or BLOCKED, and a slot without
picture windows does not wait in RELEASING (R106, R110). -/
abbrev State.EnforcementAgrees (s : State) : Prop :=
  ∀ i : Fin 4, ((s.slot i).enforcement = .hiding ↔ (s.slot i).decision.permits = false)
    ∧ ((s.slot i).enforcement = .releasing → (s.slot i).picture = true)

/-- A slot's picture windows are SOME exactly while the window table binds a PICTURE window to it; until start-up has
ended it binds none (R26, R28, R106). -/
abbrev State.PictureAgrees (s : State) : Prop :=
  ∀ i : Fin 4, (s.slot i).picture = decide (s.wd.countOf .picture i ≠ 0)
    ∧ (s.phase ≠ .running → s.wd.countOf .picture i = 0)

/-- A slot presenting an item, bound to an exhausted child profile, hides unless that profile's extension is in force for
its current item key (R115). -/
abbrev State.TimeOutHides (s : State) : Prop :=
  ∀ (i : Fin 4) (c : Fin 7), (s.slot i).bound = childNumber c → (s.usage c).exhausted = true →
    (s.slot i).item ≠ .nothing → (s.slot i).enforcement ≠ .hiding →
    (s.usage c).ext.map Extension.key = itemKey (s.slot i).item (s.slot i).current

/-- The channel state follows clock enable and the unfollowed set; under part reset and while the DRAM reset line stays
asserted it is the reset state's (1.8, R19 to R23). -/
abbrev State.ChannelAgrees (s : State) : Prop :=
  (s.phase = .inReset ∨ 0 < s.ct.drst → s.ct.unfollowed.any = false ∧ s.ct.channel = .active)
    ∧ (s.ct.cke = true → s.ct.channel = s.ct.unfollowed.channelState)
    ∧ (s.ct.cke = false → s.ct.channel = .idleDown ∨ s.ct.channel = .rest
        ∨ (s.ct.channel = .active ∧ s.ct.unfollowed.any = false))

/-- The outstanding list holds at most 8 bursts, none of them with all its beats passed (R14). -/
abbrev State.OutstandingLawful (s : State) : Prop :=
  s.ct.outstanding.length ≤ 8 ∧ ∀ b ∈ s.ct.outstanding, (b.len = 4 ∨ b.len = 8) ∧ b.passed < b.len ∧ b.start < b.len

/-- Fields of a PRT entry in their ranges (R58, R60). -/
abbrev Entry.Lawful (e : Entry) : Prop :=
  e.service ≤ 65535 ∧ e.event ≤ 65535 ∧ e.start < 4294967295 ∧ 1 ≤ e.duration ∧ e.duration ≤ 86400 ∧ e.version ≤ 31

/-- The order of the PRT with no two intersecting spans of one service (R61). -/
abbrev Entry.precedes (e f : Entry) : Prop :=
  e.service < f.service ∨ (e.service = f.service ∧ e.start + e.duration ≤ f.start)

/-- The law of the PRT (R58, R61). -/
abbrev TableLawful (t : List Entry) : Prop :=
  t.length ≤ 1024 ∧ (∀ e ∈ t, e.Lawful) ∧ t.Pairwise Entry.precedes ∧ t.Pairwise (fun e f => e.key ≠ f.key)

/-- The law of the service table: at most 256 entries in rising order of service, each with ratings below 15 in rising order
of scheme and two disjoint sets without profile 0 (R59, R92, R93, R94). -/
abbrev ServicesLawful (t : List ServiceEntry) : Prop :=
  t.length ≤ 256 ∧ t.Pairwise (fun e f => e.service < f.service)
    ∧ ∀ e ∈ t, e.service ≤ 65535 ∧ e.ratings.length ≤ 2 ∧ e.ratings.Pairwise (fun a b => a.scheme < b.scheme)
        ∧ (∀ r ∈ e.ratings, r.value < 15) ∧ inSet e.allow 0 = false ∧ inSet e.block 0 = false ∧ e.allow &&& e.block = 0

/-- The ranges of a usage record (R132); an INVALID profile's record is the zero usage record (R132). -/
abbrev State.UsageLawful (s : State) : Prop :=
  ∀ c : Fin 7, (s.usage c).today ≤ 86400 ∧ (s.usage c).acc ≤ 7 ∧ (s.usage c).week ≤ 604800
    ∧ (s.usage c).bonus ≤ 43200 ∧ (s.usage c).weekBonus ≤ 302400
    ∧ ((s.child c).valid = true → (s.usage c).carry ≤ (s.child c).carryCap * 60)
    ∧ ((s.child c).valid = false → s.usage c = .zero)

/-- The failure count and the lockout in their ranges (R98, R99). -/
abbrev State.LockoutLawful (s : State) : Prop :=
  s.pss.failures ≤ 255 ∧ (∀ n ∈ s.pss.lockout, 1 ≤ n ∧ n ≤ 3840)
    ∧ (s.pss.lockoutDue = true → s.pss.lockout = some 1)

/-- Lane 0 holds every class (R45). -/
abbrev State.LaneZeroWhole (s : State) : Prop := (s.lane 0).classes = 0b1111111

/-- No record is dirty while no commit is running: the event that left it dirty has started one (R186). -/
abbrev State.Settled (s : State) : Prop := s.sc.writing = none → ∀ r : Fin 18, s.sc.dirty[r] = false

/-- A window entry 2 to 15 may hold (R24, R25). -/
abbrev Window.Lawful (w : Window) : Prop :=
  w.kind ≠ .control ∧ w.kind ≠ .reply ∧ w.base % 4096 = 0 ∧ (w.limit + 1) % 4096 = 0 ∧ w.base + 4095 ≤ w.limit
    ∧ w.limit ≤ 2147483647 ∧ (w.kind = .ingest → w.limit - w.base + 1 ≤ 1048576)

/-- The laws of the window table: entries 0 and 1 as the straps set them, no overlap, at most one INGEST window, at most
4 PICTURE and 2 AUDIO windows for a slot (R25, R26). -/
abbrev State.WindowsLawful (s : State) : Prop :=
  s.wd.windows[0] = (WD.atReset s.wd.strapCb).windows[0] ∧ s.wd.windows[1] = (WD.atReset s.wd.strapCb).windows[1]
    ∧ (∀ i : Fin 16, 2 ≤ i.val → ∀ w ∈ s.wd.windows[i], w.Lawful)
    ∧ (∀ i j : Fin 16, i ≠ j → ∀ v ∈ s.wd.windows[i], ∀ w ∈ s.wd.windows[j], v.intersects w = false)
    ∧ (∀ i j : Fin 16, i ≠ j → ∀ v ∈ s.wd.windows[i], ∀ w ∈ s.wd.windows[j], v.kind = .ingest → w.kind ≠ .ingest)
    ∧ ∀ k : Fin 4, s.wd.countOf .picture k ≤ 4 ∧ s.wd.countOf .audio k ≤ 2

/-- A running ingest: there is an INGEST window, only the running part ingests, and no lane keeps its expected record
closed, since every record held before the run began was taken with the one that began it (R25, R44, R72, R73). -/
abbrev State.IngestLawful (s : State) : Prop :=
  s.prt.ingest.isSome = true → s.phase = .running ∧ s.wd.ingestIndex.isSome = true
    ∧ ∀ n : Fin 4, (s.lane n).cur.closed = false

/-- In IDLE-DOWN and REST no burst is outstanding (R14, R19, R20). -/
abbrev State.BurstsAbandoned (s : State) : Prop :=
  s.ct.channel = .idleDown ∨ s.ct.channel = .rest → s.ct.outstanding = []

/-- Once start-up has ended a lane keeps its expected record closed only while the unfollowed set has a member (R44, R195;
log 36). -/
abbrev State.HeldLawful (s : State) : Prop :=
  s.phase = .running → s.ct.unfollowed.any = false → ∀ n : Fin 4, (s.lane n).cur.closed = false

/-! ### The words of the statements -/

/-- No lane has a record waiting for PASS-ONLY to end (log 36). -/
abbrev State.NothingWaits (s : State) : Prop := s.phase = .running → ∀ n : Fin 4, (s.lane n).cur.closed = false

/-- Lane `n` took every record it held between `s` and `t` (R44, R56). -/
structure TookHeld (s t : State) (n : Fin 4) : Prop where
  curOpen : (t.lane n).cur.closed = false
  expected : (t.lane n).expected = (s.lane n).expected
    + (if (s.lane n).cur.closed then if (s.lane n).nxt.closed then 2 else 1 else 0)

/-- A command's run ends in the next state `t`. -/
abbrev Runs (i : Instr) (s t : State) : Prop := exec i s = .next t

/-- A record written in lane `h.lane` is taken at once and nothing follows it: start-up has ended, writes reach the
lanes, and both staging buffers of the lane are open (R2, R22, R41, R44). -/
structure Listening (s : State) (h : Header) : Prop where
  running : s.phase = .running
  line : s.ct.drst = 0
  enabled : s.ct.cke = true
  active : s.ct.channel = .active
  curOpen : (s.lane h.lane).cur.closed = false
  nxtOpen : (s.lane h.lane).nxt.closed = false

/-- It also passes steps 2 and 3: the lane holds the class and the body length byte is the command's (R47). -/
structure Ready (s : State) (h : Header) (cls : CmdClass) (length : Nat) : Prop extends Listening s h where
  holds : laneHolds s h.lane cls = true
  lengthOk : h.len.toNat = length

/-- A record that needs the PIN passes steps 4 and 5: the PIN state is UNSET, or no lockout runs and the PIN field
matches (R46, R47, R97). -/
def PinPasses (s : State) (h : Header) : Prop :=
  s.pss.pin = .unset ∨ (s.pss.lockout = none ∧ pinMatches s.pss.pin h.pin = true)

/-- The state a gated command's owner acts on: a compare that succeeded has set the failure count to 0 (R48). -/
def afterPin (s : State) : State := if s.pinRequired then s.setFailures 0 else s

/-- The index of the reply ring a lane's next reply takes (R49). -/
def nextIndex (s : State) (lane : Fin 4) : Fin 16 :=
  ⟨((s.lane lane).replyNo + 1).toNat % 16, Nat.mod_lt _ (by decide)⟩

/-- The index of the reply ring reply number `number` takes (R49). -/
def ringIndex (number : BitVec 16) : Fin 16 := ⟨number.toNat % 16, Nat.mod_lt _ (by decide)⟩

/-- The reply a taken record is answered with (R49, R50). -/
def replyEntry (s : State) (h : Header) (code outcome : Byte) (adjusted : Bool) (payload : List Byte) : ReplyEntry where
  number := (s.lane h.lane).replyNo + 1
  tag := h.tag
  code := code
  outcome := outcome
  adjusted := adjusted
  ringSlot := (s.lane h.lane).expected
  payload := fit 24 payload

/-- The lane took one record between `s` and `t` and answered it: the reply stands in the ring, the other entries are
kept, the lane stands at the next ring slot, the toggle flipped on the wrap, both buffers open, and REPLY is set (R44,
R49). -/
structure Answered (s t : State) (h : Header) (code outcome : Byte) (adjusted : Bool) (payload : List Byte) : Prop where
  number : (t.lane h.lane).replyNo = (s.lane h.lane).replyNo + 1
  entry : (t.lane h.lane).ring[nextIndex s h.lane] = replyEntry s h code outcome adjusted payload
  others : ∀ k : Fin 16, k ≠ nextIndex s h.lane → (t.lane h.lane).ring[k] = (s.lane h.lane).ring[k]
  expected : (t.lane h.lane).expected = (s.lane h.lane).expected + 1
  toggle : (t.lane h.lane).toggle = (s.lane h.lane).nextToggle
  curOpen : (t.lane h.lane).cur.closed = false
  nxtOpen : (t.lane h.lane).nxt.closed = false
  otherLanes : ∀ n : Fin 4, n ≠ h.lane → t.lane n = s.lane n
  reply : t.au.status &&& Cause.reply.bit = Cause.reply.bit
  phase : t.phase = s.phase
  pending : t.pending = s.pending

/-- The enable set, the warned-profile set and the capture record are kept. -/
structure QuietAttention (s t : State) : Prop where
  enable : t.au.enable = s.au.enable
  warned : t.au.warned = s.au.warned
  capture : t.au.capture = s.au.capture

/-- The causes raised between `s` and `t` are exactly REPLY and, where `decision` says so, DECISION (R49, R112). -/
def RaisedReply (s t : State) (decision : Bool) : Prop :=
  t.au.status = (s.au.status ||| (if decision then Cause.decision.bit else 0)) ||| Cause.reply.bit

/-- The causes raised between `s` and `t` are none or DECISION alone (R112). -/
def RaisedAtMostDecision (s t : State) : Prop :=
  t.au.status = s.au.status ∨ t.au.status = s.au.status ||| Cause.decision.bit

/-- The permission classes of every lane are kept. -/
def ClassesKept (s t : State) : Prop := ∀ n : Fin 4, (t.lane n).classes = (s.lane n).classes

/-- A record is dirty or is the one being written (R184, R186). -/
def WrittenSoon (t : State) (r : RecordId) : Prop :=
  t.isDirty r = true ∨ t.sc.writing.map Image.record = some r

/-- Every slot but slot `i` is kept. -/
def OtherSlotsKept (s t : State) (i : Fin 4) : Prop := ∀ j : Fin 4, j ≠ i → t.slot j = s.slot j

/-- Every usage record but that of child `c` is kept. -/
def OtherUsageKept (s t : State) (c : Fin 7) : Prop := ∀ d : Fin 7, d ≠ c → t.usage d = s.usage d

/-- Every child profile but `c` is kept. -/
def OtherChildrenKept (s t : State) (c : Fin 7) : Prop := ∀ d : Fin 7, d ≠ c → t.child d = s.child d

/-- What a re-evaluation does not set of slot `i` is kept (R113). -/
structure SlotBasisKept (s t : State) (i : Fin 4) : Prop where
  item : (t.slot i).item = (s.slot i).item
  bound : (t.slot i).bound = (s.slot i).bound
  pending : (t.slot i).pending = (s.slot i).pending
  picture : (t.slot i).picture = (s.slot i).picture
  frames : (t.slot i).frames = (s.slot i).frames

/-- Slots that are not re-evaluated are kept; of the others, what a re-evaluation does not set (R113, R114). -/
def SlotsTouched (s t : State) (hit : Slot → Bool) : Prop :=
  ∀ i : Fin 4, SlotBasisKept s t i ∧ (hit (s.slot i) = false → t.slot i = s.slot i)

/-- The channel path, the window table and the guide are kept. -/
structure TrafficKept (s t : State) : Prop where
  ct : t.ct = s.ct
  wd : t.wd = s.wd
  prt : t.prt = s.prt

/-- Nothing changed but the lane's own taking and reply: every other block is kept, and the store controller where no
commit was waiting to start (R47, R186). -/
structure NothingElse (s t : State) : Prop extends TrafficKept s t, QuietAttention s t where
  pss : t.pss = s.pss
  sdu : t.sdu = s.sdu
  vtu : t.vtu = s.vtu
  classes : ClassesKept s t
  status : RaisedReply s t false
  sc : s.Settled → t.sc = s.sc

/-- A record command completes with outcome OK, answers `payload` and changes nothing else. -/
def Queried (i : Instr) (s : State) (h : Header) (code : Byte) (payload : List Byte) : Prop :=
  ∃ t, Runs i s t ∧ Answered s t h code 0 false payload ∧ NothingElse s t

/-- A record command is refused with an outcome and a payload, and changes nothing else (R47). -/
def Refused (i : Instr) (s : State) (h : Header) (code : Byte) (outcome : ReplyCode) (payload : List Byte) : Prop :=
  ∃ t, Runs i s t ∧ Answered s t h code outcome.code false payload ∧ NothingElse s t

/-- What a gated command's acceptance leaves of the PIN: the state and the digits are kept, the failure count is 0 where
the PIN was compared, and the lockout is kept (R48, R98). -/
structure PinKept (s t : State) : Prop where
  pin : t.pss.pin = s.pss.pin
  failures : t.pss.failures = if s.pinRequired then 0 else s.pss.failures
  lockout : t.pss.lockout = s.pss.lockout

/-- The settings and FAULT-SEEN are kept. -/
structure SettingsKept (s t : State) : Prop where
  settings : t.sc.settings = s.sc.settings
  faultSeen : t.sc.faultSeen = s.sc.faultSeen

/-- A channel command leaves every block but CT, SDU and AU. -/
structure OnlyChannel (s t : State) : Prop where
  phase : t.phase = s.phase
  wd : t.wd = s.wd
  lc : t.lc = s.lc
  prt : t.prt = s.prt
  pss : t.pss = s.pss
  vtu : t.vtu = s.vtu
  sc : t.sc = s.sc
  pending : t.pending = s.pending

/-- The held mode values, the channel state, the arrangement and the pins clock enable and DRAM reset are kept. -/
structure HeldKept (s t : State) : Prop where
  form : t.ct.form = s.ct.form
  readLat : t.ct.readLat = s.ct.readLat
  addLat : t.ct.addLat = s.ct.addLat
  writeLat : t.ct.writeLat = s.ct.writeLat
  unfollowed : t.ct.unfollowed = s.ct.unfollowed
  channel : t.ct.channel = s.ct.channel
  arr : t.ct.arr = s.ct.arr
  cke : t.ct.cke = s.ct.cke
  drst : t.ct.drst = s.ct.drst
  holds : t.ct.holds = s.ct.holds

/-- A misuse was reported between `s` and `t`: it filled an empty capture record and raised CAPTURE, or set "more" in a
filled one (R197). -/
def Reported (s t : State) (kind : CaptureKind) (block : Nat) (bank : BitVec 3) (row col : Nat) : Prop :=
  (s.au.capture = none → t.au =
      { s.au with
        capture := some { kind := kind, block := block, bank := bank, row := row, col := col, more := false }
        status := s.au.status ||| Cause.capture.bit })
    ∧ ∀ c, s.au.capture = some c → t.au = { s.au with capture := some { c with more := true } }

/-- The attention line is asserted exactly while some cause is in both the status and the enable set (R195). -/
def LineFollows (s : State) : Prop :=
  s.attnAsserted = true ↔ ∃ c : Cause, s.au.status &&& c.bit ≠ 0 ∧ s.au.enable &&& c.bit ≠ 0

/-! ### The REPLY window and the payloads (R51 to R54, R154 to R161, R202) -/

/-- The bytes `v` stand at offset `o` of `b`. -/
abbrev Shows (b : List Byte) (o : Nat) (v : List Byte) : Prop := (b.drop o).take v.length = v

/-- The device status block `b` by R202's table; log 37 on its channel state. -/
structure StatusShown (s : State) (b : List Byte) : Prop where
  size : b.length = 128
  identity : Shows b 0 (num16 0x4A43)
  revision : Shows b 2 [1]
  channel : Shows b 3 [s.ct.channel.code]
  clock : Shows b 4 [flagByte s.vtu.clock.isSome]
  pin : Shows b 5 [s.pss.pin.code]
  failures : Shows b 6 (num8 s.pss.failures)
  store : Shows b 7 [openingByte [s.sc.writing.isSome, s.sc.faultSeen]]
  wallUnset : s.wallNow = none → Shows b 8 (num32 0)
  wall : ∀ w, s.wallNow = some w → Shows b 8 (wall32 w)
  status : Shows b 12 (le16 (s.au.status.zeroExtend 16))
  enable : Shows b 14 (le16 (s.au.enable.zeroExtend 16))
  warned : Shows b 16 [s.au.warned]
  captureEmpty : s.au.capture = none → Shows b 17 [0, 0]
  capture : ∀ c, s.au.capture = some c → Shows b 17 [openingByte [true, c.more], c.kind.code]
  lockout : Shows b 20 (num16 (s.pss.lockout.getD 0))
  ingestIdle : s.prt.ingest = none → Shows b 19 [0] ∧ Shows b 22 (num16 0 ++ num32 0)
  ingest : ∀ g, s.prt.ingest = some g → Shows b 19 [1] ∧ Shows b 22 (num16 g.remaining ++ num32 g.next)
  spare : Shows b 28 [0, 0, 0, 0]
  lanes : ∀ n : Fin 4, Shows b (32 + 8 * n.val) (num8 (s.lane n).expected.val ++ [flagByte (s.lane n).toggle]
    ++ le16 (s.lane n).replyNo ++ [(s.lane n).classes.zeroExtend 8, 0, 0, 0])
  rest : Shows b 64 (List.replicate 64 0)

/-- The 24 bytes of slot record `x`: READ_SLOT's payload and the head of a slot summary (R53, R158, R202). -/
structure SlotShown (s : State) (x : Slot) (b : List Byte) : Prop where
  items : Shows b 0 [openingByte [x.picture, x.current.isSome, x.unlock.isSome,
    x.unlock.any fun u => u.expiry.isUptime]]
  kind : Shows b 1 [x.item.code]
  nothing : x.item = .nothing → Shows b 2 (num32 0)
  live : ∀ service, x.item = .live service → Shows b 2 (num16 service ++ [0, 0])
  recording : ∀ r, x.item = .recording r → Shows b 2 (num32 r.title)
  external : ∀ input, x.item = .external input → Shows b 2 (num8 input.val ++ [0, 0, 0])
  bound : Shows b 6 (num8 x.bound.val)
  noPending : x.pending = none → Shows b 7 [0xFF, 0]
  pending : ∀ q, x.pending = some q → Shows b 7 (num8 q.profile.val ++ num8 q.countdown)
  decision : Shows b 9 [x.decision.code, x.decision.reasonCode, x.enforcement.code, x.hold.byte]
  frames : Shows b 13 (num8 x.frames)
  noEvent : x.current = none → Shows b 14 (num16 0)
  event : ∀ k, x.current = some k → Shows b 14 (num16 k.event)
  noBoundary : x.boundary = none → Shows b 16 (num32 0xFFFFFFFF)
  boundary : ∀ t w, x.boundary = some t → s.wallNow = some w → Shows b 16 (num32 (t - w))
  noUnlock : x.unlock = none → Shows b 20 (num32 0xFFFFFFFF)
  unlockWall : ∀ u t, x.unlock = some u → u.expiry = .wall t → Shows b 20 (wall32 t)
  unlockUptime : ∀ u t, x.unlock = some u → u.expiry = .uptime t → Shows b 20 (num32 0)

/-- The summary of child profile `c` (R53, R202); an extension's key is in the summary and has no place in its bytes (R142;
log 31). -/
structure ProfileShown (s : State) (c : Fin 7) (b : List Byte) : Prop where
  key : (s.profileSummary c).extension = (s.usage c).ext
  invalid : (s.child c).valid = false → b = List.replicate 32 0
  flags : (s.child c).valid = true → Shows b 0 [openingByte [true, (s.usage c).exhausted, (s.usage c).warned,
    (s.usage c).extUsed, (s.usage c).ext.isSome, (s.usage c).ext.any fun e => e.expiry.isUptime, s.curfewActive c],
    flagByte (s.child c).suspended]
  times : (s.child c).valid = true →
    Shows b 2 (minutes16 (s.remainingChild c) ++ num32 (s.usage c).today ++ num32 (s.usage c).week)
  noEnd : (s.child c).valid = true → (s.usage c).ext = none → Shows b 12 (num32 0xFFFFFFFF)
  endWall : (s.child c).valid = true → ∀ e t, (s.usage c).ext = some e → e.expiry = .wall t → Shows b 12 (wall32 t)
  endUptime : (s.child c).valid = true → ∀ e t, (s.usage c).ext = some e → e.expiry = .uptime t →
    Shows b 12 (num32 0)
  rest : Shows b 16 (List.replicate 16 0)

/-- The content of the REPLY window once start-up has ended, in blocks of 32 bytes; a 16-byte block is half of one (R51,
R53, R200, R202). -/
structure WindowShown (s : State) : Prop where
  status : StatusShown s (replyBlock s 0 32 ++ replyBlock s 32 32 ++ replyBlock s 64 32 ++ replyBlock s 96 32)
  slots : ∀ i : Fin 4, SlotShown s (s.slot i) (replyBlock s (128 + 32 * i.val) 32)
    ∧ Shows (replyBlock s (128 + 32 * i.val) 32) 24 (List.replicate 8 0)
  openProfile : replyBlock s 256 32 = [1, 0, 0xFF, 0xFF] ++ List.replicate 28 0
  profiles : ∀ c : Fin 7, ProfileShown s c (replyBlock s (256 + 32 * (childNumber c).val) 32)
  gap : ∀ k, 16 ≤ k → k < 64 → replyBlock s (32 * k) 32 = List.replicate 32 0
  rings : ∀ (n : Fin 4) (i : Fin 16), replyBlock s (2048 + 512 * n.val + 32 * i.val) 32 =
    le16 (s.lane n).ring[i].number ++ le16 (s.lane n).ring[i].tag
      ++ [(s.lane n).ring[i].code, (s.lane n).ring[i].outcome, flagByte (s.lane n).ring[i].adjusted]
      ++ num8 (s.lane n).ring[i].ringSlot.val ++ fit 24 (s.lane n).ring[i].payload
  halves : ∀ k, k < 128 → replyBlock s (32 * k) 16 ++ replyBlock s (32 * k + 16) 16 = replyBlock s (32 * k) 32

/-! ### The insert procedure (R62 to R65) -/

/-- Version `new` is newer than version `old` (R62). -/
abbrev Newer (new old : Nat) : Prop := 1 ≤ (new + 32 - old) % 32 ∧ (new + 32 - old) % 32 ≤ 15

/-- Step 3 of the insert of `e` removes `f`: another entry of its service whose span intersects (R63). -/
abbrev Entry.GivesWay (e f : Entry) : Prop :=
  f.key ≠ e.key ∧ f.service = e.service ∧ f.start < e.start + e.duration ∧ e.start < f.start + f.duration

/-- Steps 2 and 3 of the insert of `e` leave `f` (R63). -/
abbrev Entry.Spares (e f : Entry) : Prop := f.key ≠ e.key ∧ ¬ e.GivesWay f

/-- Rule a names `x` at wall time `w`: of the ended entries the earliest end, then the lowest service, then the earliest
start (R64). -/
structure EndedFirst (w : Nat) (t : List Entry) (x : Entry) : Prop where
  held : x ∈ t
  ended : x.start + x.duration ≤ w
  first : ∀ f ∈ t, f.start + f.duration ≤ w → x.start + x.duration < f.start + f.duration
    ∨ (x.start + x.duration = f.start + f.duration
        ∧ (x.service < f.service ∨ (x.service = f.service ∧ x.start ≤ f.start)))

/-- Rule b names `x` for the new entry `e`: of the entries not pinned the latest start, then the lowest service, where `e`
starts earlier (R64, R65). -/
structure LatestFirst (pinned : List Key) (e : Entry) (t : List Entry) (x : Entry) : Prop where
  held : x ∈ t
  unpinned : x.key ∉ pinned
  latest : ∀ f ∈ t, f.key ∉ pinned → f.start < x.start ∨ (f.start = x.start ∧ x.service ≤ f.service)
  nearer : e.start < x.start

/-- A full table gives up `x` for `e`: rule a, or where no entry has ended or the clock is UNSET, rule b (R64). -/
def GivenUp (now : Option Nat) (pinned : List Key) (e : Entry) (t : List Entry) (x : Entry) : Prop :=
  (∃ w, now = some w ∧ EndedFirst w t x)
    ∨ ((∀ w, now = some w → ∀ f ∈ t, w < f.start + f.duration) ∧ LatestFirst pinned e t x)

/-! ### An ingest (R77, R79) -/

/-- The key an event core names. -/
def coreKey (core : EventCore) : Key := { service := core.service.toNat, event := core.event.toNat }

/-- Nothing of the table or the slots changed. -/
def Unstored (s t : State) : Prop := t.prt.entries = s.prt.entries ∧ t.sdu = s.sdu

/-- Processing a record with event core `core` took `s` to `t` and the run from `g` to the counts of `h`: a withdrawal of
its key where its start is 0xFFFFFFFF, the insert procedure otherwise (R77). -/
structure Processed (s t : State) (core : EventCore) (g h : Ingest) : Prop where
  withdrawn : core.start = 0xFFFFFFFF → (entryOfKey s.prt.entries (coreKey core)).isSome = true →
    t.prt.entries = s.prt.entries.filter (fun f => f.key ≠ coreKey core) ∧ h = { g with taken := g.taken + 1 }
      ∧ SlotsTouched s t fun x => x.item = .live core.service.toNat
  absent : core.start = 0xFFFFFFFF → entryOfKey s.prt.entries (coreKey core) = none →
    Unstored s t ∧ h = { g with refused := g.refused + 1 }
  bad : core.start ≠ 0xFFFFFFFF → entryOf core = none → Unstored s t ∧ h = { g with refused := g.refused + 1 }
  stored : ∀ e table replaced overlap evicted, core.start ≠ 0xFFFFFFFF → entryOf core = some e →
    insertEntry s.wallNow s.pinnedKeys e s.prt.entries = .stored table replaced overlap evicted →
    t.prt.entries = table ∧ h = { g with taken := g.taken + 1, adjusted := g.adjusted || coreClamped core }
      ∧ SlotsTouched s t fun x => x.item = .live e.service || evicted.any fun f => x.item = .live f.service
  stale : ∀ e old, core.start ≠ 0xFFFFFFFF → entryOf core = some e →
    insertEntry s.wallNow s.pinnedKeys e s.prt.entries = .stale old →
    Unstored s t ∧ h = { g with stale := g.stale + 1 }
  full : ∀ e, core.start ≠ 0xFFFFFFFF → entryOf core = some e →
    insertEntry s.wallNow s.pinnedKeys e s.prt.entries = .full →
    Unstored s t ∧ h = { g with refused := g.refused + 1 }

/-- The run `g` ended between `s` and `t`: the state is IDLE, the stager zero, INGEST_END posted on the initiating lane with
the run's tag, ring slot and counts, REPLY and INGEST raised (R49, R79). -/
structure IngestEnded (s t : State) (g : Ingest) (outcome : ReplyCode) : Prop where
  idle : t.prt.ingest = none
  stager : t.prt.stager = List.replicate 32 0
  lane : t.lane g.lane = { s.lane g.lane with
    replyNo := (s.lane g.lane).replyNo + 1
    ring := putAt (s.lane g.lane).ring (nextIndex s g.lane)
      { number := (s.lane g.lane).replyNo + 1, tag := g.tag, code := 0x2F, outcome := outcome.code,
        adjusted := g.adjusted, ringSlot := g.ring,
        payload := fit 24 (num16 g.taken ++ num16 g.stale ++ num16 g.refused) } }
  otherLanes : ∀ n : Fin 4, n ≠ g.lane → t.lane n = s.lane n
  raised : t.au.status &&& (Cause.reply.bit ||| Cause.ingest.bit) = Cause.reply.bit ||| Cause.ingest.bit

/-- What a delivery to the ingest stager cannot touch is kept. -/
structure IngestFrame (s t : State) : Prop where
  ct : t.ct = s.ct
  wd : t.wd = s.wd
  pss : t.pss = s.pss
  vtu : t.vtu = s.vtu
  sc : t.sc = s.sc
  enable : t.au.enable = s.au.enable
  warned : t.au.warned = s.au.warned
  phase : t.phase = s.phase
  pending : t.pending = s.pending

/-! ### The decision function (R107, R108) -/

/-- Gates 3 to 5 let a child profile pass: not suspended, in no curfew, and not exhausted but for an item its extension
covers. -/
structure GatesPassed (s : State) (c : Fin 7) (x : Slot) : Prop where
  active : (s.child c).suspended = false
  noCurfew : s.curfewActive c = false
  time : (s.usage c).exhausted = true → (s.usage c).ext.map Extension.key = itemKey x.item x.current

/-- The service table says nothing of the profile for the service. -/
def Unnamed (s : State) (c : Fin 7) (service : Nat) : Prop :=
  ∀ e, serviceEntry s.pss.services service = some e →
    inSet e.block (childNumber c).val = false ∧ inSet e.allow (childNumber c).val = false

/-- Gates 3 to 6 give no decision. -/
structure ToRatings (s : State) (c : Fin 7) (x : Slot) : Prop extends GatesPassed s c x where
  service : ∀ service, x.item.service = some service → Unnamed s c service ∧ (s.child c).mode = .openMode

/-- Slot record `x`, presenting an item to child profile `c` with no unlock, is decided by the gates and steps of R107 and
R108, `event` being its current event. -/
structure DecidedByRules (s : State) (c : Fin 7) (x : Slot) (event : Option Entry) : Prop where
  suspended : (s.child c).suspended = true → x.decision = .blocked .suspended
  curfew : (s.child c).suspended = false → s.curfewActive c = true → x.decision = .blocked .curfew
  time : (s.child c).suspended = false → s.curfewActive c = false → (s.usage c).exhausted = true →
    (s.usage c).ext.map Extension.key ≠ itemKey x.item x.current → x.decision = .blocked .time
  serviceBlocked : GatesPassed s c x → ∀ service e, x.item.service = some service →
    serviceEntry s.pss.services service = some e → inSet e.block (childNumber c).val = true →
    x.decision = .blocked .service
  serviceAllowed : GatesPassed s c x → ∀ service e, x.item.service = some service →
    serviceEntry s.pss.services service = some e → inSet e.block (childNumber c).val = false →
    inSet e.allow (childNumber c).val = true → x.decision = .clear
  unlisted : GatesPassed s c x → ∀ service, x.item.service = some service → Unnamed s c service →
    (s.child c).mode = .allowList → x.decision = .blocked .service
  held : ToRatings s c x → x.hold.isRunning = true → x.decision = .pending
  unrated : ToRatings s c x → x.hold.isRunning = false → effective s.pss.services x.item event = ([], 0) →
    x.decision = if (s.child c).unrated = .allow then .clear else .blocked .unrated
  rating : ToRatings s c x → ∀ r ∈ (effective s.pss.services x.item event).1,
    (s.child c).ceilings[r.scheme] < r.value → x.decision = .blocked .rating
  content : ToRatings s c x →
    (∀ r ∈ (effective s.pss.services x.item event).1, r.value ≤ (s.child c).ceilings[r.scheme]) →
    (effective s.pss.services x.item event).2 &&& (s.child c).blocked ≠ 0 → x.decision = .blocked .content
  clear : ToRatings s c x → effective s.pss.services x.item event ≠ ([], 0) →
    (∀ r ∈ (effective s.pss.services x.item event).1, r.value ≤ (s.child c).ceilings[r.scheme]) →
    (effective s.pss.services x.item event).2 &&& (s.child c).blocked = 0 → x.decision = .clear

/-- The gate or step that gives a reason (R107, R108). -/
def Reason.step : Reason → Nat
  | .suspended => 3
  | .curfew => 4
  | .time => 5
  | .service => 6
  | .unrated => 7
  | .rating => 8
  | .content => 9

/-- `v` is RATING_CHECK's dry run of service `service` at time `t` for profile `p`: R107 and R108 on a LIVE item whose
current event is `event`, with the curfew at `t`, the hold spent and no unlock (R155). -/
structure DryRun (s : State) (p : Fin 8) (service t : Nat) (event : Option Entry) (v : Verdict) : Prop where
  openProfile : p = 0 → v = { decision := .clear, step := 2 }
  rules : ∀ c, p = childNumber c →
    DecidedByRules { s with vtu.curfew := putAt s.vtu.curfew c (curfewCovers (s.child c).curfews
        (localSeconds t s.sc.settings.zone)) } c
      { Slot.atReset p with
        item := .live service, current := event.map Entry.key, hold := .spent, decision := v.decision } event
  reason : ∀ r, v.decision = .blocked r → v.step = r.step
  clear : ∀ c, p = childNumber c → v.decision = .clear → v.step =
    if ∃ e, serviceEntry s.pss.services service = some e ∧ inSet e.allow p.val = true then 6
    else if effective s.pss.services (.live service) event = ([], 0) then 7 else 10
  binary : v.decision = .clear ∨ ∃ r, v.decision = .blocked r

/-! ### The extension grant (R141, R143) -/

/-- The item of `x` is under way with a known end: `k` holds its key, its end and the seconds to it. -/
def EndsAt (s : State) (x : Slot) (k : Candidate) : Prop :=
  match x.item with
  | .live _ => ∃ e w, x.current.bind (entryOfKey s.prt.entries) = some e ∧ s.wallNow = some w
      ∧ k = { key := .event e.key, expiry := .wall (e.start + e.duration), left := e.start + e.duration - w }
  | .recording r => ∃ n, r.remaining = some n ∧ k.key = .title r.title ∧ k.left = n
      ∧ (∀ w, s.wallNow = some w → k.expiry = .wall (w + n))
      ∧ (s.wallNow = none → k.expiry = .uptime (s.vtu.uptime + n))
  | .nothing | .external _ => False

/-- Slot `i` qualifies for the extension of child profile `c` with `k`. -/
structure Qualifies (s : State) (c : Fin 7) (i : Fin 4) (k : Candidate) : Prop where
  bound : (s.slot i).bound = childNumber c
  showing : (s.slot i).enforcement = .showing
  ends : EndsAt s (s.slot i) k
  ahead : 0 < k.left
  within : k.left ≤ (s.child c).extLimit * 60

/-- The grant to the usage record `u` chooses slot `i`'s `k`: none used today, and of those that qualify the earliest end,
then the lowest slot. -/
structure Chosen (s : State) (c : Fin 7) (u : Usage) (i : Fin 4) (k : Candidate) : Prop extends Qualifies s c i k where
  unused : u.extUsed = false
  first : ∀ j m, Qualifies s c j m → k.left < m.left ∨ (k.left = m.left ∧ i ≤ j)

/-! ### The rollover check (R131, R148 to R150, R192) -/

/-- The accounting day at local seconds `l`. -/
def dayAt (s : State) (l : Nat) : Nat := accountingDay s.sc.settings.rollover l

/-- The accounting week at local seconds `l`. -/
def weekAt (s : State) (l : Nat) : Nat := accountingWeek s.sc.settings.weekStart (dayAt s l)

/-- The check made in `s` at local seconds `l` finds a day later than the stored one. -/
def RollsOver (s : State) (l : Nat) : Prop := ∃ a, s.vtu.acct = some a ∧ a.day < dayAt s l

/-- The check made in `s` at local seconds `l` leaves the stored day and week `b`: kept by no later day, moved by a later
one, and taken as computed while they were unknown. -/
structure Checked (s : State) (l : Nat) (b : Option Acct) : Prop where
  kept : ∀ a, s.vtu.acct = some a → dayAt s l ≤ a.day → b = some a
  moved : ∀ a, s.vtu.acct = some a → a.day < dayAt s l → b = some { day := dayAt s l, week := max a.week (weekAt s l) }
  adopted : s.vtu.acct = none → b = some { day := dayAt s l, week := weekAt s l }

/-- Child `c`'s usage record in `s` becomes `u` by the rollover from day and week `a` to those of local seconds `l`. -/
structure RolledOver (s : State) (c : Fin 7) (a : Acct) (l : Nat) (u : Usage) : Prop where
  carry : u.carry =
    if dayAt s l = a.day + 1 ∧ (s.child c).allowance (weekendDay s.sc.settings.weekend a.day) ≠ 1440 then
      min ((s.child c).carryCap * 60)
        ((s.child c).allowance (weekendDay s.sc.settings.weekend a.day) * 60 - (s.usage c).today)
    else 0
  day : u.today = 0 ∧ u.acc = 0 ∧ u.bonus = 0
  flags : u.ext = none ∧ u.extUsed = false ∧ u.warned = false ∧ u.exhausted = false
  sameWeek : weekAt s l ≤ a.week → u.week = (s.usage c).week ∧ u.weekBonus = (s.usage c).weekBonus
  newWeek : a.week < weekAt s l → u.week = 0 ∧ u.weekBonus = 0

/-- The usage record of child `c` gained neither mark between `s` and `t` (R184, R185). -/
def Unmarked (s t : State) (c : Fin 7) : Prop :=
  (t.sc.changed[c] = true → s.sc.changed[c] = true) ∧ (t.isDirty (.usage c) = true → s.isDirty (.usage c) = true)

/-! ### The accounting tick (R135 to R141, R146, R147) -/

/-- Child `c`'s part of the tick from `s` to `t`, its usage record standing at `u` before the charge: accrual, the warning
test, the exhaustion test and the extension grant. -/
structure Charged (s t : State) (c : Fin 7) (u : Usage) : Prop where
  acc : (t.usage c).acc = (u.acc + profileWeight s c) % 8
  today : (t.usage c).today = min 86400 (u.today + (u.acc + profileWeight s c) / 8)
  week : (t.usage c).week = min 604800 (u.week + (u.acc + profileWeight s c) / 8)
  carry : (t.usage c).carry = u.carry
  bonus : (t.usage c).bonus = u.bonus
  weekBonus : (t.usage c).weekBonus = u.weekBonus
  warned : (t.usage c).warned = (u.warned || dueForWarning (t.remainingChild c) ((s.child c).warn * 60))
  warns : (t.usage c).warned ≠ u.warned →
    t.au.status &&& Cause.warn.bit = Cause.warn.bit ∧ inSet t.au.warned (childNumber c).val = true
  exhausted : (t.usage c).exhausted = (u.exhausted || decide (t.remainingChild c = some 0))
  goesOn : (t.usage c).exhausted = u.exhausted → (t.usage c).ext = u.ext ∧ (t.usage c).extUsed = u.extUsed
  runsOut : (t.usage c).exhausted ≠ u.exhausted →
    WrittenSoon t (.usage c) ∧ t.au.status &&& Cause.timeUp.bit = Cause.timeUp.bit
  ungranted : (t.usage c).exhausted ≠ u.exhausted → (∀ i k, ¬ Chosen s c u i k) →
    (t.usage c).ext = u.ext ∧ (t.usage c).extUsed = u.extUsed
  granted : (t.usage c).exhausted ≠ u.exhausted → ∀ i k, Chosen s c u i k →
    (t.usage c).ext = some { key := k.key, expiry := k.expiry } ∧ (t.usage c).extUsed = true

/-- The tick from `s` to `t` reports child `c` to SDU (R140). -/
def ReportedAtTick (s t : State) (c : Fin 7) : Prop :=
  (t.usage c).exhausted ≠ (s.usage c).exhausted ∨ (t.usage c).ext ≠ (s.usage c).ext
    ∨ t.curfewActive c ≠ s.curfewActive c

/-- Slot `i` across the tick: its frame count is zeroed; nothing else of it changes unless its profile is reported; and
of a reported one, time or a curfew that is shut hides it and time that is open does not block it. -/
structure SlotTicked (s t : State) (i : Fin 4) : Prop where
  frames : (t.slot i).frames = 0
  item : (t.slot i).item = (s.slot i).item
  bound : (t.slot i).bound = (s.slot i).bound
  pending : (t.slot i).pending = (s.slot i).pending
  picture : (t.slot i).picture = (s.slot i).picture
  kept : (∀ c, (s.slot i).bound = childNumber c → ¬ ReportedAtTick s t c) → t.slot i = { s.slot i with frames := 0 }
  hides : ∀ c, (s.slot i).bound = childNumber c → (s.slot i).item ≠ .nothing → ReportedAtTick s t c →
    ((t.usage c).exhausted = true ∧ (t.usage c).ext.map Extension.key ≠ itemKey (t.slot i).item (t.slot i).current)
      ∨ t.curfewActive c = true → (t.slot i).enforcement = .hiding
  opens : ∀ c, (s.slot i).bound = childNumber c → ReportedAtTick s t c → (t.usage c).exhausted = false →
    (t.slot i).decision ≠ .blocked .time

/-- What every accounting tick of a second already begun does, rollover or not: INVALID profiles' records are kept, the
curfew states are recomputed at a minute boundary, and the slots follow. -/
structure Ticked (s t : State) : Prop where
  tickDue : t.vtu.tickDue = false
  uptime : t.vtu.uptime = s.vtu.uptime
  clock : t.vtu.clock = s.vtu.clock
  minute : ∀ l, s.localNow = some l → l % 60 = 0 → ∀ c, (s.child c).valid = true →
    t.curfewActive c = curfewCovers (s.child c).curfews l
  noMinute : (∀ l, s.localNow = some l → l % 60 ≠ 0) → t.vtu.curfew = s.vtu.curfew
  invalid : ∀ c, (s.child c).valid = false → t.usage c = s.usage c ∧ t.curfewActive c = s.curfewActive c
  slots : ∀ i, SlotTicked s t i
  traffic : TrafficKept s t
  lc : t.lc = s.lc
  pss : t.pss = s.pss
  settings : t.sc.settings = s.sc.settings
  phase : t.phase = s.phase
  pending : t.pending = s.pending
  enable : t.au.enable = s.au.enable
  capture : t.au.capture = s.au.capture

/-! ### The store (R133, R183, R186, R187, R191, R192) -/

/-- The stored usage record of child `c` passes its check (log 40 on the fields without a range). -/
def SoundUsage (st : Store) (c : Fin 7) : Prop :=
  st.usage[c].complete = true ∧ st.usage[c].content.usage.inRange = true

/-- The stored usage record of child `c` passes its check and holds day and week `a`. -/
def SoundDay (st : Store) (c : Fin 7) (a : Acct) : Prop := SoundUsage st c ∧ st.usage[c].content.acct = some a

/-- A sound usage record of profile `p` as taken: its carry within the cap and no end in uptime. -/
def loadedUsage (p : Profile) (u : Usage) : Usage :=
  { u with
    carry := min u.carry (p.carryCap * 60)
    ext := match u.ext with
      | some { key := k, expiry := .wall t } => some { key := k, expiry := .wall t }
      | _ => none }

/-- The record whose write begins next, by the marks `dirty` and the failures `failed` of the running commit: the first in
store order that is dirty and has not failed in it; where every dirty one has failed in it, that commit ends and the next
begins with the first (log 11). -/
structure NextWrite (dirty failed : RecordId → Bool) (r : RecordId) : Prop where
  isDirty : dirty r = true
  again : failed r = true → ∀ q, dirty q = true → failed q = true
  first : ∀ q, dirty q = true → q.place < r.place → failed q = true ∧ failed r = false

/-- `image`, the write under way in `t`, began between `s` and `t`: its contents are those its record's owner holds, the
record's mark is cleared, and where it is a usage record its changed mark and age are (R186; log 35). -/
structure Begun (s t : State) (image : Image) : Prop where
  contents : image = s.imageOf image.record
  cleared : t.isDirty image.record = false
  aged : ∀ c : Fin 7, t.sc.changed[c] = (if image.record = .usage c then false else s.sc.changed[c])
    ∧ t.sc.age[c] = (if image.record = .usage c then 0 else s.sc.age[c])

/-- READ or WRITE. -/
def columnInstr : Dir → BitVec 3 → BitVec 16 → Instr
  | .read, ba, a => .readBurst ba a
  | .write, ba, a => .writeBurst ba a

end Sys2Proof.Machine
end

