-- ==== Sys2Proof/WellFormed.lean ====
section
/-! DEFINITION. Which commands are well formed: the operands that a row's recognition (R2, R47) rules out. A field value that a rule refuses with a reply is well formed: its refusal is the command's meaning. -/

namespace Sys2Proof

/-- A command is well formed when its operands are ones its row can carry. -/
def Instr.wellFormed : Instr → Bool
  | .bankClose _ a => !a.getLsbD 10
  | .closeAll _ a => a.getLsbD 10
  | .idleEntry l => decide (l.group ≠ .refresh)
  | .unknownCommand _ code => (bodyLength code).isNone
  | .bankOpen _ _ | .readBurst _ _ | .writeBurst _ _ | .refresh _ _ | .modeLoad _ _ | .restEntry _ _
  | .restExit | .idleExit | .channelReset | .dataBeat _ _ _ _ | .lockoutExpiry | .readEvent _ _ _ | .ratingCheck _ _ _ _
  | .readProfile _ _ _ | .readUsage _ _ | .readSlot _ _ | .readService _ _ | .readCapture _
  | .readWindow _ _ _ | .eventNotice _ _ | .eventWithdraw _ _ _ | .serviceEventsClear _ _
  | .ingestBegin _ _ _ | .ingestAbort _ | .slotTune _ _ _ _ | .slotBind _ _ _ | .slotUnlock _ _
  | .slotRelock _ _ | .clockSet _ _ _ | .attentionSet _ _ | .attentionClear _ _ | .captureClear _
  | .profileWrite _ _ _ | .profileCurfew _ _ _ _ | .profileSuspend _ _ | .profileResume _ _
  | .profileRemove _ _ | .serviceWrite _ _ _ _ _ _ _ | .serviceRemove _ _ | .allowanceGrant _ _ _
  | .usageReset _ _ _ | .pinSet _ _ | .lanePermit _ _ _ | .settingsWrite _ _ _ _ _ _
  | .windowDefine _ _ _ _ _ _ _ | .windowRemove _ _ | .windowLock _ | .fillTileWrite _ _ _
  | .accountingTick | .extensionExpiry _ | .boundaryExpiry _ | .holdExpiry _ | .unlockExpiry _
  | .pendingCountdown _ | .countdownExpiry _ | .recordingLengthExpiry _ | .usageAgeExpiry _
  | .storeWriteComplete | .storeWriteFail | .partReset | .partResetRelease _ _ _ | .startupEnd _
  | .startupSecond => true

end Sys2Proof
end

