-- ==== Sys2Proof/Certificates/Slice0/Obligations.lean ====
section
/-! DEFINITION. The statements for the provers, about the machine for every state and operand they name. -/

section

open Sys2Proof Sys2Proof.Machine

/-! ### The machine as a whole -/

/-- A step with a command at the front of the queue is that command's run with the queue's rest. -/
def Obligations.StepRunsFrontCommand : Prop :=
  ∀ (c : Instr) (rest : List Instr) (s : State),
    step { s with pending := c :: rest } = exec c { s with pending := rest }

/-- The state at reset meets every standing law. The stored records it starts from are the model's choice (log 1). -/
def Obligations.ResetIsLawful : Prop :=
  State.reset.EnforcementAgrees ∧ State.reset.PictureAgrees ∧ State.reset.TimeOutHides ∧ State.reset.ChannelAgrees
    ∧ State.reset.OutstandingLawful ∧ TableLawful State.reset.prt.entries ∧ ServicesLawful State.reset.pss.services
    ∧ State.reset.UsageLawful
    ∧ State.reset.LockoutLawful ∧ State.reset.LaneZeroWhole ∧ State.reset.Settled ∧ State.reset.WindowsLawful
    ∧ State.reset.IngestLawful ∧ State.reset.HeldLawful ∧ State.reset.BurstsAbandoned

/-- PART_RESET from every state: the part-reset values of CT, the window table with its lock and tile by the strap last
sampled, the lanes, the PRT, the slots and AU, no lockout, the clock UNSET; the store kept and no commit running; clock
enable, the DRAM reset line and what is driven kept as the pins they are (R23, R26, R27, R38, R55, R72, R80, R100, R105,
R129, R188, R199; logs 9 and 22). -/
def Obligations.PartResetValues : Prop :=
  ∀ s : State, ∃ t, Runs .partReset s t ∧ t.phase = .inReset
    ∧ (∀ ba, t.bank ba = none) ∧ t.ct.form = .fixed8 ∧ t.ct.readLat = 11 ∧ t.ct.addLat = 0 ∧ t.ct.writeLat = 8
    ∧ t.ct.unfollowed.any = false ∧ t.ct.channel = .active ∧ t.ct.outstanding = []
    ∧ (∀ n, (t.lane n).expected = 0 ∧ (t.lane n).toggle = false ∧ (t.lane n).cur = .empty ∧ (t.lane n).nxt = .empty
        ∧ (t.lane n).replyNo = 0 ∧ ∀ k : Fin 16, (t.lane n).ring[k] = .zero)
    ∧ t.wd = WD.atReset s.wd.strapCb
    ∧ t.prt.entries = [] ∧ t.prt.ingest = none ∧ t.prt.stager = List.replicate 32 0
    ∧ t.pss.lockout = none ∧ t.vtu.clock = none
    ∧ (∀ i, (t.slot i).item = .nothing ∧ (t.slot i).pending = none ∧ (t.slot i).current = none
        ∧ (t.slot i).boundary = none ∧ (t.slot i).unlock = none ∧ (t.slot i).hold = .none
        ∧ (t.slot i).picture = false ∧ (t.slot i).decision = .vacant ∧ (t.slot i).enforcement = .showing
        ∧ (t.slot i).frames = 0)
    ∧ t.au.status = 0 ∧ t.au.enable = 0 ∧ t.au.warned = 0 ∧ t.au.capture = none ∧ t.attnAsserted = false
    ∧ t.sc.store = s.sc.store ∧ t.sc.writing = none ∧ t.ct.out = s.ct.out ∧ t.ct.cke = s.ct.cke
    ∧ t.ct.drst = s.ct.drst ∧ t.ct.holds = s.ct.holds ∧ t.ct.arr = s.ct.arr ∧ t.pending = s.pending

/-- Under either arrangement no two columns of the channel share a channel byte address, and every address is one of the
2 GiB and a multiple of 4 (R3). -/
def Obligations.AddressesInjective : Prop :=
  ∀ (arr : Arrangement) (b b' : BitVec 3) (r r' : BitVec 16) (c c' : Nat), c < 1024 → c' < 1024 →
    channelAddress arr b r c < 2147483648 ∧ channelAddress arr b r c % 4 = 0
      ∧ (channelAddress arr b r c = channelAddress arr b' r' c' → b = b' ∧ r = r' ∧ c = c')

/-! ### The channel -/

/-- OPEN makes the bank's entry OPEN with the command's row, which the next column command to the bank uses; on an open
bank it is reported REOPEN; outstanding bursts keep their addresses (R4, R5). -/
def Obligations.OpenTakesRow : Prop :=
  ∀ (s : State) (ba : BitVec 3) (a : BitVec 16), s.decodes = true →
    ∃ t, Runs (.bankOpen ba a) s t ∧ t.bank ba = some a ∧ (∀ bb, bb ≠ ba → t.bank bb = s.bank bb)
      ∧ (s.bank ba = none → t.au = s.au) ∧ ((s.bank ba).isSome = true → Reported s t .reopen 0 ba a.toNat 0)
      ∧ t.ct.outstanding = s.ct.outstanding ∧ t.ct.out.beat = s.ct.out.beat ∧ HeldKept s t ∧ OnlyChannel s t
      ∧ t.sdu = s.sdu
      ∧ (s.ct.outstanding.length < 8 → ∀ (dir : Dir) (col : BitVec 16), ∃ u b, Runs (columnInstr dir ba col) t u
          ∧ u.ct.outstanding = s.ct.outstanding ++ [b] ∧ b.row = a.toNat
          ∧ b.block = some (channelAddress s.ct.arr ba a (columnOf col)
              - channelAddress s.ct.arr ba a (columnOf col) % (b.len * 4)))

/-- READ or WRITE to a closed bank: a CLOSED_BANK report; the burst is entered with treatment pass, no block and row 0
where the list has room, and not entered where it has none; the bank stays CLOSED (R7, R14; log 24). -/
def Obligations.ColumnToClosedBank : Prop :=
  ∀ (s : State) (dir : Dir) (ba : BitVec 3) (a : BitVec 16), s.decodes = true → s.bank ba = none →
    ∃ t, Runs (columnInstr dir ba a) s t ∧ Reported s t .closedBank 0 ba 0 (columnOf a)
      ∧ t.ct.banks = s.ct.banks
      ∧ (s.ct.outstanding.length < 8 → ∃ b : Burst, t.ct.outstanding = s.ct.outstanding ++ [b] ∧ b.dir = dir
          ∧ b.len = burstLength s.ct.form (burstSelect a) ∧ b.block = none ∧ b.start = columnOf a % b.len
          ∧ b.bank = ba ∧ b.col = columnOf a ∧ b.row = 0 ∧ b.treatment = .pass ∧ b.passed = 0)
      ∧ (8 ≤ s.ct.outstanding.length → t.ct.outstanding = s.ct.outstanding)
      ∧ HeldKept s t ∧ OnlyChannel s t ∧ t.sdu = s.sdu

/-- READ or WRITE to an open bank: the burst is formed from the bank's row and entered at the end of the list where it has
room; the auto-close flag closes the bank; other banks are kept (R3, R6, R11, R12, R14). -/
def Obligations.ColumnToOpenBank : Prop :=
  ∀ (s : State) (dir : Dir) (ba : BitVec 3) (a row : BitVec 16), s.decodes = true → s.bank ba = some row →
    ∃ t, Runs (columnInstr dir ba a) s t
      ∧ t.bank ba = (if autoClose a then none else some row) ∧ (∀ bb, bb ≠ ba → t.bank bb = s.bank bb)
      ∧ (s.ct.outstanding.length < 8 → ∃ b : Burst, t.ct.outstanding = s.ct.outstanding ++ [b] ∧ b.dir = dir
          ∧ b.len = burstLength s.ct.form (burstSelect a) ∧ b.start = columnOf a % b.len
          ∧ b.block = some (channelAddress s.ct.arr ba row (columnOf a)
              - channelAddress s.ct.arr ba row (columnOf a) % (b.len * 4))
          ∧ b.bank = ba ∧ b.col = columnOf a ∧ b.row = row.toNat ∧ b.passed = 0)
      ∧ (8 ≤ s.ct.outstanding.length → t.ct.outstanding = s.ct.outstanding ∧ t.sdu = s.sdu ∧ t.au = s.au)
      ∧ HeldKept s t ∧ OnlyChannel s t

/-- A READ to an open bank with room: outside every window, in the CONTROL and the INGEST window it passes; in the REPLY
window it is served the reply content; in a PICTURE window, away from its base block, and in an AUDIO window it passes
unless the slot is HIDING, and is then substituted with the fill tile or with zeros; no slot and no cause changes. The
reply content is R51's: the device status block, the slot and profile summaries, the reply rings and zeros, each field of it
as its owner holds it; until start-up has ended it is all zero (R29 to R35, R51 to R54, R202; logs 14, 31 and 37). -/
def Obligations.ReadTreatments : Prop :=
  (∀ (s : State) (ba : BitVec 3) (a row : BitVec 16), s.decodes = true → s.bank ba = some row →
    s.ct.outstanding.length < 8 →
    (∀ w, s.wd.find (columnBlock s ba row a) = some w → w.kind = .picture → columnBlock s ba row a ≠ w.base) →
    ∃ t b, Runs (.readBurst ba a) s t ∧ t.ct.outstanding = s.ct.outstanding ++ [b] ∧ t.sdu = s.sdu ∧ t.au = s.au
      ∧ (s.wd.find (columnBlock s ba row a) = none → b.treatment = .pass)
      ∧ ∀ w, s.wd.find (columnBlock s ba row a) = some w →
          (w.kind = .control → b.treatment = .pass) ∧ (w.kind = .ingest → b.treatment = .pass)
            ∧ (w.kind = .reply → b.treatment = .reply
                ∧ b.repl = replyBlock s (columnBlock s ba row a - w.base) (b.len * 4))
            ∧ (w.kind = .picture → (s.slot w.slot).enforcement ≠ .hiding → b.treatment = .pass)
            ∧ (w.kind = .picture → (s.slot w.slot).enforcement = .hiding → b.treatment = .fill
                ∧ b.repl = tileBytes s.wd (columnBlock s ba row a) (b.len * 4))
            ∧ (w.kind = .audio → (s.slot w.slot).enforcement ≠ .hiding → b.treatment = .pass)
            ∧ (w.kind = .audio → (s.slot w.slot).enforcement = .hiding → b.treatment = .zeros
                ∧ b.repl = List.replicate (b.len * 4) 0))
  ∧ (∀ s : State, s.phase = .running → WindowShown s)
  ∧ (∀ (s : State) (offset size : Nat), s.phase ≠ .running → replyBlock s offset size = List.replicate size 0)

/-- A WRITE to an open bank with room: outside every window it passes; in the CONTROL window it is staged for its lane and
ring slot; in the REPLY window it is masked and reported; in the INGEST window it is staged while an ingest is ACTIVE; in a
PICTURE or AUDIO window it is masked where the slot is HIDING and the write-guard set, and passes otherwise (R29 to R34). -/
def Obligations.WriteTreatments : Prop :=
  ∀ (s : State) (ba : BitVec 3) (a row : BitVec 16), s.decodes = true → s.bank ba = some row →
    s.ct.outstanding.length < 8 →
    ∃ t b, Runs (.writeBurst ba a) s t ∧ t.ct.outstanding = s.ct.outstanding ++ [b] ∧ t.sdu = s.sdu
      ∧ (s.wd.find (columnBlock s ba row a) = none → b.treatment = .pass ∧ t.au = s.au)
      ∧ ∀ w, s.wd.find (columnBlock s ba row a) = some w →
          (w.kind = .control → t.au = s.au ∧ ∃ lane ring, b.treatment = .stageLane lane ring
              ∧ (columnBlock s ba row a - w.base < 16384 →
                  columnBlock s ba row a - w.base
                    = lane.val * 4096 + ring.val * 64 + (columnBlock s ba row a - w.base) % 64))
            ∧ (w.kind = .reply → b.treatment = .mask
                ∧ Reported s t .replyWrite (columnBlock s ba row a) ba row.toNat (columnOf a))
            ∧ (w.kind = .ingest → t.au = s.au
                ∧ b.treatment = (if s.prt.ingest.isSome then .stageIngest else .pass))
            ∧ (w.kind = .picture ∨ w.kind = .audio → t.au = s.au
                ∧ b.treatment = (if w.guard = true ∧ (s.slot w.slot).enforcement = .hiding then .mask else .pass))

/-- A frame start: a READ of a PICTURE window's base block on a slot with no pending profile ends RELEASING and is counted
where the slot is then SHOWING, and is filled and not counted where it is HIDING; with a pending profile, that profile is
bound and the unlock cleared before the burst is treated (R36, R111, R127). -/
def Obligations.FrameStartRules : Prop :=
  ∀ (s : State) (ba : BitVec 3) (a row : BitVec 16) (w : Window), s.decodes = true → s.bank ba = some row →
    s.ct.outstanding.length < 8 → s.wd.find (columnBlock s ba row a) = some w → w.kind = .picture →
    columnBlock s ba row a = w.base →
    ∃ t b, Runs (.readBurst ba a) s t ∧ t.ct.outstanding = s.ct.outstanding ++ [b] ∧ OtherSlotsKept s t w.slot
      ∧ QuietAttention s t ∧ RaisedAtMostDecision s t
      ∧ ((s.slot w.slot).pending = none →
          ((s.slot w.slot).enforcement ≠ .hiding → b.treatment = .pass ∧ t.slot w.slot =
              { s.slot w.slot with enforcement := .showing, frames := min 255 ((s.slot w.slot).frames + 1) })
            ∧ ((s.slot w.slot).enforcement = .hiding → b.treatment = .fill
                ∧ b.repl = tileBytes s.wd (columnBlock s ba row a) (b.len * 4) ∧ t.sdu = s.sdu))
      ∧ (∀ p, (s.slot w.slot).pending = some p → (t.slot w.slot).bound = p.profile
          ∧ (t.slot w.slot).pending = none ∧ (t.slot w.slot).unlock = none
          ∧ ((t.slot w.slot).enforcement = .hiding ↔ (t.slot w.slot).decision.permits = false)
          ∧ (b.treatment = .fill ↔ (t.slot w.slot).enforcement = .hiding)
          ∧ (t.slot w.slot).frames = (if (t.slot w.slot).enforcement = .showing
              then min 255 ((s.slot w.slot).frames + 1) else (s.slot w.slot).frames))

/-- CLOSE, line 10 low, closes the named bank, CLOSE-ALL, line 10 high, every bank, open or closed, with no report and with
the outstanding bursts as they are (R2, R8). -/
def Obligations.CloseCommands : Prop :=
  ∀ (s : State) (ba : BitVec 3) (a : BitVec 16), s.decodes = true →
    ((Instr.bankClose ba a).wellFormed = true →
      ∃ t, Runs (.bankClose ba a) s t ∧ t.bank ba = none ∧ (∀ bb, bb ≠ ba → t.bank bb = s.bank bb) ∧ t.au = s.au
      ∧ t.ct.outstanding = s.ct.outstanding ∧ HeldKept s t ∧ OnlyChannel s t ∧ t.sdu = s.sdu)
    ∧ ((Instr.closeAll ba a).wellFormed = true →
      ∃ t, Runs (.closeAll ba a) s t ∧ (∀ bb, t.bank bb = none) ∧ t.au = s.au
      ∧ t.ct.outstanding = s.ct.outstanding ∧ HeldKept s t ∧ OnlyChannel s t ∧ t.sdu = s.sdu)

/-- REFRESH and REST ENTRY close every bank, with one REFRESH_OPEN report naming the lowest open bank where one is open;
REST ENTRY also abandons the bursts and takes the channel to REST with the mode values kept (R9, R20). -/
def Obligations.RefreshCommands : Prop :=
  ∀ (s : State) (ba : BitVec 3) (a : BitVec 16), s.decodes = true →
    (∃ t, Runs (.refresh ba a) s t ∧ (∀ bb, t.bank bb = none)
      ∧ ((∀ bb, s.bank bb = none) → t.au = s.au)
      ∧ (∀ bb row, s.bank bb = some row → (∀ bc : BitVec 3, bc.toNat < bb.toNat → s.bank bc = none) →
          Reported s t .refreshOpen 0 bb row.toNat 0)
      ∧ t.ct.outstanding = s.ct.outstanding ∧ HeldKept s t ∧ OnlyChannel s t ∧ t.sdu = s.sdu)
    ∧ (∃ t, Runs (.restEntry ba a) s t ∧ (∀ bb, t.bank bb = none)
      ∧ ((∀ bb, s.bank bb = none) → t.au = s.au)
      ∧ (∀ bb row, s.bank bb = some row → (∀ bc : BitVec 3, bc.toNat < bb.toNat → s.bank bc = none) →
          Reported s t .refreshOpen 0 bb row.toNat 0)
      ∧ t.ct.outstanding = [] ∧ t.ct.channel = .rest ∧ t.ct.cke = false ∧ t.ct.form = s.ct.form
      ∧ t.ct.readLat = s.ct.readLat ∧ t.ct.addLat = s.ct.addLat ∧ t.ct.writeLat = s.ct.writeLat
      ∧ t.ct.unfollowed = s.ct.unfollowed ∧ OnlyChannel s t ∧ t.sdu = s.sdu)

/-- MODE LOAD: each field the register carries is taken and followed where supported, and kept and unfollowed where not;
the channel state moves, and CHANNEL is raised, exactly where the unfollowed set goes between empty and non-empty. Where it
becomes empty once start-up has ended, the lanes then take the records that PASS-ONLY kept waiting, in the order STARTUP_END
gave and with all that those records do, an ATTENTION_CLEAR of CHANNEL among them; otherwise nothing else changes (R18, R21,
R44, R195, R203; logs 7 and 36). -/
def Obligations.ModeLoadFields : Prop :=
  ∀ (s : State) (ba : BitVec 3) (a : BitVec 16), s.decodes = true →
    ∃ t, Runs (.modeLoad ba a) s t
      ∧ (ba.toNat % 4 = 0 →
          (5 ≤ a.toNat % 32 ∧ a.toNat % 32 ≤ 16 → t.ct.readLat = a.toNat % 32 ∧ t.ct.unfollowed.readLat = false)
          ∧ (a.toNat % 32 < 5 ∨ 16 < a.toNat % 32 → t.ct.readLat = s.ct.readLat ∧ t.ct.unfollowed.readLat = true)
          ∧ (a.toNat / 256 % 4 = 0 → t.ct.form = s.ct.form ∧ t.ct.unfollowed.form = true)
          ∧ (a.toNat / 256 % 4 = 1 → t.ct.form = .fixed8 ∧ t.ct.unfollowed.form = false)
          ∧ (a.toNat / 256 % 4 = 2 → t.ct.form = .fixed4 ∧ t.ct.unfollowed.form = false)
          ∧ (a.toNat / 256 % 4 = 3 → t.ct.form = .selectable ∧ t.ct.unfollowed.form = false))
      ∧ (ba.toNat % 4 = 1 →
          (a.toNat / 1024 % 8 ≤ 4 → t.ct.addLat = a.toNat / 1024 % 8 ∧ t.ct.unfollowed.addLat = false)
          ∧ (4 < a.toNat / 1024 % 8 → t.ct.addLat = s.ct.addLat ∧ t.ct.unfollowed.addLat = true))
      ∧ (ba.toNat % 4 = 2 →
          (a.toNat % 16 ≤ 7 → t.ct.writeLat = a.toNat % 16 + 5 ∧ t.ct.unfollowed.writeLat = false)
          ∧ (7 < a.toNat % 16 → t.ct.writeLat = s.ct.writeLat ∧ t.ct.unfollowed.writeLat = true))
      ∧ (ba.toNat % 4 ≠ 0 → t.ct.form = s.ct.form ∧ t.ct.readLat = s.ct.readLat
          ∧ t.ct.unfollowed.form = s.ct.unfollowed.form ∧ t.ct.unfollowed.readLat = s.ct.unfollowed.readLat)
      ∧ (ba.toNat % 4 ≠ 1 → t.ct.addLat = s.ct.addLat ∧ t.ct.unfollowed.addLat = s.ct.unfollowed.addLat)
      ∧ (ba.toNat % 4 ≠ 2 → t.ct.writeLat = s.ct.writeLat ∧ t.ct.unfollowed.writeLat = s.ct.unfollowed.writeLat)
      ∧ (s.ct.unfollowed.any = t.ct.unfollowed.any →
          t.ct.channel = s.ct.channel ∧ t.au = s.au ∧ OnlyChannel s t ∧ t.sdu = s.sdu)
      ∧ (s.ct.unfollowed.any ≠ t.ct.unfollowed.any →
          t.ct.channel = (if t.ct.unfollowed.any then .passOnly else .active))
      ∧ (s.ct.unfollowed.any ≠ t.ct.unfollowed.any → t.ct.unfollowed.any = true ∨ s.NothingWaits →
          t.au = { s.au with status := s.au.status ||| Cause.channel.bit } ∧ OnlyChannel s t ∧ t.sdu = s.sdu)
      ∧ (s.ct.unfollowed.any = true → t.ct.unfollowed.any = false → s.phase = .running →
          t = takeAll s.lc.order { s with ct := t.ct, au.status := s.au.status ||| Cause.channel.bit }
            ∧ ∀ n, TookHeld s t n)
      ∧ t.ct.banks = s.ct.banks ∧ t.ct.outstanding = s.ct.outstanding ∧ t.phase = s.phase

/-- IDLE ENTRY, whose lines spell no refresh, abandons the bursts and takes the channel to IDLE-DOWN; REST EXIT and IDLE
EXIT, with no reset asserted, take it to PASS-ONLY or ACTIVE by the unfollowed set; bank table, mode values and causes are
kept (R2, R19, R20). -/
def Obligations.ClockEnableEdges : Prop :=
  (∀ (s : State) (l : Lines), s.decodes = true → (Instr.idleEntry l).wellFormed = true →
    ∃ t, Runs (.idleEntry l) s t ∧ t.ct.out.lines = some l ∧ t.ct.channel = .idleDown ∧ t.ct.cke = false ∧ t.ct.outstanding = []
      ∧ t.ct.banks = s.ct.banks ∧ t.ct.form = s.ct.form ∧ t.ct.readLat = s.ct.readLat ∧ t.ct.addLat = s.ct.addLat
      ∧ t.ct.writeLat = s.ct.writeLat ∧ t.ct.unfollowed = s.ct.unfollowed ∧ t.au = s.au ∧ OnlyChannel s t
      ∧ t.sdu = s.sdu)
  ∧ (∀ s : State, s.tracks = true → s.ct.cke = false → s.ct.channel = .rest →
    ∃ t, Runs .restExit s t ∧ t = { s with ct.cke := true, ct.channel :=
      if s.ct.unfollowed.any then .passOnly else .active })
  ∧ (∀ s : State, s.tracks = true → s.ct.cke = false → s.ct.channel = .idleDown →
    ∃ t, Runs .idleExit s t ∧ t = { s with ct.cke := true, ct.channel :=
      if s.ct.unfollowed.any then .passOnly else .active })

/-- CHANNEL_RESET: banks closed, bursts abandoned, strap defaults, ACTIVE; the lanes initial with their classes kept; an
ingest dropped with no reply; frame counts zero; CHANNEL where the unfollowed set was not empty; all else kept. While the
DRAM reset line or the part reset input stays asserted no command is decoded: the lines of one presented pass, clock enable
moves as a pin, and nothing else changes but the line's own count (R1, R2, R22, R57, R80, R103, R199; log 9). -/
def Obligations.ChannelResetEffect : Prop :=
  (∀ s : State, s.isReleased = true →
    ∃ t, Runs .channelReset s t ∧ t.ct.drst = s.ct.holds.headD 0 ∧ t.ct.holds = s.ct.holds.tail ∧ t.ct.out = s.ct.out ∧ t.ct.cke = s.ct.cke ∧ (∀ ba, t.bank ba = none) ∧ t.ct.outstanding = [] ∧ t.ct.form = .fixed8
      ∧ t.ct.readLat = 11 ∧ t.ct.addLat = 0 ∧ t.ct.writeLat = 8 ∧ t.ct.unfollowed.any = false ∧ t.ct.channel = .active
      ∧ t.ct.arr = s.ct.arr
      ∧ (∀ n, t.lane n = Lane.atReset (s.lane n).classes)
      ∧ t.prt.ingest = none ∧ t.prt.stager = List.replicate 32 0 ∧ t.prt.entries = s.prt.entries
      ∧ (∀ i, t.slot i = { s.slot i with frames := 0 })
      ∧ (s.ct.unfollowed.any = false → t.au = s.au)
      ∧ (s.ct.unfollowed.any = true → t.au = { s.au with status := s.au.status ||| Cause.channel.bit })
      ∧ t.wd = s.wd ∧ t.pss = s.pss ∧ t.vtu = s.vtu ∧ t.sc = s.sc ∧ t.phase = s.phase ∧ t.pending = s.pending)
  ∧ (∀ (s : State) (l : Lines) (i : Instr), s.ct.cke = true → s.tracks = false → l.command = some i →
    Runs i s { s with ct.out.lines := some l, ct.drst := s.ct.drst - 1 })
  ∧ (∀ (s : State) (l : Lines), s.tracks = false →
    Runs l.fallingCommand s { s with ct.out.lines := some l, ct.cke := false, ct.drst := s.ct.drst - 1 }
      ∧ Runs .restExit s { s with ct.cke := true, ct.drst := s.ct.drst - 1 }
      ∧ Runs .idleExit s { s with ct.cke := true, ct.drst := s.ct.drst - 1 })

/-- Every data beat completes, driven on in its own direction. A beat of a burst on the list: outside PASS-ONLY a substituted read carries the replacement bytes of its place in the
wrap order and a masked write has all four mask lines forced on; a beat in PASS-ONLY passes as driven; short of its last
beat a burst that is passed or staged passes as driven, and a staged one gathers its bytes with the host's mask; nothing
else of the burst's entry changes. The last beat takes the burst off the list; one staged throughout outside PASS-ONLY is
then delivered whole to its lane or to the ingest, and a burst not staged, or with a beat in PASS-ONLY, delivers nothing. A
beat of no burst listed in its direction passes as driven and changes nothing else (R1, R12, R14, R16, R17, R21). -/
def Obligations.BeatTreatments : Prop :=
  (∀ (s : State) (dir : Dir) (index : Nat) (data : BitVec 32) (mask : BitVec 4),
    ∃ t out, Runs (.dataBeat dir index data mask) s t ∧ t.ct.out.beat = some out ∧ out.dir = dir)
  ∧ (∀ (s : State) (index : Nat) (b : Burst) (data : BitVec 32) (mask : BitVec 4),
    s.ct.outstanding[index]? = some b → b.passed + 1 < b.len →
    ∃ t out after, Runs (.dataBeat b.dir index data mask) s t
      ∧ t = { s with ct.out.beat := some out, ct.outstanding := s.ct.outstanding.set index after }
      ∧ out.dir = b.dir
      ∧ after = { b with passed := b.passed + 1, gathered := after.gathered, spoiled := after.spoiled }
      ∧ (s.ct.channel = .passOnly → out.data = data ∧ out.mask = mask ∧ after.gathered = b.gathered
          ∧ after.spoiled = true)
      ∧ (s.ct.channel ≠ .passOnly → after.spoiled = b.spoiled
          ∧ (b.treatment = .fill ∨ b.treatment = .zeros ∨ b.treatment = .reply →
              out.data = wordAt b.repl ((b.start + b.passed) % b.len * 4) ∧ out.mask = mask)
          ∧ (b.treatment = .mask → out.data = data ∧ out.mask = 15)
          ∧ (b.treatment = .pass ∨ b.treatment.staged = true → out.data = data ∧ out.mask = mask)
          ∧ (b.treatment.staged = true → b.gathered.length = b.len * 4 →
              after.gathered.length = b.len * 4
              ∧ ∀ k, k < b.len * 4 → after.gathered[k]? =
                  if k / 4 = (b.start + b.passed) % b.len then
                    some (if mask.getLsbD (k % 4) then none else some (data.extractLsb' (8 * (k % 4)) 8))
                  else b.gathered[k]?)
          ∧ (b.treatment.staged = false → after.gathered = b.gathered)))
  ∧ (∀ (s : State) (dir : Dir) (index : Nat) (data : BitVec 32) (mask : BitVec 4),
    (∀ b, s.ct.outstanding[index]? = some b → b.dir ≠ dir) →
    ∃ t, Runs (.dataBeat dir index data mask) s t
      ∧ t = { s with ct.out.beat := some { dir := dir, data := data, mask := mask } })
  ∧ (∀ (s : State) (index : Nat) (b : Burst) (data : BitVec 32) (mask : BitVec 4),
    s.ct.outstanding[index]? = some b → b.len ≤ b.passed + 1 →
    b.treatment.staged = false ∨ b.spoiled = true ∨ s.ct.channel = .passOnly →
    ∃ t out, Runs (.dataBeat b.dir index data mask) s t
      ∧ t = { s with ct.out.beat := some out, ct.outstanding := s.ct.outstanding.eraseIdx index }
      ∧ out.dir = b.dir ∧ (s.ct.channel = .passOnly → out.data = data ∧ out.mask = mask)
      ∧ (s.ct.channel ≠ .passOnly →
          (b.treatment = .fill ∨ b.treatment = .zeros ∨ b.treatment = .reply →
              out.data = wordAt b.repl ((b.start + b.passed) % b.len * 4) ∧ out.mask = mask)
          ∧ (b.treatment = .mask → out.data = data ∧ out.mask = 15)
          ∧ (b.treatment = .pass → out.data = data ∧ out.mask = mask)))
  ∧ (∀ (s : State) (index : Nat) (b : Burst) (data : BitVec 32) (mask : BitVec 4),
    s.OutstandingLawful → s.ct.outstanding[index]? = some b → b.len ≤ b.passed + 1 → b.spoiled = false →
    s.ct.channel ≠ .passOnly →
    ∃ u gathered, u = { s with
        ct.out.beat := some { dir := b.dir, data := data, mask := mask }
        ct.outstanding := s.ct.outstanding.eraseIdx index }
      ∧ (b.gathered.length = b.len * 4 → b.treatment.staged = true → gathered.length = b.len * 4
          ∧ ∀ k, k < b.len * 4 → gathered[k]? =
              if k / 4 = (b.start + b.passed) % b.len then
                some (if mask.getLsbD (k % 4) then none else some (data.extractLsb' (8 * (k % 4)) 8))
              else b.gathered[k]?)
      ∧ (∀ lane ring, b.treatment = .stageLane lane ring → Runs (.dataBeat b.dir index data mask) s
          (laneDelivery lane ring
            { block := b.block.getD 0, bytes := gathered, bank := b.bank, row := b.row, col := b.col } u))
      ∧ (b.treatment = .stageIngest → Runs (.dataBeat b.dir index data mask) s
          (ingestDelivery
            { block := b.block.getD 0, bytes := gathered, bank := b.bank, row := b.row, col := b.col } u)))

/-- The last beat of a burst staged for a lane: to a ring slot neither expected nor next the lane is kept, and a closing
write there is reported LANE_SEQUENCE; a delivery that closes nothing changes the buffer's unmasked bytes alone; to a closed
buffer, expected or next, nothing is copied. A closing write with the slot's toggle closes an open buffer: the next one's
record is held; the expected one's is held while start-up runs and else taken at once, a record held behind it with it
(R17, R41 to R44, R56). -/
def Obligations.LaneDeliveryRules : Prop :=
  ∀ (s : State) (lane : Fin 4) (ring : Fin 64) (d : Delivery),
    (ring ≠ (s.lane lane).expected → ring ≠ (s.lane lane).expected + 1 →
      (d.closingToggle = none → laneDelivery lane ring d s = s)
      ∧ (d.closingToggle ≠ none → (laneDelivery lane ring d s).lc = s.lc
          ∧ Reported s (laneDelivery lane ring d s) .laneSequence d.block d.bank d.row d.col))
    ∧ (ring = (s.lane lane).expected → (s.lane lane).cur.closed = true → laneDelivery lane ring d s = s)
    ∧ (ring = (s.lane lane).expected + 1 → (s.lane lane).nxt.closed = true → laneDelivery lane ring d s = s)
    ∧ (ring = (s.lane lane).expected → (s.lane lane).cur.closed = false →
        d.closingToggle = some (flagByte (s.lane lane).toggle) → s.phase ≠ .running →
        laneDelivery lane ring d s = s.setLane lane
          { s.lane lane with cur := { bytes := overlayAt (s.lane lane).cur.bytes (d.block % 64) d.bytes, closed := true } })
    ∧ (ring = (s.lane lane).expected → (s.lane lane).cur.closed = false →
        d.closingToggle = some (flagByte (s.lane lane).toggle) → s.phase = .running →
        ((laneDelivery lane ring d s).lane lane).expected
            = (s.lane lane).expected + (if (s.lane lane).nxt.closed then 2 else 1)
          ∧ ((laneDelivery lane ring d s).lane lane).cur.closed = false
          ∧ ((laneDelivery lane ring d s).lane lane).nxt.closed = false)
    ∧ (ring = (s.lane lane).expected → (s.lane lane).cur.closed = false →
        d.closingToggle ≠ some (flagByte (s.lane lane).toggle) →
        laneDelivery lane ring d s = s.setLane lane
          { s.lane lane with cur := { bytes := overlayAt (s.lane lane).cur.bytes (d.block % 64) d.bytes, closed := false } })
    ∧ (ring = (s.lane lane).expected + 1 → (s.lane lane).nxt.closed = false →
        laneDelivery lane ring d s = s.setLane lane
          { s.lane lane with nxt :=
              { bytes := overlayAt (s.lane lane).nxt.bytes (d.block % 64) d.bytes,
                closed := decide (d.closingToggle = some (flagByte (s.lane lane).nextToggle)) } })

/-- A delivery to the ingest stager: none is taken while IDLE; one at the next address is copied, and where it closes the
record processes its event core by withdrawal or insert, counts it once, advances the run with wrap and zeroes the stager,
ending DONE with its INGEST_END reply when the count runs out; a closing one at any other block ends the run ABORTED with an
INGEST_ORDER report and its INGEST_END reply, nothing processed; one that closes nothing there has no effect (R75 to R79; log
29 for a block outside the INGEST window). -/
def Obligations.IngestDeliveryRules : Prop :=
  ∀ (s : State) (d : Delivery),
    (s.prt.ingest = none → ingestDelivery d s = s)
    ∧ (∀ g w, s.prt.ingest = some g → s.wd.ingestWindow = some w → d.block - d.block % 32 = g.next →
        d.closesIngest = true →
        IngestFrame s (ingestDelivery d s) ∧ (ingestDelivery d s).au.capture = s.au.capture
        ∧ (ingestDelivery d s).prt.stager = List.replicate 32 0
        ∧ ∃ h, Processed s (ingestDelivery d s) (eventCoreAt (overlayAt s.prt.stager (d.block % 32) d.bytes) 0) g h
          ∧ (g.remaining ≤ 1 → IngestEnded s (ingestDelivery d s) h .done)
          ∧ (1 < g.remaining → (ingestDelivery d s).lc = s.lc ∧ RaisedAtMostDecision s (ingestDelivery d s)
              ∧ (ingestDelivery d s).prt.ingest = some { h with
                  remaining := g.remaining - 1
                  next := if w.limit < g.next + 32 then w.base else g.next + 32 }))
    ∧ (∀ g, s.prt.ingest = some g → d.block - d.block % 32 ≠ g.next → d.closesIngest = true →
        IngestEnded s (ingestDelivery d s) g .aborted ∧ Unstored s (ingestDelivery d s)
        ∧ IngestFrame s (ingestDelivery d s)
        ∧ (s.au.capture = none → (ingestDelivery d s).au.status =
              s.au.status ||| Cause.capture.bit ||| Cause.reply.bit ||| Cause.ingest.bit
            ∧ (ingestDelivery d s).au.capture = some
              { kind := .ingestOrder, block := d.block, bank := d.bank, row := d.row, col := d.col, more := false })
        ∧ ∀ c, s.au.capture = some c → (ingestDelivery d s).au.capture = some { c with more := true }
            ∧ (ingestDelivery d s).au.status = s.au.status ||| Cause.reply.bit ||| Cause.ingest.bit)
    ∧ (∀ g, s.prt.ingest = some g → d.block - d.block % 32 ≠ g.next → d.closesIngest = false →
        ingestDelivery d s = s)
    ∧ (∀ g, s.prt.ingest = some g → d.block - d.block % 32 = g.next → d.closesIngest = false →
        ingestDelivery d s = { s with prt.stager := overlayAt s.prt.stager (d.block % 32) d.bytes })

/-- A record that reaches a lane in two bursts of 32 unmasked bytes, the closing word in the second, leaves the part as the
record's own command does: that the command stands for its record closed whole in its lane is the model's choice, log 5 (R40
to R44, R200, R201). -/
def Obligations.WholeRecordByBursts : Prop :=
  ∀ (i : Instr) (h : Header) (code : Byte) (body : List Byte) (s : State) (low high : Delivery),
    recordParts i = some (h, code, body) → i.wellFormed = true → Listening s h →
    (s.lane h.lane).cur.bytes.length = 64 →
    low.block % 64 = 0 → low.bytes = ((recordBytes h code body (s.lane h.lane).toggle).take 32).map some →
    high.block % 64 = 32 → high.bytes = ((recordBytes h code body (s.lane h.lane).toggle).drop 32).map some →
    Runs i s (laneDelivery h.lane (s.lane h.lane).expected high
      (laneDelivery h.lane (s.lane h.lane).expected low s))

/-- The record of every record command that a lane can carry is read back as that command, every operand at every value
(R200, R201). -/
def Obligations.RecordRoundTrip : Prop :=
  ∀ (i : Instr) (h : Header) (code : Byte) (body : List Byte) (toggle : Bool),
    recordParts i = some (h, code, body) → i.wellFormed = true →
    decodeRecord h.lane (recordBytes h code body toggle) = i

/-! ### Acceptance -/

/-- UNKNOWN_COMMAND: a code that names no command is answered BAD_COMMAND, with an empty payload, and changes nothing
else (R47 step 1, R49, R50). -/
def Obligations.UnknownCommandRefused : Prop :=
  ∀ (s : State) (h : Header) (code : Byte), Listening s h → bodyLength code = none →
    Refused (.unknownCommand h code) s h code .badCommand []

/-- Every command a record can name is refused NOT_PERMITTED where the lane lacks its class, before its body length byte
is looked at, and BAD_LENGTH where that byte is not its own; either changes nothing else (R47 steps 2 and 3). -/
def Obligations.RefusalOrder : Prop :=
  ∀ (i : Instr) (H : Handler) (h : Header) (code : Byte) (body : List Byte) (s : State),
    handlerOf i = some H → recordParts i = some (h, code, body) → Listening s h →
    (laneHolds s h.lane H.cls = false → Refused i s h code .notPermitted [])
    ∧ (laneHolds s h.lane H.cls = true → h.len.toNat ≠ H.length → Refused i s h code .badLength [])

/-- A record that needs the PIN: during a lockout it is refused LOCKED_OUT with nothing changed; otherwise a compare that
fails is answered PIN_WRONG, adds one to the failure count, 255 staying 255, and from 5 upward starts a lockout of
min(60 × 2^(count − 5), 3,840) seconds and raises LOCKOUT; no other block changes (R47, R48, R50, R97 to R100). -/
def Obligations.PinRefusals : Prop :=
  ∀ (i : Instr) (H : Handler) (h : Header) (code : Byte) (body : List Byte) (s : State),
    handlerOf i = some H → recordParts i = some (h, code, body) → Ready s h H.cls H.length → H.needsPin s = true →
    (∀ n, s.pss.lockout = some n → Refused i s h code .lockedOut (num8 s.pss.failures ++ num16 n))
    ∧ (s.pss.lockout = none → pinMatches s.pss.pin h.pin = false →
        ∃ t, Runs i s t
          ∧ Answered s t h code ReplyCode.pinWrong.code false
              (num8 (min 255 (s.pss.failures + 1)) ++ num16 (if 5 ≤ min 255 (s.pss.failures + 1)
                then min (60 * 2 ^ (min 255 (s.pss.failures + 1) - 5)) 3840 else 0))
          ∧ t.pss.failures = min 255 (s.pss.failures + 1)
          ∧ t.pss.lockout = (if 5 ≤ min 255 (s.pss.failures + 1)
              then some (min (60 * 2 ^ (min 255 (s.pss.failures + 1) - 5)) 3840) else none)
          ∧ (5 ≤ min 255 (s.pss.failures + 1) →
              t.au.status = s.au.status ||| Cause.lockout.bit ||| Cause.reply.bit)
          ∧ (min 255 (s.pss.failures + 1) < 5 → t.au.status = s.au.status ||| Cause.reply.bit)
          ∧ (s.pss.failures < 255 → WrittenSoon t .pin)
          ∧ t.pss.pin = s.pss.pin ∧ t.pss.profiles = s.pss.profiles ∧ t.pss.services = s.pss.services
          ∧ TrafficKept s t ∧ QuietAttention s t ∧ ClassesKept s t ∧ t.sdu = s.sdu ∧ t.vtu = s.vtu ∧ SettingsKept s t)

/-! ### QUERY and REPORT -/

/-- The eight QUERY commands with good fields are answered OK, field by field, with what their owners hold, and change nothing
else; a time not given while the clock is UNSET is refused CLOCK_UNSET, an absent service NOT_FOUND with both counts (R154
to R161, R201, R202). The model's choices in the payloads: logs 13 (half and part stay bytes), 14 (fields with no value keep
their places), 15 (the scheme nibble of an unused position is free), 33 (RATING_CHECK's decision keeps its code byte) and 34
(both counts in the refusal). -/
def Obligations.QueriesAnswer : Prop :=
  ∀ (s : State) (h : Header),
    (∀ service time t e, Ready s h .query 6 → timeField s time = some t →
      currentEvent s.prt.entries service.toNat t = some e →
      Queried (.readEvent h service time) s h 0x10
        ([openingByte [true, (nextBoundary s.prt.entries service.toNat t).isSome]] ++ wall32 t ++ num16 e.event
          ++ num32 e.start ++ num32 e.duration ++ num8 e.version ++ num8 e.category.val ++ [e.flags]
          ++ ratingPositions e.ratings
          ++ orAbsent32 ((nextBoundary s.prt.entries service.toNat t).map fun n => n - t)))
    ∧ (∀ service time t, Ready s h .query 6 → timeField s time = some t →
      currentEvent s.prt.entries service.toNat t = none →
      Queried (.readEvent h service time) s h 0x10
        ([openingByte [false, (nextBoundary s.prt.entries service.toNat t).isSome]] ++ wall32 t ++ num16 0
          ++ num32 0xFFFFFFFF ++ num32 0xFFFFFFFF ++ [0, 0, 0, 0, 0]
          ++ orAbsent32 ((nextBoundary s.prt.entries service.toNat t).map fun n => n - t)))
    ∧ (∀ profile service time p t, Ready s h .query 7 → validProfileField s profile = some p →
      timeField s time = some t →
      ∃ v, DryRun s p service.toNat t (currentEvent s.prt.entries service.toNat t) v
        ∧ Queried (.ratingCheck h profile service time) s h 0x11
          ([openingByte [(currentEvent s.prt.entries service.toNat t).isSome, curfewAt s p t,
              (currentEvent s.prt.entries service.toNat t).isNone
                && (defaultRatings s.pss.services service.toNat).isEmpty], v.decision.code, v.decision.reasonCode]
            ++ num8 v.step
            ++ (match currentEvent s.prt.entries service.toNat t with
                | some e => num16 e.event ++ num8 e.category.val
                | none => num16 0 ++ num8 (defaultCategory s.pss.services service.toNat).val)
            ++ minutes16 (s.remaining p)))
    ∧ (∀ service, Ready s h .query 6 → s.vtu.clock = none →
      Refused (.readEvent h service 0xFFFFFFFF) s h 0x10 .clockUnset [])
    ∧ (∀ profile service p, Ready s h .query 7 → validProfileField s profile = some p → s.vtu.clock = none →
      Refused (.ratingCheck h profile service 0xFFFFFFFF) s h 0x11 .clockUnset [])
    ∧ (∀ service, Ready s h .query 2 → serviceEntry s.pss.services service.toNat = none →
      Refused (.readService h service) s h 0x15 .notFound
        (num16 s.pss.services.length ++ num16 (countOfService s.prt.entries service.toNat)))
    ∧ (∀ profile c, Ready s h .query 2 → profileField profile = some (childNumber c) →
      Queried (.readProfile h profile 0) s h 0x12
          ([openingByte [(s.child c).valid, (s.child c).suspended, (s.child c).mode.isAllowList]]
            ++ num8 (s.child c).ceilings[0] ++ num8 (s.child c).ceilings[1] ++ num8 (s.child c).ceilings[2]
            ++ num8 (s.child c).ceilings[3] ++ [(s.child c).blocked, (s.child c).unrated.code])
        ∧ Queried (.readProfile h profile 1) s h 0x12
          (num16 (s.child c).weekday ++ num16 (s.child c).weekend ++ num16 (s.child c).weekly
            ++ num8 (s.child c).carryCap ++ num8 (s.child c).warn ++ num8 (s.child c).extLimit
            ++ num8 (s.child c).weights[0] ++ num8 (s.child c).weights[1] ++ num8 (s.child c).weights[2]
            ++ num8 (s.child c).weights[3])
        ∧ Queried (.readProfile h profile 2) s h 0x12
          (num8 (s.child c).curfews.length ++ curfewBytes (s.child c).curfews[0]? ++ curfewBytes (s.child c).curfews[1]?)
        ∧ Queried (.readProfile h profile 3) s h 0x12
          ([openingByte [s.curfewActive c]] ++ curfewBytes (s.child c).curfews[2]?
            ++ curfewBytes (s.child c).curfews[3]?))
    ∧ (∀ profile c part, Ready s h .query 2 → profileField profile = some (childNumber c) → s.child c = .invalid →
      s.curfewActive c = false → part.toNat ≤ 3 → Queried (.readProfile h profile part) s h 0x12 [])
    ∧ (Ready s h .query 2 →
      Queried (.readProfile h 0 0) s h 0x12 [1, 15, 15, 15, 15, 0, 0]
        ∧ Queried (.readProfile h 0 1) s h 0x12 (num16 1440 ++ num16 1440 ++ num16 10080 ++ [0, 1, 0, 0, 0, 0, 0])
        ∧ Queried (.readProfile h 0 2) s h 0x12 [] ∧ Queried (.readProfile h 0 3) s h 0x12 [])
    ∧ (∀ profile c, Ready s h .query 1 → validProfileField s profile = some (childNumber c) →
      Queried (.readUsage h profile) s h 0x13
        ([openingByte [(s.usage c).ext.isSome, (s.usage c).ext.any fun e => e.expiry.isUptime, (s.usage c).extUsed,
            (s.usage c).warned, (s.usage c).exhausted]]
          ++ num32 (s.usage c).today ++ num8 (s.usage c).acc ++ num32 (s.usage c).week ++ num16 (s.usage c).carry
          ++ num16 (s.usage c).bonus ++ num32 (s.usage c).weekBonus ++ expiry32 ((s.usage c).ext.map Extension.expiry)
          ++ minutes16 (s.remainingChild c)))
    ∧ (Ready s h .query 1 → Queried (.readUsage h 0) s h 0x13 (List.replicate 22 0 ++ [0xFF, 0xFF]))
    ∧ (∀ slot i, Ready s h .query 1 → slotField slot = some i →
      ∃ payload, SlotShown s (s.slot i) payload ∧ payload.length = 24
        ∧ Queried (.readSlot h slot) s h 0x14 payload)
    ∧ (∀ service e, Ready s h .query 2 → serviceEntry s.pss.services service.toNat = some e →
      Queried (.readService h service) s h 0x15
        (ratingPositions e.ratings ++ num8 e.category.val ++ [e.allow, e.block] ++ num16 s.pss.services.length
          ++ num16 (countOfService s.prt.entries service.toNat)))
    ∧ (Ready s h .query 0 → s.au.capture = none → Queried (.readCapture h) s h 0x16 [])
    ∧ (∀ c, Ready s h .query 0 → s.au.capture = some c →
      Queried (.readCapture h) s h 0x16
        ([openingByte [true, c.more], c.kind.code] ++ num32 c.block ++ [c.bank.zeroExtend 8] ++ num16 c.row
          ++ num16 c.col))
    ∧ (∀ (index : Byte) (k : Fin 16), Ready s h .query 2 → index.toNat = k.val → s.wd.windows[k] = none →
      Queried (.readWindow h index 0) s h 0x17 [openingByte [false, false, s.wd.locked], index])
    ∧ (∀ (index : Byte) (k : Fin 16) (w : Window), Ready s h .query 2 → index.toNat = k.val → s.wd.windows[k] = some w →
      w.kind ≠ .picture → w.kind ≠ .audio →
      Queried (.readWindow h index 0) s h 0x17
        ([openingByte [true, false, s.wd.locked], index, w.kind.code] ++ num32 w.base ++ num32 w.limit))
    ∧ (∀ (index : Byte) (k : Fin 16) (w : Window), Ready s h .query 2 → index.toNat = k.val → s.wd.windows[k] = some w →
      w.kind = .picture ∨ w.kind = .audio →
      Queried (.readWindow h index 0) s h 0x17
        ([openingByte [true, w.guard, s.wd.locked], index, w.kind.code] ++ num32 w.base ++ num32 w.limit
          ++ num8 w.slot.val ++ num8 (s.wd.countOf .picture w.slot) ++ num8 (s.wd.countOf .audio w.slot)))
    ∧ (∀ (index part : Byte) (k : Fin 2), Ready s h .query 2 → index.toNat = k.val + 16 → part.toNat < 2 →
      Queried (.readWindow h index part) s h 0x17
        ([openingByte [s.wd.locked]]
          ++ (List.range 16).map (fun j => (s.wd.tile[k].toList[16 * part.toNat + j]?).getD 0) ++ num8 k.val ++ [part]))

/-- ATTENTION_SET replaces the enable set; ATTENTION_CLEAR takes its causes out of the status before its own reply raises
REPLY, and empties the warned-profile set where it names WARN; CAPTURE_CLEAR empties the capture record and returns it as
it stood. Nothing else changes. In every state the attention line is asserted exactly while a cause is in both the status
and the enable set, so each of the first two moves it within its own taking (R169, R170, R195, R196, R198). That
ATTENTION_SET answers the status without its own reply's REPLY is the model's choice, log 38. -/
def Obligations.AttentionCommands : Prop :=
  (∀ s : State, LineFollows s)
  ∧ ∀ (s : State) (h : Header),
    (∀ causes set, Ready s h .report 2 → causeSetField causes = some set →
      ∃ t, Runs (.attentionSet h causes) s t
        ∧ Answered s t h 0x50 0 false (le16 (s.au.status.zeroExtend 16) ++ le16 (set.zeroExtend 16))
        ∧ t.au = { s.au with enable := set, status := s.au.status ||| Cause.reply.bit }
        ∧ (t.attnAsserted = true ↔ (s.au.status ||| Cause.reply.bit) &&& set ≠ 0)
        ∧ TrafficKept s t ∧ t.pss = s.pss ∧ t.sdu = s.sdu ∧ t.vtu = s.vtu ∧ ClassesKept s t
        ∧ (s.Settled → t.sc = s.sc))
    ∧ (∀ causes set, Ready s h .report 2 → causeSetField causes = some set →
      ∃ t, Runs (.attentionClear h causes) s t
        ∧ Answered s t h 0x51 0 false
            (le16 (s.au.status.zeroExtend 16) ++ [s.au.warned] ++ le16 ((s.au.status &&& ~~~set).zeroExtend 16))
        ∧ t.au = { s.au with
                    status := (s.au.status &&& ~~~set) ||| Cause.reply.bit
                    warned := if set.getLsbD 1 then 0 else s.au.warned }
        ∧ (t.attnAsserted = true ↔ ((s.au.status &&& ~~~set) ||| Cause.reply.bit) &&& s.au.enable ≠ 0)
        ∧ TrafficKept s t ∧ t.pss = s.pss ∧ t.sdu = s.sdu ∧ t.vtu = s.vtu ∧ ClassesKept s t
        ∧ (s.Settled → t.sc = s.sc))
    ∧ (Ready s h .report 0 →
      ∃ t, Runs (.captureClear h) s t ∧ Answered s t h 0x52 0 false (capturePayload s.au.capture)
        ∧ t.au = { s.au with capture := none, status := s.au.status ||| Cause.reply.bit }
        ∧ TrafficKept s t ∧ t.pss = s.pss ∧ t.sdu = s.sdu ∧ t.vtu = s.vtu ∧ ClassesKept s t
        ∧ (s.Settled → t.sc = s.sc))

/-! ### GUIDE -/

/-- EVENT_NOTICE leaves the table the insert procedure gives: the new entry in it, entries of other services kept but for
an evicted one, slots not LIVE on a touched service as they were; STALE and TABLE_FULL change nothing. On a lawful table the
procedure refuses STALE a version not newer than its key's; otherwise it takes out that entry and every other of the service
whose span intersects, counting these, and where the table is still full gives up the one entry R64 names, or is TABLE_FULL
where it names none (R60 to R66, R71, R162). -/
def Obligations.EventNoticeInserts : Prop :=
  (∀ (s : State) (h : Header) (core : EventCore) (e : Entry), Ready s h .guide 20 → core.start ≠ 0xFFFFFFFF →
    entryOf core = some e →
    (∀ table replaced overlap evicted,
      insertEntry s.wallNow s.pinnedKeys e s.prt.entries = .stored table replaced overlap evicted →
      ∃ t, Runs (.eventNotice h core) s t
        ∧ Answered s t h 0x20 (if coreClamped core then 1 else 0) (coreClamped core)
            ([openingByte [replaced, evicted.isSome]] ++ num16 overlap ++ key32 (evicted.map Entry.key)
              ++ num32 e.duration ++ num16 table.length)
        ∧ t.prt.entries = table ∧ e ∈ t.prt.entries
        ∧ (∀ f ∈ s.prt.entries, f.service ≠ e.service → evicted ≠ some f → f ∈ t.prt.entries)
        ∧ t.prt.ingest = s.prt.ingest ∧ t.prt.stager = s.prt.stager
        ∧ SlotsTouched s t (fun x => match x.item with
            | .live service => service = e.service || evicted.any fun f => service = f.service
            | _ => false)
        ∧ t.ct = s.ct ∧ t.wd = s.wd ∧ t.pss = s.pss ∧ t.vtu = s.vtu ∧ QuietAttention s t ∧ ClassesKept s t
        ∧ (s.Settled → t.sc = s.sc))
    ∧ (∀ held, insertEntry s.wallNow s.pinnedKeys e s.prt.entries = .stale held →
      Refused (.eventNotice h core) s h 0x20 .stale (num8 held.version ++ num16 s.prt.entries.length))
    ∧ (insertEntry s.wallNow s.pinnedKeys e s.prt.entries = .full →
      Refused (.eventNotice h core) s h 0x20 .tableFull
        (num16 s.prt.entries.length
          ++ num32 (((latestUnpinned s.pinnedKeys s.prt.entries).map Entry.start).getD 0))))
  ∧ (∀ (now : Option Nat) (pinned : List Key) (e : Entry) (t : List Entry), TableLawful t → e.Lawful →
    (∀ old ∈ t, old.key = e.key → ¬ Newer e.version old.version → insertEntry now pinned e t = .stale old)
    ∧ ((∀ old ∈ t, old.key = e.key → Newer e.version old.version) →
        (t.filter fun f => decide (e.Spares f)).length < 1024 →
        ∃ table, insertEntry now pinned e t = .stored table (t.any fun f => decide (f.key = e.key))
            (t.filter fun f => decide (e.GivesWay f)).length none
          ∧ (∀ f, f ∈ table ↔ f = e ∨ (f ∈ t ∧ e.Spares f))
          ∧ table.length = (t.filter fun f => decide (e.Spares f)).length + 1)
    ∧ ((t.filter fun f => decide (e.Spares f)).length = 1024 →
        (∀ x, GivenUp now pinned e t x → ∃ table, insertEntry now pinned e t = .stored table false 0 (some x)
          ∧ (∀ f, f ∈ table ↔ f = e ∨ (f ∈ t ∧ f ≠ x)) ∧ table.length = 1024)
        ∧ ((∀ x, ¬ GivenUp now pinned e t x) → insertEntry now pinned e t = .full)))

/-- EVENT_WITHDRAW removes the entry of its key, and SERVICE_EVENTS_CLEAR every entry of its service; other entries and
slots not LIVE on the service are kept; an absent key is NOT_FOUND (R67, R68, R71, R163). -/
def Obligations.WithdrawAndClear : Prop :=
  ∀ (s : State) (h : Header) (service event : BitVec 16),
    (∀ e, Ready s h .guide 4 → entryOfKey s.prt.entries ⟨service.toNat, event.toNat⟩ = some e →
      ∃ t, Runs (.eventWithdraw h service event) s t
        ∧ Answered s t h 0x21 0 false
            ([openingByte [s.pinnedKeys.contains ⟨service.toNat, event.toNat⟩]] ++ num32 e.start ++ num32 e.duration
              ++ num8 e.version ++ num16 t.prt.entries.length)
        ∧ (∀ f, f ∈ t.prt.entries ↔ f ∈ s.prt.entries ∧ f.key ≠ ⟨service.toNat, event.toNat⟩)
        ∧ t.prt.ingest = s.prt.ingest
        ∧ SlotsTouched s t (fun x => x.item = .live service.toNat)
        ∧ t.ct = s.ct ∧ t.wd = s.wd ∧ t.pss = s.pss ∧ t.vtu = s.vtu ∧ QuietAttention s t ∧ ClassesKept s t
        ∧ (s.Settled → t.sc = s.sc))
    ∧ (Ready s h .guide 4 → entryOfKey s.prt.entries ⟨service.toNat, event.toNat⟩ = none →
      Refused (.eventWithdraw h service event) s h 0x21 .notFound (num16 s.prt.entries.length))
    ∧ (Ready s h .guide 2 →
      ∃ t, Runs (.serviceEventsClear h service) s t
        ∧ Answered s t h 0x22 0 false
            (num16 (s.prt.entries.length - t.prt.entries.length) ++ num16 t.prt.entries.length)
        ∧ (∀ f, f ∈ t.prt.entries ↔ f ∈ s.prt.entries ∧ f.service ≠ service.toNat)
        ∧ t.prt.ingest = s.prt.ingest
        ∧ SlotsTouched s t (fun x => x.item = .live service.toNat)
        ∧ t.ct = s.ct ∧ t.wd = s.wd ∧ t.pss = s.pss ∧ t.vtu = s.vtu ∧ QuietAttention s t ∧ ClassesKept s t
        ∧ (s.Settled → t.sc = s.sc))

/-- INGEST_BEGIN with good fields and none running starts a run at its address with every count 0 and a zero stager;
INGEST_ABORT ends a run with the INGEST_END reply on the initiating lane, INGEST raised, and its own reply with the same
three counts, which on the initiating lane takes the number after INGEST_END's; the entries are kept by both (R49, R73, R74,
R79, R164). -/
def Obligations.IngestBeginAndAbort : Prop :=
  ∀ (s : State) (h : Header),
    (∀ (start : BitVec 32) (count : BitVec 16) (k : Fin 16) (w : Window), Ready s h .guide 6 →
      1 ≤ count.toNat → count.toNat ≤ 4096 → start.toNat % 32 = 0 → s.prt.ingest = none →
      s.wd.ingestIndex = some k → s.wd.ingestWindow = some w → w.base ≤ start.toNat → start.toNat ≤ w.limit →
      ∃ t, Runs (.ingestBegin h start count) s t
        ∧ Answered s t h 0x23 0 false (num8 k.val ++ num32 w.base ++ num32 w.limit)
        ∧ t.prt.ingest = some
            { lane := h.lane, tag := h.tag, ring := (s.lane h.lane).expected, remaining := count.toNat,
              next := start.toNat, taken := 0, stale := 0, refused := 0, adjusted := false }
        ∧ t.prt.stager = List.replicate 32 0 ∧ t.prt.entries = s.prt.entries
        ∧ t.ct = s.ct ∧ t.wd = s.wd ∧ t.pss = s.pss ∧ t.sdu = s.sdu ∧ t.vtu = s.vtu ∧ QuietAttention s t
        ∧ RaisedReply s t false ∧ ClassesKept s t ∧ (s.Settled → t.sc = s.sc))
    ∧ (∀ g, Ready s h .guide 0 → s.prt.ingest = some g →
      ∃ t, Runs (.ingestAbort h) s t ∧ t.prt.ingest = none ∧ t.prt.stager = List.replicate 32 0
        ∧ t.prt.entries = s.prt.entries
        ∧ (g.lane ≠ h.lane → (t.lane g.lane).replyNo = (s.lane g.lane).replyNo + 1
            ∧ (t.lane g.lane).expected = (s.lane g.lane).expected
            ∧ (t.lane g.lane).ring[nextIndex s g.lane] =
                { number := (s.lane g.lane).replyNo + 1, tag := g.tag, code := 0x2F, outcome := 3,
                  adjusted := g.adjusted, ringSlot := g.ring,
                  payload := fit 24 (num16 g.taken ++ num16 g.stale ++ num16 g.refused) }
            ∧ (t.lane h.lane).ring[nextIndex s h.lane] =
                replyEntry s h 0x24 0 false (num16 g.taken ++ num16 g.stale ++ num16 g.refused))
        ∧ (g.lane = h.lane → (t.lane h.lane).ring[nextIndex s h.lane] =
              { number := (s.lane h.lane).replyNo + 1, tag := g.tag, code := 0x2F, outcome := 3,
                adjusted := g.adjusted, ringSlot := g.ring,
                payload := fit 24 (num16 g.taken ++ num16 g.stale ++ num16 g.refused) }
            ∧ (t.lane h.lane).ring[ringIndex ((s.lane h.lane).replyNo + 2)] =
              { number := (s.lane h.lane).replyNo + 2, tag := h.tag, code := 0x24, outcome := 0, adjusted := false,
                ringSlot := (s.lane h.lane).expected,
                payload := fit 24 (num16 g.taken ++ num16 g.stale ++ num16 g.refused) })
        ∧ (t.lane h.lane).replyNo = (s.lane h.lane).replyNo + (if g.lane = h.lane then 2 else 1)
        ∧ (t.lane h.lane).expected = (s.lane h.lane).expected + 1
        ∧ t.au.status = s.au.status ||| Cause.ingest.bit ||| Cause.reply.bit
        ∧ QuietAttention s t ∧ ClassesKept s t
        ∧ t.ct = s.ct ∧ t.wd = s.wd ∧ t.pss = s.pss ∧ t.sdu = s.sdu ∧ t.vtu = s.vtu ∧ (s.Settled → t.sc = s.sc))
    ∧ (Ready s h .guide 0 → s.prt.ingest = none → Refused (.ingestAbort h) s h 0x24 .badState [])

/-! ### PRESENT and CLOCK -/

/-- SLOT_TUNE puts the item in the slot, clears the unlock, zeroes the frame count and re-evaluates: a LIVE item stands on
the event and boundary the table gives at the wall time, an unrated gap starts the hold, an item NONE is VACANT, any other
under profile 0 CLEAR and under a child profile decided by gates 3 to 6 and steps 7 to 10, with enforcement agreeing; bound
and pending profile, picture windows and the other slots are kept; DECISION is raised exactly on a change (R69, R70, R107,
R108, R110, R112, R113, R118, R123, R165). -/
def Obligations.SlotTuneReplaces : Prop :=
  ∀ (s : State) (h : Header) (slot kind : Byte) (item : Vector Byte 16) (i : Fin 4) (it : Item),
    Ready s h .present 18 → slotField slot = some i → itemField kind item = some it →
    ∃ t, Runs (.slotTune h slot kind item) s t ∧ Answered s t h 0x30 0 false (tunePayload t i)
      ∧ (t.slot i).item = it ∧ (t.slot i).unlock = none ∧ (t.slot i).frames = 0
      ∧ (t.slot i).bound = (s.slot i).bound ∧ (t.slot i).pending = (s.slot i).pending
      ∧ (t.slot i).picture = (s.slot i).picture
      ∧ ((t.slot i).enforcement = .hiding ↔ (t.slot i).decision.permits = false)
      ∧ (it = .nothing → (t.slot i).decision = .vacant)
      ∧ (it ≠ .nothing → (s.slot i).bound = 0 → (t.slot i).decision = .clear)
      ∧ (t.slot i).current = (position s it).1.map Entry.key ∧ (t.slot i).boundary = (position s it).2
      ∧ (t.slot i).hold = (if unratedGap s.pss.services it (position s it).1 then
          if s.sc.settings.hold = 0 then .spent else .running s.sc.settings.hold else .none)
      ∧ (it ≠ .nothing → ∀ c, (s.slot i).bound = childNumber c → DecidedByRules s c (t.slot i) (position s it).1)
      ∧ OtherSlotsKept s t i ∧ RaisedReply s t (decide ((t.slot i).decision ≠ (s.slot i).decision))
      ∧ TrafficKept s t ∧ QuietAttention s t ∧ ClassesKept s t ∧ t.pss = s.pss ∧ t.vtu = s.vtu
      ∧ (s.Settled → t.sc = s.sc)

/-- SLOT_BIND with its PIN requirement met: not compared where no PIN is installed or the profile is not more permissive,
compared otherwise, the failure count then 0. With picture windows the profile waits with countdown 2 and the slot is judged
as before; without them it is bound at once and the unlock cleared (R46, R48, R98, R124, R125, R127, R166, R201; in the
payload, "waived" is clear while no PIN is installed, log 17; the items with two values share the opening byte, log 13, the
third bit set for a bind applied at once, log 32). That a success at failure count 0 marks no record dirty, so that the store
controller is kept, is the model's choice, log 18. -/
def Obligations.SlotBindPends : Prop :=
  ∀ (s : State) (h : Header) (slot profile : Byte) (i : Fin 4) (p : Fin 8),
    Ready s h .present 2 → slotField slot = some i → validProfileField s profile = some p →
    (notMorePermissive s p (s.slot i).bound = true ∨ PinPasses s h) →
    ∃ t, Runs (.slotBind h slot profile) s t
      ∧ Answered s t h 0x31 0 false
          ([openingByte [s.pinRequired && notMorePermissive s p (s.slot i).bound,
              s.pinRequired && !notMorePermissive s p (s.slot i).bound, !(s.slot i).picture]]
            ++ num8 (if (s.slot i).picture then 2 else 0) ++ num8 (t.slot i).bound.val ++ (t.slot i).verdictBytes)
      ∧ (t.slot i).item = (s.slot i).item ∧ (t.slot i).picture = (s.slot i).picture
      ∧ (t.slot i).frames = (s.slot i).frames
      ∧ ((s.slot i).picture = true → (t.slot i).pending = some { profile := p, countdown := 2 }
          ∧ (t.slot i).bound = (s.slot i).bound ∧ (t.slot i).unlock = (s.slot i).unlock
          ∧ (t.slot i).decision = (s.slot i).decision ∧ (t.slot i).enforcement = (s.slot i).enforcement)
      ∧ ((s.slot i).picture = false → (t.slot i).pending = none ∧ (t.slot i).bound = p ∧ (t.slot i).unlock = none
          ∧ ((t.slot i).enforcement = .hiding ↔ (t.slot i).decision.permits = false))
      ∧ OtherSlotsKept s t i ∧ RaisedReply s t (decide ((t.slot i).decision ≠ (s.slot i).decision))
      ∧ TrafficKept s t ∧ QuietAttention s t ∧ ClassesKept s t ∧ t.vtu = s.vtu
      ∧ (s.pinRequired = false ∨ notMorePermissive s p (s.slot i).bound = true →
          t.pss = s.pss ∧ (s.Settled → t.sc = s.sc))
      ∧ (s.pinRequired = true → notMorePermissive s p (s.slot i).bound = false →
          t.pss = { s.pss with failures := 0 } ∧ SettingsKept s t
          ∧ (s.pss.failures ≠ 0 → WrittenSoon t .pin) ∧ (s.pss.failures = 0 → s.Settled → t.sc = s.sc))

/-- SLOT_UNLOCK on a slot PENDING or BLOCKED by RATING, CONTENT, SERVICE or UNRATED, its PIN requirement met: an unlock for
the current item key with the expiry R119 gives; where the re-evaluation finds the key unchanged and the expiry ahead, the
unlock stands and the decision is none of those. With no PIN installed, a slot decided otherwise is refused BAD_STATE.
SLOT_RELOCK clears the unlock (R109, R119, R120, R122, R167). -/
def Obligations.UnlockAndRelock : Prop :=
  ∀ (s : State) (h : Header) (slot : Byte) (i : Fin 4), slotField slot = some i →
    (∀ key, Ready s h .present 1 → PinPasses s h → itemKey (s.slot i).item (s.slot i).current = some key →
      (s.slot i).decision.unlockable = true →
      ∃ t, Runs (.slotUnlock h slot) s t
        ∧ ((t.slot i).current = (s.slot i).current → (unlockExpiry s (s.slot i)).passed s = false →
            (t.slot i).unlock = some { key := key, expiry := unlockExpiry s (s.slot i) }
            ∧ (t.slot i).decision.unlockable = false)
        ∧ SlotBasisKept s t i ∧ OtherSlotsKept s t i ∧ PinKept s t
        ∧ (t.lane h.lane).replyNo = (s.lane h.lane).replyNo + 1
        ∧ (t.lane h.lane).ring[nextIndex s h.lane] = replyEntry s h 0x32 0 false
            ([openingByte [(unlockExpiry s (s.slot i)).isUptime], key.code]
              ++ expiry32 (some (unlockExpiry s (s.slot i)))
              ++ [(t.slot i).decision.code, (t.slot i).enforcement.code])
        ∧ RaisedReply s t (decide ((t.slot i).decision ≠ (s.slot i).decision))
        ∧ TrafficKept s t ∧ QuietAttention s t ∧ ClassesKept s t ∧ t.vtu = s.vtu)
    ∧ (Ready s h .present 1 → s.pss.pin = .unset → (s.slot i).decision.unlockable = false →
      Refused (.slotUnlock h slot) s h 0x32 .badState [(s.slot i).decision.code, (s.slot i).decision.reasonCode])
    ∧ (Ready s h .present 1 →
      ∃ t, Runs (.slotRelock h slot) s t
        ∧ Answered s t h 0x33 0 false ([openingByte [(s.slot i).unlock.isSome]] ++ (t.slot i).verdictBytes)
        ∧ (t.slot i).unlock = none ∧ (t.slot i).decision ≠ .unlocked ∧ SlotBasisKept s t i ∧ OtherSlotsKept s t i
        ∧ RaisedReply s t (decide ((t.slot i).decision ≠ (s.slot i).decision))
        ∧ TrafficKept s t ∧ QuietAttention s t ∧ ClassesKept s t ∧ t.pss = s.pss ∧ t.vtu = s.vtu
        ∧ (s.Settled → t.sc = s.sc))

/-- CLOCK_SET with good fields: the clock is SET to the wall seconds from the present uptime, the zone offset is stored and
the settings record written soon; an extension's end in uptime becomes a wall time, and one that ended by then ends; the
rollover check is made at the new time: a later day than the stored one rolls every valid profile over, a day and week
still unknown are taken as computed, and a record that neither alters gains no mark (log 19); every curfew state of a valid
profile is that of the new time; every LIVE slot has its current event at the new time (R117, R129, R131, R146 to R150, R152,
R168, R184, R192). The reply's count of profiles whose state differs takes a converted extension end as a difference, the model's
reading (log 21), and its item with two values stands in the opening byte (log 13). -/
def Obligations.ClockSetSets : Prop :=
  ∀ (s : State) (h : Header) (wall : BitVec 32) (zone : BitVec 16), Ready s h .clock 6 → wall ≠ 0xFFFFFFFF →
    -720 ≤ zone.toInt → zone.toInt ≤ 840 →
    ∃ t, Runs (.clockSet h wall zone) s t
      ∧ Answered s t h 0x40 0 false (clockPayload wall.toNat zone.toInt s)
      ∧ t.vtu.clock = some { wall := wall.toNat, since := s.vtu.uptime } ∧ t.vtu.uptime = s.vtu.uptime
      ∧ t.wallNow = some wall.toNat ∧ t.sc.settings = { s.sc.settings with zone := zone.toInt }
      ∧ WrittenSoon t .settings
      ∧ (∀ c, (s.child c).valid = true →
          t.curfewActive c = curfewCovers (s.child c).curfews (localSeconds wall.toNat zone.toInt))
      ∧ (∀ c x, (t.usage c).ext = some x → ∃ e, x.expiry = .wall e ∧ wall.toNat < e)
      ∧ Checked s (localSeconds wall.toNat zone.toInt) t.vtu.acct
      ∧ (∀ a, s.vtu.acct = some a → a.day < dayAt s (localSeconds wall.toNat zone.toInt) → ∀ c,
          WrittenSoon t (.usage c) ∧ ((s.child c).valid = true →
            RolledOver s c a (localSeconds wall.toNat zone.toInt) (t.usage c)))
      ∧ (∀ c, (s.child c).valid = false ∨ ¬ RollsOver s (localSeconds wall.toNat zone.toInt) →
          t.usage c = { s.usage c with ext := (t.usage c).ext } ∧ ((s.usage c).ext = none → (t.usage c).ext = none)
          ∧ ∀ x e, (s.usage c).ext = some x →
              x.expiry = .wall e ∨ (∃ u, x.expiry = .uptime u ∧ e = wall.toNat + (u - s.vtu.uptime)) →
              (t.usage c).ext = if e ≤ wall.toNat then none else some { key := x.key, expiry := .wall e })
      ∧ (¬ RollsOver s (localSeconds wall.toNat zone.toInt) → ∀ c, t.usage c = s.usage c → Unmarked s t c)
      ∧ (∀ i service, (s.slot i).item = .live service →
          (t.slot i).current = (currentEvent s.prt.entries service wall.toNat).map Entry.key)
      ∧ (∀ i, SlotBasisKept s t i)
      ∧ TrafficKept s t ∧ QuietAttention s t ∧ ClassesKept s t ∧ t.pss = s.pss

/-! ### ADMIN -/

/-- PROFILE_WRITE: a valid profile takes the settings and keeps its state, its curfew list and, lowered to the new cap, its
carry, and is restored where it has time left; an INVALID one becomes valid, ACTIVE, with an empty curfew list and the zero
usage record. The profile's record is written soon; other profiles and usage records are kept. The reply says what was
created, lowered and restored, with the carry and the remaining minutes, ADJUSTED where a warn threshold of 0 was clamped
(R84 to R87, R102, R144, R171; payload reading: log 13). -/
def Obligations.ProfileWriteStores : Prop :=
  ∀ (s : State) (h : Header) (profile : Byte) (fields : ProfileFields) (c : Fin 7) (p : Profile),
    Ready s h .admin 21 → PinPasses s h → profileField profile = some (childNumber c) →
    writtenProfile (s.child c) fields = some p →
    ∃ t, Runs (.profileWrite h profile fields) s t
      ∧ ((s.child c).valid = true → t.child c = p
          ∧ (t.usage c).carry = min (s.usage c).carry (p.carryCap * 60)
          ∧ (t.usage c).today = (s.usage c).today ∧ (t.usage c).week = (s.usage c).week
          ∧ (t.usage c).extUsed = (s.usage c).extUsed
          ∧ (aboveZero (t.remainingChild c) = true → (t.usage c).exhausted = false ∧ (t.usage c).ext = none
              ∧ (t.usage c).warned = ((s.usage c).warned && !aboveBound (t.remainingChild c) (p.warn * 60)))
          ∧ (aboveZero (t.remainingChild c) = false → (t.usage c).exhausted = (s.usage c).exhausted
              ∧ (t.usage c).ext = (s.usage c).ext ∧ (t.usage c).warned = (s.usage c).warned))
      ∧ ((s.child c).valid = false → t.child c = { p with suspended := false, curfews := [] }
          ∧ t.usage c = .zero ∧ t.curfewActive c = false)
      ∧ (t.child c).valid = true ∧ 1 ≤ (t.child c).warn
      ∧ WrittenSoon t (.profile c) ∧ PinKept s t ∧ OtherChildrenKept s t c ∧ OtherUsageKept s t c
      ∧ SlotsTouched s t (fun x => x.bound = childNumber c)
      ∧ Answered s t h 0x60 (if fields.warn = 0 then 1 else 0) (decide (fields.warn = 0))
          ([openingByte [!(s.child c).valid, (t.child c).suspended,
              (s.child c).valid && decide (p.carryCap * 60 < (s.usage c).carry),
              (s.child c).valid && aboveZero (t.remainingChild c)]]
            ++ num16 (t.usage c).carry ++ minutes16 (t.remainingChild c))
      ∧ TrafficKept s t ∧ QuietAttention s t ∧ ClassesKept s t ∧ SettingsKept s t
      ∧ t.pss.services = s.pss.services

/-- PROFILE_CURFEW, PROFILE_SUSPEND and PROFILE_RESUME of a valid child profile: the curfew list with its curfew state, or
the state, is replaced; slots presenting an item and bound to a suspended profile are BLOCKED SUSPENDED; usage and the other
profiles are kept. The reply gives the curfew after and the number of windows, or the state before and after and the number
of slots bound (R85, R87, R102, R107, R147, R172, R173; payload reading: log 13). -/
def Obligations.ProfileStateCommands : Prop :=
  ∀ (s : State) (h : Header) (profile : Byte) (c : Fin 7), PinPasses s h → validChildField s profile = some c →
    (∀ (count : Byte) (windows : Vector CurfewField 4) (cs : List Curfew), Ready s h .admin 22 → count.toNat ≤ 4 →
      curfewList count.toNat windows = some cs →
      ∃ t, Runs (.profileCurfew h profile count windows) s t ∧ t.child c = { s.child c with curfews := cs }
        ∧ t.curfewActive c = (match s.localNow with
            | none => false
            | some l => curfewCovers cs l)
        ∧ WrittenSoon t (.profile c) ∧ PinKept s t ∧ OtherChildrenKept s t c ∧ t.vtu.usage = s.vtu.usage
        ∧ SlotsTouched s t (fun x => x.bound = childNumber c)
        ∧ Answered s t h 0x61 0 false ([openingByte [t.curfewActive c]] ++ num8 cs.length)
        ∧ TrafficKept s t ∧ QuietAttention s t ∧ ClassesKept s t ∧ SettingsKept s t
        ∧ t.pss.services = s.pss.services)
    ∧ (Ready s h .admin 1 →
      ∃ t, Runs (.profileSuspend h profile) s t ∧ t.child c = { s.child c with suspended := true }
        ∧ (∀ i, (s.slot i).bound = childNumber c → (s.slot i).item ≠ .nothing →
            (t.slot i).decision = .blocked .suspended ∧ (t.slot i).enforcement = .hiding)
        ∧ WrittenSoon t (.profile c) ∧ PinKept s t ∧ OtherChildrenKept s t c ∧ t.vtu = s.vtu
        ∧ SlotsTouched s t (fun x => x.bound = childNumber c)
        ∧ Answered s t h 0x62 0 false ([openingByte [(s.child c).suspended, true]]
            ++ num8 (slotList.filter fun i => (s.slot i).bound = childNumber c).length)
        ∧ TrafficKept s t ∧ QuietAttention s t ∧ ClassesKept s t ∧ SettingsKept s t
        ∧ t.pss.services = s.pss.services)
    ∧ (Ready s h .admin 1 →
      ∃ t, Runs (.profileResume h profile) s t ∧ t.child c = { s.child c with suspended := false }
        ∧ (∀ i, (s.slot i).bound = childNumber c → (t.slot i).decision ≠ .blocked .suspended)
        ∧ WrittenSoon t (.profile c) ∧ PinKept s t ∧ OtherChildrenKept s t c ∧ t.vtu = s.vtu
        ∧ SlotsTouched s t (fun x => x.bound = childNumber c)
        ∧ Answered s t h 0x63 0 false ([openingByte [(s.child c).suspended, false]]
            ++ num8 (slotList.filter fun i => (s.slot i).bound = childNumber c).length)
        ∧ TrafficKept s t ∧ QuietAttention s t ∧ ClassesKept s t ∧ SettingsKept s t
        ∧ t.pss.services = s.pss.services)

/-- PROFILE_REMOVE of a valid child profile no slot is bound to, waits for or has as its default: INVALID, the zero usage
record, no curfew, in no service set; slots and other profiles are kept, and the reply counts the service entries whose sets
lost it. With no PIN installed, one a slot is bound to is
refused IN_USE, naming the first slot that uses it, with nothing changed; the code byte of the use is a free value (R101,
R174; log 16). -/
def Obligations.ProfileRemoveForgets : Prop :=
  ∀ (s : State) (h : Header) (profile : Byte) (c : Fin 7), Ready s h .admin 1 → validChildField s profile = some c →
    (PinPasses s h →
      (∀ i, (s.slot i).bound ≠ childNumber c ∧ (∀ q ∈ (s.slot i).pending, q.profile ≠ childNumber c)
        ∧ s.sc.settings.defaults[i] ≠ childNumber c) →
      ∃ t, Runs (.profileRemove h profile) s t ∧ t.child c = .invalid ∧ t.usage c = .zero ∧ t.curfewActive c = false
        ∧ (∀ e ∈ t.pss.services, inSet e.allow (childNumber c).val = false ∧ inSet e.block (childNumber c).val = false)
        ∧ t.pss.services.map ServiceEntry.service = s.pss.services.map ServiceEntry.service
        ∧ WrittenSoon t (.profile c) ∧ WrittenSoon t (.usage c)
        ∧ PinKept s t ∧ OtherChildrenKept s t c ∧ OtherUsageKept s t c ∧ t.sdu = s.sdu
        ∧ Answered s t h 0x64 0 false (num16 (s.pss.services.filter fun e =>
            inSet e.allow (childNumber c).val || inSet e.block (childNumber c).val).length)
        ∧ TrafficKept s t ∧ QuietAttention s t ∧ ClassesKept s t ∧ SettingsKept s t)
    ∧ (s.pss.pin = .unset → ∀ i, (s.slot i).bound = childNumber c →
      (∀ j : Fin 4, j.val < i.val → useBySlot s (childNumber c) j = none) →
      Refused (.profileRemove h profile) s h 0x64 .inUse (num8 i.val ++ [Config.inUseCode .bound]))

/-- SERVICE_WRITE leaves its entry in the table, in a lawful one as the only entry of its service and at its place in the
order, and SERVICE_REMOVE no entry of its service; other entries are kept; the reply says whether the entry is new and how
many the table holds; with no PIN installed, a new entry into a table of 256 is refused TABLE_FULL and the removal of an
absent one NOT_FOUND (R92, R94, R95, R102, R175). -/
def Obligations.ServiceTableCommands : Prop :=
  ∀ (s : State) (h : Header) (service : BitVec 16),
    (∀ rating0 rating1 category allow block e, Ready s h .admin 7 → PinPasses s h →
      serviceFields service rating0 rating1 category allow block = some e →
      ((serviceEntry s.pss.services service.toNat).isSome = true ∨ s.pss.services.length < 256) →
      ∃ t, Runs (.serviceWrite h service rating0 rating1 category allow block) s t ∧ e ∈ t.pss.services
        ∧ (∀ f ∈ s.pss.services, f.service ≠ service.toNat → f ∈ t.pss.services)
        ∧ (∀ f ∈ t.pss.services, f = e ∨ f ∈ s.pss.services)
        ∧ (ServicesLawful s.pss.services → ServicesLawful t.pss.services
            ∧ ∀ f, f ∈ t.pss.services ↔ f = e ∨ (f ∈ s.pss.services ∧ f.service ≠ service.toNat))
        ∧ (t.lane h.lane).ring[nextIndex s h.lane] = replyEntry s h 0x65 0 false
            ([openingByte [(serviceEntry s.pss.services service.toNat).isNone]] ++ num16 t.pss.services.length)
        ∧ WrittenSoon t .services ∧ PinKept s t ∧ t.pss.profiles = s.pss.profiles ∧ t.vtu = s.vtu
        ∧ SlotsTouched s t (fun x => x.item.service = some service.toNat)
        ∧ (t.lane h.lane).replyNo = (s.lane h.lane).replyNo + 1
        ∧ TrafficKept s t ∧ QuietAttention s t ∧ ClassesKept s t ∧ SettingsKept s t)
    ∧ (∀ e, Ready s h .admin 2 → PinPasses s h → serviceEntry s.pss.services service.toNat = some e →
      ∃ t, Runs (.serviceRemove h service) s t
        ∧ t.pss.services = s.pss.services.filter (fun f => f.service ≠ service.toNat)
        ∧ (t.lane h.lane).ring[nextIndex s h.lane] = replyEntry s h 0x66 0 false (num16 t.pss.services.length)
        ∧ WrittenSoon t .services ∧ PinKept s t ∧ t.pss.profiles = s.pss.profiles ∧ t.vtu = s.vtu
        ∧ SlotsTouched s t (fun x => x.item.service = some service.toNat)
        ∧ (t.lane h.lane).replyNo = (s.lane h.lane).replyNo + 1
        ∧ TrafficKept s t ∧ QuietAttention s t ∧ ClassesKept s t ∧ SettingsKept s t)
    ∧ (Ready s h .admin 2 → s.pss.pin = .unset → serviceEntry s.pss.services service.toNat = none →
      Refused (.serviceRemove h service) s h 0x66 .notFound [])
    ∧ (∀ rating0 rating1 category allow block e, Ready s h .admin 7 → s.pss.pin = .unset →
      serviceFields service rating0 rating1 category allow block = some e →
      serviceEntry s.pss.services service.toNat = none → 256 ≤ s.pss.services.length →
      Refused (.serviceWrite h service rating0 rating1 category allow block) s h 0x65 .tableFull
        (num16 s.pss.services.length))

/-- ALLOWANCE_GRANT adds its minutes, clamped to 240, to bonus and week bonus, clamped in turn; USAGE_RESET zeroes today
and the accumulator, and the week's figures where asked; either restores a profile that then has time: exhausted cleared
and the extension ended, and warned today cleared above the threshold. The reply gives the record and the remaining minutes
after, whether the profile is still exhausted and whether the restoration steps were carried out, ADJUSTED where the grant
clamped (R132, R144, R176, R185; payload reading: log 13). -/
def Obligations.GrantAndReset : Prop :=
  ∀ (s : State) (h : Header) (profile : Byte) (c : Fin 7), Ready s h .admin 2 → PinPasses s h →
    validChildField s profile = some c →
    (∀ minutes : Byte, minutes ≠ 0 →
      ∃ t, Runs (.allowanceGrant h profile minutes) s t
        ∧ (t.usage c).bonus = min 43200 ((s.usage c).bonus + min 240 minutes.toNat * 60)
        ∧ (t.usage c).weekBonus = min 302400 ((s.usage c).weekBonus + min 240 minutes.toNat * 60)
        ∧ (t.usage c).today = (s.usage c).today ∧ (t.usage c).week = (s.usage c).week
        ∧ (t.usage c).carry = (s.usage c).carry ∧ (t.usage c).extUsed = (s.usage c).extUsed
        ∧ (aboveZero (t.remainingChild c) = true → (t.usage c).exhausted = false ∧ (t.usage c).ext = none
            ∧ (t.usage c).warned = ((s.usage c).warned
                && !aboveBound (t.remainingChild c) ((s.child c).warn * 60)))
        ∧ (aboveZero (t.remainingChild c) = false → (t.usage c).exhausted = (s.usage c).exhausted
            ∧ (t.usage c).ext = (s.usage c).ext ∧ (t.usage c).warned = (s.usage c).warned)
        ∧ WrittenSoon t (.usage c) ∧ PinKept s t ∧ OtherUsageKept s t c ∧ t.pss.profiles = s.pss.profiles
        ∧ t.pss.services = s.pss.services ∧ SlotsTouched s t (fun x => x.bound = childNumber c)
        ∧ (∀ clamps, clamps = decide (240 < minutes.toNat ∨ 43200 < (s.usage c).bonus + min 240 minutes.toNat * 60
              ∨ 302400 < (s.usage c).weekBonus + min 240 minutes.toNat * 60) →
          Answered s t h 0x67 (if clamps then 1 else 0) clamps
            ([openingByte [(t.usage c).exhausted, aboveZero (t.remainingChild c)]] ++ num16 (t.usage c).bonus
              ++ num32 (t.usage c).weekBonus ++ num32 (t.usage c).today ++ num32 (t.usage c).week
              ++ minutes16 (t.remainingChild c)))
        ∧ TrafficKept s t ∧ QuietAttention s t ∧ ClassesKept s t ∧ SettingsKept s t)
    ∧ (∀ (week : Byte) (w : Bool), flagField week = some w →
      ∃ t, Runs (.usageReset h profile week) s t
        ∧ (t.usage c).today = 0 ∧ (t.usage c).acc = 0
        ∧ (t.usage c).week = (if w then 0 else (s.usage c).week)
        ∧ (t.usage c).weekBonus = (if w then 0 else (s.usage c).weekBonus)
        ∧ (t.usage c).bonus = (s.usage c).bonus ∧ (t.usage c).carry = (s.usage c).carry
        ∧ (t.usage c).extUsed = (s.usage c).extUsed
        ∧ (aboveZero (t.remainingChild c) = true → (t.usage c).exhausted = false ∧ (t.usage c).ext = none
            ∧ (t.usage c).warned = ((s.usage c).warned
                && !aboveBound (t.remainingChild c) ((s.child c).warn * 60)))
        ∧ (aboveZero (t.remainingChild c) = false → (t.usage c).exhausted = (s.usage c).exhausted
            ∧ (t.usage c).ext = (s.usage c).ext ∧ (t.usage c).warned = (s.usage c).warned)
        ∧ WrittenSoon t (.usage c) ∧ PinKept s t ∧ OtherUsageKept s t c ∧ t.pss.profiles = s.pss.profiles
        ∧ t.pss.services = s.pss.services ∧ SlotsTouched s t (fun x => x.bound = childNumber c)
        ∧ Answered s t h 0x68 0 false
            ([openingByte [(t.usage c).exhausted, aboveZero (t.remainingChild c)]] ++ num16 (t.usage c).bonus
              ++ num32 (t.usage c).weekBonus ++ num32 (t.usage c).today ++ num32 (t.usage c).week
              ++ minutes16 (t.remainingChild c))
        ∧ TrafficKept s t ∧ QuietAttention s t ∧ ClassesKept s t ∧ SettingsKept s t)

/-- PIN_SET with no digits leaves UNSET, with 4 to 8 SET with them, the failure count 0; LANE_PERMIT replaces the class set
of its lane alone; SETTINGS_WRITE replaces the settings, the hold time clamped to 30 and the zone offset kept; each leaves
its record written soon and every other block as it was (R45, R96, R98, R102, R177, R178, R179, R184; PIN_SET's reply holds
the PIN state as its code byte, log 39). -/
def Obligations.PinLaneSettings : Prop :=
  ∀ (s : State) (h : Header), PinPasses s h →
    (∀ newPin ds, Ready s h .admin 8 → newPinDigits newPin = some ds →
      ∃ t, Runs (.pinSet h newPin) s t
        ∧ Answered s t h 0x69 0 false ([if ds = [] then 0 else 1] ++ num8 ds.length)
        ∧ t.pss = { s.pss with pin := if ds = [] then .unset else .set ds, failures := 0 }
        ∧ (ds = [] ∨ (4 ≤ ds.length ∧ ds.length ≤ 8)) ∧ WrittenSoon t .pin
        ∧ TrafficKept s t ∧ QuietAttention s t ∧ RaisedReply s t false ∧ ClassesKept s t ∧ SettingsKept s t
        ∧ t.sdu = s.sdu ∧ t.vtu = s.vtu)
    ∧ (∀ lane classes n set, Ready s h .admin 2 → permitLane lane = some n → classSetField classes = some set →
      ∃ t, Runs (.lanePermit h lane classes) s t ∧ (t.lane n).classes = set ∧ n ≠ 0
        ∧ (∀ m, m ≠ n → (t.lane m).classes = (s.lane m).classes)
        ∧ (∀ m, m ≠ n → m ≠ h.lane → t.lane m = s.lane m)
        ∧ (t.lane h.lane).replyNo = (s.lane h.lane).replyNo + 1
        ∧ (t.lane h.lane).ring[nextIndex s h.lane] = replyEntry s h 0x6A 0 false
            (num8 n.val ++ [(s.lane n).classes.zeroExtend 8, set.zeroExtend 8])
        ∧ WrittenSoon t .lane ∧ PinKept s t
        ∧ t.pss.profiles = s.pss.profiles ∧ t.pss.services = s.pss.services
        ∧ TrafficKept s t ∧ QuietAttention s t ∧ RaisedReply s t false ∧ SettingsKept s t
        ∧ t.sdu = s.sdu ∧ t.vtu = s.vtu)
    ∧ (∀ hold rollover weekend weekStart defaults u, Ready s h .admin 8 →
      settingsFields s hold rollover weekend weekStart defaults = .ok u →
      ∃ t, Runs (.settingsWrite h hold rollover weekend weekStart defaults) s t
        ∧ Answered s t h 0x6B (if 30 < hold.toNat then 1 else 0) (decide (30 < hold.toNat)) u.bytes
        ∧ t.sc.settings = u ∧ u.hold = min 30 hold.toNat ∧ u.zone = s.sc.settings.zone
        ∧ u.rollover = rollover.toNat ∧ u.rollover ≤ 23 ∧ u.weekStart = weekStart.toNat ∧ u.weekStart ≤ 6
        ∧ WrittenSoon t .settings ∧ PinKept s t ∧ t.sc.faultSeen = s.sc.faultSeen
        ∧ t.pss.profiles = s.pss.profiles ∧ t.pss.services = s.pss.services
        ∧ TrafficKept s t ∧ QuietAttention s t ∧ RaisedReply s t false ∧ ClassesKept s t
        ∧ t.sdu = s.sdu ∧ t.vtu = s.vtu)

/-! ### PLATFORM -/

/-- WINDOW_DEFINE with nothing against it writes its entry and WINDOW_REMOVE clears its entry, every other entry, the lock
and the tile kept, and only slots whose PICTURE count crosses zero touched; WINDOW_LOCK sets the lock; FILL_TILE_WRITE
replaces one half (R25, R27, R28, R38, R106, R180 to R182; in the payloads the counts an INGEST entry has none of keep their
places, log 14, and the half stays a byte, log 13). -/
def Obligations.WindowCommands : Prop :=
  ∀ (s : State) (h : Header),
    (∀ index kind base limit slot guard k w, Ready s h .platform 12 → definableIndex index = some k →
      windowFields kind base limit slot guard = .ok w → s.wd.locked = false → s.prt.ingest = none →
      (∀ j : Fin 16, j ≠ k → ∀ v ∈ s.wd.windows[j], v.intersects w = false) →
      (w.kind = .ingest → ∀ j : Fin 16, j ≠ k → ∀ v ∈ s.wd.windows[j], v.kind ≠ .ingest) →
      (w.kind = .picture → (s.wd.setWindow k none).countOf .picture w.slot < 4) →
      (w.kind = .audio → (s.wd.setWindow k none).countOf .audio w.slot < 2) →
      ∃ t, Runs (.windowDefine h index kind base limit slot guard) s t
        ∧ t.wd = { s.wd with windows := putAt s.wd.windows k (some w) }
        ∧ (t.lane h.lane).ring[nextIndex s h.lane] = replyEntry s h 0x70 0 false (definePayload s.wd t.wd k w)
        ∧ (∀ i, ((s.wd.countOf .picture i = 0 ↔ t.wd.countOf .picture i = 0) → t.slot i = s.slot i)
            ∧ (¬ (s.wd.countOf .picture i = 0 ↔ t.wd.countOf .picture i = 0) →
                (t.slot i).picture = decide (t.wd.countOf .picture i ≠ 0)))
        ∧ t.ct = s.ct ∧ t.prt = s.prt ∧ t.pss = s.pss ∧ t.vtu = s.vtu ∧ QuietAttention s t ∧ ClassesKept s t
        ∧ (s.Settled → t.sc = s.sc))
    ∧ (∀ index k w, Ready s h .platform 1 → definableIndex index = some k → s.wd.locked = false →
      s.prt.ingest = none → s.wd.windows[k] = some w →
      ∃ t, Runs (.windowRemove h index) s t ∧ t.wd = { s.wd with windows := putAt s.wd.windows k none }
        ∧ (t.lane h.lane).ring[nextIndex s h.lane] = replyEntry s h 0x71 0 false
            ([w.kind.code] ++ num32 w.base ++ num32 w.limit ++ num8 (if w.kind.hasSlot then w.slot.val else 0))
        ∧ (∀ i, ((s.wd.countOf .picture i = 0 ↔ t.wd.countOf .picture i = 0) → t.slot i = s.slot i)
            ∧ (¬ (s.wd.countOf .picture i = 0 ↔ t.wd.countOf .picture i = 0) →
                (t.slot i).picture = decide (t.wd.countOf .picture i ≠ 0)))
        ∧ t.ct = s.ct ∧ t.prt = s.prt ∧ t.pss = s.pss ∧ t.vtu = s.vtu ∧ QuietAttention s t ∧ ClassesKept s t
        ∧ (s.Settled → t.sc = s.sc))
    ∧ (Ready s h .platform 0 →
      ∃ t, Runs (.windowLock h) s t
        ∧ Answered s t h 0x72 0 false ([openingByte [s.wd.locked]] ++ num8 s.wd.valid.length)
        ∧ t.wd = { s.wd with locked := true } ∧ t.ct = s.ct ∧ t.prt = s.prt ∧ t.pss = s.pss ∧ t.sdu = s.sdu
        ∧ t.vtu = s.vtu ∧ QuietAttention s t ∧ RaisedReply s t false ∧ ClassesKept s t ∧ (s.Settled → t.sc = s.sc))
    ∧ (∀ (half : Byte) (bytes : Vector Byte 32) (k : Fin 2), Ready s h .platform 33 → half.toNat = k.val →
      s.wd.locked = false →
      ∃ t, Runs (.fillTileWrite h half bytes) s t ∧ Answered s t h 0x73 0 false (num8 k.val)
        ∧ t.wd = { s.wd with tile := putAt s.wd.tile k bytes } ∧ t.ct = s.ct ∧ t.prt = s.prt ∧ t.pss = s.pss
        ∧ t.sdu = s.sdu ∧ t.vtu = s.vtu ∧ QuietAttention s t ∧ RaisedReply s t false ∧ ClassesKept s t
        ∧ (s.Settled → t.sc = s.sc))

/-! ### Time -/

/-- The accounting tick of a second already begun, the clock UNSET or SET to no later accounting day than a stored one:
each valid profile is charged its weight in eighths, warned and exhausted by the remaining time that leaves, and on
exhaustion granted an extension for the item under way that ends first within its limit; a day and week still unknown are
taken as computed where the clock is SET, with no rollover, and a record the tick does not alter gains no mark (log 19); at a
minute boundary every valid profile's curfew state is that of the local time; every frame count is zeroed; a slot whose
profile changed in none of these is otherwise kept, and one whose profile's time or curfew shut hides (R135 to R141, R143,
R146 to R148, R192; log 3). -/
def Obligations.TickCharges : Prop :=
  ∀ s : State, s.phase = .running → s.vtu.tickDue = true → (∀ l, s.localNow = some l → ¬ RollsOver s l) →
    ∃ t, Runs .accountingTick s t ∧ Ticked s t
      ∧ (s.localNow = none → t.vtu.acct = s.vtu.acct) ∧ (∀ l, s.localNow = some l → Checked s l t.vtu.acct)
      ∧ (∀ c, (s.child c).valid = true → Charged s t c (s.usage c))
      ∧ (∀ c, t.usage c = s.usage c → Unmarked s t c)

/-- The accounting tick that finds a later accounting day than the stored one, the clock SET: the stored day and week
follow; each valid profile's unused time is carried, within its cap and the old day's allowance where that is finite and
the new day the next; the day's figures and the extension, extension used, warned and exhausted flags are cleared, and the
week's figures where a week begins; the tick's charge, warning, exhaustion and grant then follow on the cleared record; every
usage record is written soon, and the slots of a profile that differs follow (R131, R135 to R141, R147 to R150; log 3). -/
def Obligations.DayRollsAtTick : Prop :=
  ∀ (s : State) (l : Nat) (a : Acct), s.phase = .running → s.vtu.tickDue = true → s.localNow = some l →
    s.vtu.acct = some a → a.day < dayAt s l →
    ∃ t, Runs .accountingTick s t ∧ Ticked s t ∧ Checked s l t.vtu.acct
      ∧ (∀ c, WrittenSoon t (.usage c))
      ∧ ∀ c, (s.child c).valid = true → ∃ u, RolledOver s c a l u ∧ Charged s t c u

/-- The accounting tick as the first event of a second: the uptime counter, and with it the wall time, rises by one; a
lockout falls by one to its last second, whose end is its expiry's, and one whose end had come is over; the tick is taken
(R99, R128, R129; logs 3 and 4). -/
def Obligations.SecondBegins : Prop :=
  ∀ s : State, s.phase = .running → s.vtu.tickDue = false →
    ∃ t, Runs .accountingTick s t ∧ t.vtu.uptime = s.vtu.uptime + 1 ∧ t.vtu.tickDue = false
      ∧ t.vtu.clock = s.vtu.clock
      ∧ (s.pss.lockoutDue = true → t.pss.lockout = none ∧ t.pss.lockoutDue = false)
      ∧ (∀ n, s.pss.lockoutDue = false → s.pss.lockout = some n → 1 < n →
          t.pss.lockout = some (n - 1) ∧ t.pss.lockoutDue = false)
      ∧ (s.pss.lockoutDue = false → s.pss.lockout = some 1 → t.pss.lockout = some 1 ∧ t.pss.lockoutDue = true)
      ∧ t.pss.failures = s.pss.failures ∧ t.pss.pin = s.pss.pin ∧ t.pss.profiles = s.pss.profiles
      ∧ t.pss.services = s.pss.services
      ∧ (∀ i, (t.slot i).frames = 0)
      ∧ TrafficKept s t ∧ t.lc = s.lc ∧ t.sc.settings = s.sc.settings ∧ t.phase = .running ∧ t.pending = s.pending

/-- The slot timers, each due: the boundary re-positions the item; the hold is over and the slot no longer PENDING; the
unlock is cleared, and where the event's own boundary has been reached the slot stays on that event until the boundary is
taken (log 30); the countdown falls by one, and at its end the pending profile is bound with the unlock cleared; the
remaining length becomes absent. The other slots and blocks are kept; each that is not due, in a second whose tick is still
to come, changes nothing (R104, R116, R118, R121, R126, R127; logs 3, 4 and 8). -/
def Obligations.SlotTimers : Prop :=
  ∀ (s : State) (i : Fin 4), s.phase = .running →
    (boundaryDue i s = true →
      ∃ t, Runs (.boundaryExpiry i) s t ∧ SlotBasisKept s t i ∧ OtherSlotsKept s t i ∧ RaisedAtMostDecision s t
        ∧ (∀ service w, (s.slot i).item = .live service → s.wallNow = some w →
            (t.slot i).current = (currentEvent s.prt.entries service w).map Entry.key
              ∧ (t.slot i).boundary = nextBoundary s.prt.entries service w)
        ∧ ((t.slot i).enforcement = .hiding ↔ (t.slot i).decision.permits = false)
        ∧ t = { s with sdu := t.sdu, au := t.au })
    ∧ ((s.slot i).holdDue = true →
      ∃ t, Runs (.holdExpiry i) s t ∧ SlotBasisKept s t i ∧ OtherSlotsKept s t i ∧ RaisedAtMostDecision s t
        ∧ ((t.slot i).hold = .spent ∨ (t.slot i).hold = .none) ∧ (t.slot i).decision ≠ .pending
        ∧ ((t.slot i).enforcement = .hiding ↔ (t.slot i).decision.permits = false)
        ∧ t = { s with sdu := t.sdu, au := t.au })
    ∧ (∀ u, (s.slot i).unlock = some u → u.expiry.passed s = true →
      ∃ t, Runs (.unlockExpiry i) s t ∧ SlotBasisKept s t i ∧ OtherSlotsKept s t i ∧ RaisedAtMostDecision s t
        ∧ (t.slot i).unlock = none ∧ (t.slot i).decision ≠ .unlocked
        ∧ (boundaryDue i s = true → ((s.slot i).current.bind (entryOfKey s.prt.entries)).isSome = true →
            (t.slot i).current = (s.slot i).current ∧ (t.slot i).boundary = (s.slot i).boundary
              ∧ boundaryDue i t = true)
        ∧ ((t.slot i).enforcement = .hiding ↔ (t.slot i).decision.permits = false)
        ∧ t = { s with sdu := t.sdu, au := t.au })
    ∧ (∀ q, (s.slot i).countdownDue = true → (s.slot i).pending = some q → 1 < q.countdown →
      ∃ t, Runs (.pendingCountdown i) s t ∧ t = s.setSlot i
        { s.slot i with pending := some { q with countdown := q.countdown - 1 }, countdownDue := false })
    ∧ (∀ q, (s.slot i).countdownDue = true → (s.slot i).pending = some q → q.countdown ≤ 1 →
      ∃ t, Runs (.pendingCountdown i) s t ∧ Runs (.countdownExpiry i) s t
        ∧ (t.slot i).bound = q.profile ∧ (t.slot i).pending = none ∧ (t.slot i).unlock = none
        ∧ (t.slot i).item = (s.slot i).item ∧ (t.slot i).frames = (s.slot i).frames
        ∧ ((t.slot i).enforcement = .hiding ↔ (t.slot i).decision.permits = false)
        ∧ OtherSlotsKept s t i ∧ RaisedAtMostDecision s t ∧ t = { s with sdu := t.sdu, au := t.au })
    ∧ (∀ r, (s.slot i).lengthDue = true → (s.slot i).item = .recording r →
      ∃ t, Runs (.recordingLengthExpiry i) s t ∧ t = s.setSlot i
        { s.slot i with item := .recording { r with remaining := none }, lengthDue := false })
    ∧ (s.vtu.tickDue = true →
      (boundaryDue i s = false → Runs (.boundaryExpiry i) s s)
        ∧ ((s.slot i).holdDue = false → Runs (.holdExpiry i) s s)
        ∧ ((∀ u, (s.slot i).unlock = some u → u.expiry.passed s = false) → Runs (.unlockExpiry i) s s)
        ∧ ((s.slot i).countdownDue = false → Runs (.pendingCountdown i) s s ∧ Runs (.countdownExpiry i) s s)
        ∧ ((s.slot i).lengthDue = false → Runs (.recordingLengthExpiry i) s s))

/-- The other timers, each due: the lockout ends with the failure count kept; the extension becomes NONE, and an exhausted
profile's slots that present an item then hide; a changed usage record of 60 seconds or more is written, at once where
nothing else is dirty; a second during start-up advances the uptime counter alone (R99, R115, R128, R142, R185, R186;
logs 3 and 4). That the write begins within the expiry itself is the model's choice, log 11. -/
def Obligations.OtherTimers : Prop :=
  (∀ s : State, s.phase = .running → s.pss.lockoutDue = true →
    ∃ t, Runs .lockoutExpiry s t ∧ t = { s with pss.lockout := none, pss.lockoutDue := false })
  ∧ (∀ (s : State) (c : Fin 7) (e : Extension), s.phase = .running → (s.usage c).ext = some e →
      e.expiry.passed s = true →
    ∃ t, Runs (.extensionExpiry c) s t ∧ t.usage c = { s.usage c with ext := none } ∧ OtherUsageKept s t c
      ∧ ((s.usage c).exhausted = true → ∀ i, (s.slot i).bound = childNumber c → (s.slot i).item ≠ .nothing →
          (t.slot i).enforcement = .hiding)
      ∧ SlotsTouched s t (fun x => x.bound = childNumber c) ∧ RaisedAtMostDecision s t ∧ QuietAttention s t
      ∧ TrafficKept s t ∧ t.lc = s.lc ∧ t.pss = s.pss ∧ t.sc.dirty = s.sc.dirty ∧ t.sc.writing = s.sc.writing
      ∧ t.sc.changed = putAt s.sc.changed c true ∧ t.vtu.uptime = s.vtu.uptime)
  ∧ (∀ (s : State) (c : Fin 7), s.phase = .running → s.sc.changed[c] = true → 60 ≤ s.sc.age[c] →
    ∃ t, Runs (.usageAgeExpiry c) s t ∧ WrittenSoon t (.usage c)
      ∧ (s.sc.writing = none → (∀ r : Fin 18, s.sc.dirty[r] = false) →
          t.sc.writing = some (.usage c { usage := s.usage c, acct := s.vtu.acct })
          ∧ t.sc.changed[c] = false ∧ t.sc.age[c] = 0)
      ∧ t = { s with sc := t.sc } ∧ SettingsKept s t)
  ∧ (∀ s : State, s.phase = .starting ∨ s.phase = .clearing →
    ∃ t, Runs .startupSecond s t ∧ t = { s with vtu.uptime := s.vtu.uptime + 1 })

/-! ### The store and start-up -/

/-- A write that completes leaves its record holding the contents taken, sound; one that fails leaves its record marked, in
the store what its begun write left, and raises STORE. Either way the next write, if a record is dirty, is of the first in
store order that is dirty and has not failed in this commit, or where each has, of the first dirty one in the next commit;
the other marks are kept, and no other block changes (R183, R184, R186, R187; that the next write begins within the
completion is log 11, what a half-written record holds log 12, that a mark is cleared at the beginning log 35). -/
def Obligations.StoreWrites : Prop :=
  ∀ (s : State) (image : Image), s.phase ≠ .clearing → s.sc.writing = some image →
    (∃ t, Runs .storeWriteComplete s t
      ∧ (t.sc.writing = none → t.sc.store = s.sc.store.put true image ∧ ∀ r, s.isDirty r = false)
      ∧ (∀ next, t.sc.writing = some next → t.sc.store = (s.sc.store.put true image).put false next
          ∧ Begun s t next ∧ NextWrite s.isDirty (fun r => s.sc.failed[r.place]) next.record
          ∧ (∀ r, r ≠ next.record → t.isDirty r = s.isDirty r)
          ∧ t.sc.failed = (if s.sc.failed[next.record.place] then Vector.replicate 18 false else s.sc.failed))
      ∧ t = { s with sc := t.sc } ∧ SettingsKept s t)
    ∧ (∃ t, Runs .storeWriteFail s t ∧ WrittenSoon t image.record
      ∧ (∃ next, t.sc.writing = some next ∧ t.sc.store = s.sc.store.put false next ∧ Begun s t next
          ∧ NextWrite (fun r => decide (r = image.record) || s.isDirty r)
              (fun r => decide (r = image.record) || s.sc.failed[r.place]) next.record
          ∧ (∀ r, r ≠ next.record → t.isDirty r = (decide (r = image.record) || s.isDirty r))
          ∧ t.sc.failed = (if next.record = image.record ∨ s.sc.failed[next.record.place] = true then
              Vector.replicate 18 false else putAt s.sc.failed image.record.place true))
      ∧ t = { s with sc := t.sc, au.status := s.au.status ||| Cause.store.bit } ∧ SettingsKept s t)

/-- The release of the part reset input: the straps give the arrangement and entries 0 and 1, the table unlocked; the
uptime counter is 0, the clock UNSET and CLOCK raised; every slot presents nothing. A sound PIN or profile record is taken
as it stands, a failure count of 5 or more restarting its lockout; one that fails its check becomes UNKNOWN with count 0,
or suspended with nothing allowed, raising STORE with FAULT-SEEN. With the factory clear strap the factory values are
taken and their writes begin, the PIN record first and every other dirty. With the input released already, nothing changes.
The lane record, the service table and the settings record are taken as they stand or, failing, at their defaults, a slot
default that names an INVALID profile being replaced; the accounting day and week are the greatest any sound usage record
holds; a sound usage record is taken with its carry within the cap and no end in uptime, rolled forward where its day is
earlier and then, or where it holds no day, written soon; an INVALID profile's is zero (R3, R26, R27, R100, R105, R128, R133,
R189 to R193; logs 1, 8, 20, 25 and 40). -/
def Obligations.ReleaseLoads : Prop :=
  ∀ (s : State) (arr : Bool) (cb : Byte),
    (s.phase = .inReset →
      ∃ t, Runs (.partResetRelease arr cb false) s t ∧ t.phase = .starting
        ∧ t.ct.arr = (if arr then .brc else .rbc) ∧ t.wd = WD.atReset cb ∧ t.prt = PRT.atReset
        ∧ t.vtu.uptime = 0 ∧ t.vtu.clock = none ∧ t.au.status &&& Cause.clock.bit = Cause.clock.bit
        ∧ t.au.enable = 0 ∧ t.au.capture = none
        ∧ (∀ i, (t.slot i).item = .nothing ∧ (t.slot i).decision = .vacant ∧ (t.slot i).enforcement = .showing
            ∧ (t.slot i).pending = none)
        ∧ (s.sc.store.pin.complete = true → s.sc.store.pin.content.inRange = true →
            t.pss.pin = s.sc.store.pin.content.pin ∧ t.pss.failures = s.sc.store.pin.content.failures
            ∧ (5 ≤ t.pss.failures → t.pss.lockout = some (min (60 * 2 ^ (t.pss.failures - 5)) 3840))
            ∧ (t.pss.failures < 5 → t.pss.lockout = none))
        ∧ (s.sc.store.pin.complete = false ∨ s.sc.store.pin.content.inRange = false →
            t.pss.pin = .unknown ∧ t.pss.failures = 0 ∧ t.pss.lockout = none ∧ WrittenSoon t .pin
            ∧ t.au.status &&& Cause.store.bit = Cause.store.bit ∧ t.sc.faultSeen = true)
        ∧ (∀ c : Fin 7, s.sc.store.profiles[c].complete = true → s.sc.store.profiles[c].content.inRange = true →
            t.child c = s.sc.store.profiles[c].content)
        ∧ (∀ c : Fin 7,
            s.sc.store.profiles[c].complete = false ∨ s.sc.store.profiles[c].content.inRange = false →
            (t.child c).valid = true ∧ (t.child c).suspended = true ∧ (t.child c).weekday = 0
            ∧ (t.child c).weekend = 0 ∧ (t.child c).weekly = 0 ∧ (t.child c).curfews = []
            ∧ WrittenSoon t (.profile c) ∧ t.sc.faultSeen = true
            ∧ t.au.status &&& Cause.store.bit = Cause.store.bit)
        ∧ (∀ c : Fin 7, (t.child c).valid = true → s.sc.store.usage[c].complete = false →
            (t.usage c).today = 86400 ∧ (t.usage c).week = 604800 ∧ (t.usage c).exhausted = true
            ∧ (t.usage c).ext = none ∧ WrittenSoon t (.usage c))
        ∧ (t.lane 0).classes = 0b1111111
        ∧ (s.sc.store.lane.complete = true → (t.lane 1).classes = s.sc.store.lane.content[0]
            ∧ (t.lane 2).classes = s.sc.store.lane.content[1] ∧ (t.lane 3).classes = s.sc.store.lane.content[2])
        ∧ (s.sc.store.lane.complete = false → (∀ n : Fin 4, (t.lane n).classes = defaultClasses[n])
            ∧ WrittenSoon t .lane ∧ t.sc.faultSeen = true ∧ t.au.status &&& Cause.store.bit = Cause.store.bit)
        ∧ (s.sc.store.services.complete = true → ServicesLawful s.sc.store.services.content →
            t.pss.services = s.sc.store.services.content)
        ∧ (s.sc.store.services.complete = false ∨ ¬ ServicesLawful s.sc.store.services.content →
            t.pss.services = [] ∧ WrittenSoon t .services ∧ t.sc.faultSeen = true
            ∧ t.au.status &&& Cause.store.bit = Cause.store.bit)
        ∧ (∀ i, (t.slot i).bound = t.sc.settings.defaults[i])
        ∧ (s.sc.store.settings.complete = true → s.sc.store.settings.content.inRange = true →
            t.sc.settings = { s.sc.store.settings.content with defaults := t.sc.settings.defaults }
            ∧ (∀ i : Fin 4, t.sc.settings.defaults[i] =
                if t.profileValid s.sc.store.settings.content.defaults[i]
                then s.sc.store.settings.content.defaults[i] else lowestValid t)
            ∧ (t.sc.settings ≠ s.sc.store.settings.content → WrittenSoon t .settings))
        ∧ (s.sc.store.settings.complete = false ∨ s.sc.store.settings.content.inRange = false →
            t.sc.settings = { Settings.factory with defaults := Vector.replicate 4 (lowestValid t) }
            ∧ WrittenSoon t .settings ∧ t.sc.faultSeen = true ∧ t.au.status &&& Cause.store.bit = Cause.store.bit)
        ∧ (∀ (c : Fin 7) a, SoundDay s.sc.store c a → ∃ b, t.vtu.acct = some b ∧ a.day ≤ b.day ∧ a.week ≤ b.week)
        ∧ (∀ b, t.vtu.acct = some b → (∃ c a, SoundDay s.sc.store c a ∧ a.day = b.day)
            ∧ ∃ c a, SoundDay s.sc.store c a ∧ a.week = b.week)
        ∧ (∀ c : Fin 7, (t.child c).valid = false → t.usage c = .zero)
        ∧ (∀ c : Fin 7, (t.child c).valid = true → SoundUsage s.sc.store c →
            (s.sc.store.usage[c].content.acct = none → WrittenSoon t (.usage c)
              ∧ t.usage c = loadedUsage (t.child c) s.sc.store.usage[c].content.usage)
            ∧ ∀ a b, s.sc.store.usage[c].content.acct = some a → t.vtu.acct = some b →
              (a.day = b.day → t.usage c = loadedUsage (t.child c) s.sc.store.usage[c].content.usage
                ∧ ((t.child c).carryCap * 60 < s.sc.store.usage[c].content.usage.carry → WrittenSoon t (.usage c)))
              ∧ (a.day < b.day → WrittenSoon t (.usage c) ∧ t.usage c =
                  { Usage.zero with
                    carry :=
                      if b.day = a.day + 1 ∧ (t.child c).allowance (weekendDay t.sc.settings.weekend a.day) ≠ 1440 then
                        min ((t.child c).carryCap * 60)
                          ((t.child c).allowance (weekendDay t.sc.settings.weekend a.day) * 60
                            - s.sc.store.usage[c].content.usage.today)
                      else 0
                    week := if a.week < b.week then 0 else s.sc.store.usage[c].content.usage.week
                    weekBonus := if a.week < b.week then 0 else s.sc.store.usage[c].content.usage.weekBonus }))
        ∧ t.pending = s.pending)
    ∧ (s.phase = .inReset →
      ∃ t, Runs (.partResetRelease arr cb true) s t ∧ t.phase = .clearing ∧ t.wd = WD.atReset cb
        ∧ t.ct.arr = (if arr then .brc else .rbc) ∧ t.vtu.uptime = 0
        ∧ t.pss.pin = .unset ∧ t.pss.failures = 0 ∧ t.pss.services = [] ∧ t.sc.settings = Settings.factory
        ∧ (∀ c, t.child c = .invalid ∧ t.usage c = .zero)
        ∧ (∀ n : Fin 4, (t.lane n).classes = defaultClasses[n])
        ∧ t.sc.writing = some (.pin { pin := .unset, failures := 0 })
        ∧ (∀ r, r ≠ .pin → t.isDirty r = true) ∧ t.sc.faultSeen = false)
    ∧ (s.phase ≠ .inReset → ∀ fclr, Runs (.partResetRelease arr cb fclr) s s)

/-- The end of start-up: with no record held, the part runs and nothing else changes; each lane takes what it holds,
whatever the order of the lanes, and none stays held; in PASS-ONLY no lane takes a record, and the order is kept for when
that ends (log 36). A factory clear ends start-up's step 2 only when each record has been attempted (R44, R56, R188 to R190,
R195; logs 6, 7 and 25). -/
def Obligations.StartupEnds : Prop :=
  ∀ s : State,
    (∀ order, s.phase = .starting → s.ct.channel ≠ .passOnly →
      ∃ t, Runs (.startupEnd order) s t ∧ t.phase = .running
        ∧ ((∀ n, (s.lane n).cur.closed = false) → t = { s with phase := .running, vtu.tickDue := false })
        ∧ ∀ n, TookHeld s t n)
    ∧ (∀ order, s.phase = .starting → s.ct.channel = .passOnly →
      Runs (.startupEnd order) s { s with phase := .running, vtu.tickDue := false, lc.order := order })
    ∧ (∀ image, s.phase = .clearing → s.sc.writing = some image → ∃ t, Runs .storeWriteComplete s t
        ∧ ((∃ r, s.isDirty r = true ∧ s.sc.failed[r.place] = false) → t.phase = .clearing ∧ t.sc.writing.isSome = true)
        ∧ ((∀ r, s.isDirty r = true → s.sc.failed[r.place] = true) → t.phase = .starting))

/-! ### Invariants -/

/-- Enforcement agrees with decision after every step (laws of the device; R106, R110, R113). -/
def Obligations.EnforcementAgreesKept : Prop :=
  ∀ s t : State, s.EnforcementAgrees → step s = .next t → t.EnforcementAgrees

/-- A slot's picture state follows its bound PICTURE windows after every step (R28, R106). -/
def Obligations.PictureAgreesKept : Prop :=
  ∀ s t : State, s.PictureAgrees → step s = .next t → t.PictureAgrees

/-- Time-out hides after every step: a slot presenting an item for an exhausted profile hides unless the extension covers
its item (laws of the device; R107, R115, R139, R142). -/
def Obligations.TimeOutHidesKept : Prop :=
  ∀ s t : State, s.TimeOutHides → step s = .next t → t.TimeOutHides

/-- The channel state follows clock enable and the unfollowed set after every step, and is the reset state's under part
reset and while the DRAM reset line stays asserted (R19, R20, R21, R22, R23). -/
def Obligations.ChannelAgreesKept : Prop :=
  ∀ s t : State, s.ChannelAgrees → step s = .next t → t.ChannelAgrees

/-- The outstanding list holds at most 8 bursts, each short of its length, after every step (R14, R16). -/
def Obligations.OutstandingLawfulKept : Prop :=
  ∀ s t : State, s.OutstandingLawful → step s = .next t → t.OutstandingLawful

/-- The programme rating table keeps its order, its ranges, its size and its disjoint spans after every step, and the
service table its order, its size and its entries' rules (R58, R60, R61, R66, R92, R93, R94). -/
def Obligations.TableLawfulKept : Prop :=
  ∀ s t : State, step s = .next t → (TableLawful s.prt.entries → TableLawful t.prt.entries)
    ∧ (ServicesLawful s.pss.services → ServicesLawful t.pss.services)

/-- The usage records keep their ranges, and an INVALID profile's the zero record, after every step (R85, R132). -/
def Obligations.UsageLawfulKept : Prop :=
  ∀ s t : State, s.UsageLawful → step s = .next t → t.UsageLawful

/-- The failure count stays within 255 and a lockout within 3,840 seconds after every step (R98, R99, R100). -/
def Obligations.LockoutLawfulKept : Prop :=
  ∀ s t : State, s.LockoutLawful → step s = .next t → t.LockoutLawful

/-- Lane 0 holds every class after every step; a step from PASS-ONLY into PASS-ONLY leaves every lane and the enable set as
they were, and outside it, start-up over, no lane keeps a record it could take (R44, R45, R178, R188, R195; log 36). -/
def Obligations.LaneZeroWholeKept : Prop :=
  (∀ s t : State, s.LaneZeroWhole → step s = .next t → t.LaneZeroWhole)
  ∧ (∀ s t : State, s.ct.channel = .passOnly → step s = .next t → t.ct.channel = .passOnly →
      (∀ n, t.lane n = s.lane n) ∧ t.au.enable = s.au.enable)
  ∧ ∀ s t : State, s.ChannelAgrees → s.HeldLawful → step s = .next t → t.HeldLawful

/-- No record stays dirty without a commit running (R186). -/
def Obligations.SettledKept : Prop :=
  ∀ s t : State, s.Settled → step s = .next t → t.Settled

/-- The window table keeps entries 0 and 1, its disjointness, its one INGEST window and its limits for a slot after every
step. Where the channel state follows its inputs, a step leaves no burst outstanding in IDLE-DOWN and REST. Where besides no
lane keeps a record it could take, a running ingest keeps its law, no lane's expected record being closed while it is ACTIVE;
and while it stays ACTIVE there is one INGEST entry, which keeps its index, base and limit (R14, R24, R25, R26, R28, R72; log
36). -/
def Obligations.WindowsLawfulKept : Prop :=
  (∀ s t : State, s.WindowsLawful → step s = .next t → t.WindowsLawful)
  ∧ (∀ s t : State, s.ChannelAgrees → s.BurstsAbandoned → step s = .next t → t.BurstsAbandoned)
  ∧ ∀ s t : State, s.ChannelAgrees → s.HeldLawful → s.BurstsAbandoned → s.IngestLawful → step s = .next t →
    t.IngestLawful
    ∧ (s.prt.ingest.isSome = true → t.prt.ingest.isSome = true →
        t.wd.ingestIndex = s.wd.ingestIndex ∧ t.wd.ingestWindow = s.wd.ingestWindow)

/-- A known stored accounting day and week never move backward but by a part reset's new load (R131, R148, R150, R192). -/
def Obligations.AccountingDayNeverFalls : Prop :=
  ∀ (i : Instr) (s t : State) (a : Acct), i ≠ .partReset → (∀ arr cb fclr, i ≠ .partResetRelease arr cb fclr) →
    s.vtu.acct = some a → Runs i s t → ∃ b, t.vtu.acct = some b ∧ a.day ≤ b.day ∧ a.week ≤ b.week

/-- A locked window table stands, fill tile and lock included, until a part reset (R27, R38). -/
def Obligations.LockFreezes : Prop :=
  ∀ (i : Instr) (s t : State), i ≠ .partReset → (∀ arr cb fclr, i ≠ .partResetRelease arr cb fclr) →
    s.wd.locked = true → Runs i s t → t.wd = s.wd

end
end

