-- ==== Sys2Proof/Laws/State.lean ====
section
/-! SUPPORT. What each update of the state does to each field: small lemmas, tagged for the simplifier, so that no proof
unfolds a record update. -/

namespace Sys2Proof

@[simp] theorem putAt_same {α : Type} {n : Nat} (v : Vector α n) (i : Fin n) (x : α) :
    (putAt v i x)[i.val] = x := by
  simp [putAt]

theorem putAt_other {α : Type} {n : Nat} (v : Vector α n) (i j : Fin n) (x : α) (h : j ≠ i) :
    (putAt v i x)[j] = v[j] := by
  have : (i : Nat) ≠ j := fun e => h (Fin.ext e.symm)
  simp [putAt, this]

theorem putAt_read {α : Type} {n : Nat} (v : Vector α n) (i j : Fin n) (x : α) :
    (putAt v i x)[j] = if j = i then x else v[j] := by
  by_cases h : j = i
  · subst h; simp
  · rw [putAt_other v i j x h]; simp [h]

@[simp] theorem putAt_self {α : Type} {n : Nat} (v : Vector α n) (i : Fin n) : putAt v i v[i.val] = v := by
  simp [putAt]

namespace Machine

variable (s : State)

/-! ### `setSlot` -/

@[simp] theorem setSlot_phase (i : Fin 4) (x : Slot) : (s.setSlot i x).phase = s.phase := rfl

@[simp] theorem setSlot_ct (i : Fin 4) (x : Slot) : (s.setSlot i x).ct = s.ct := rfl

@[simp] theorem setSlot_wd (i : Fin 4) (x : Slot) : (s.setSlot i x).wd = s.wd := rfl

@[simp] theorem setSlot_lc (i : Fin 4) (x : Slot) : (s.setSlot i x).lc = s.lc := rfl

@[simp] theorem setSlot_prt (i : Fin 4) (x : Slot) : (s.setSlot i x).prt = s.prt := rfl

@[simp] theorem setSlot_pss (i : Fin 4) (x : Slot) : (s.setSlot i x).pss = s.pss := rfl

@[simp] theorem setSlot_vtu (i : Fin 4) (x : Slot) : (s.setSlot i x).vtu = s.vtu := rfl

@[simp] theorem setSlot_sc (i : Fin 4) (x : Slot) : (s.setSlot i x).sc = s.sc := rfl

@[simp] theorem setSlot_au (i : Fin 4) (x : Slot) : (s.setSlot i x).au = s.au := rfl

@[simp] theorem setSlot_pending (i : Fin 4) (x : Slot) : (s.setSlot i x).pending = s.pending := rfl

/-! ### `setLane` -/

@[simp] theorem setLane_phase (n : Fin 4) (x : Lane) : (s.setLane n x).phase = s.phase := rfl

@[simp] theorem setLane_ct (n : Fin 4) (x : Lane) : (s.setLane n x).ct = s.ct := rfl

@[simp] theorem setLane_wd (n : Fin 4) (x : Lane) : (s.setLane n x).wd = s.wd := rfl

@[simp] theorem setLane_prt (n : Fin 4) (x : Lane) : (s.setLane n x).prt = s.prt := rfl

@[simp] theorem setLane_pss (n : Fin 4) (x : Lane) : (s.setLane n x).pss = s.pss := rfl

@[simp] theorem setLane_sdu (n : Fin 4) (x : Lane) : (s.setLane n x).sdu = s.sdu := rfl

@[simp] theorem setLane_vtu (n : Fin 4) (x : Lane) : (s.setLane n x).vtu = s.vtu := rfl

@[simp] theorem setLane_sc (n : Fin 4) (x : Lane) : (s.setLane n x).sc = s.sc := rfl

@[simp] theorem setLane_au (n : Fin 4) (x : Lane) : (s.setLane n x).au = s.au := rfl

@[simp] theorem setLane_pending (n : Fin 4) (x : Lane) : (s.setLane n x).pending = s.pending := rfl

/-! ### `setChild` -/

@[simp] theorem setChild_phase (c : Fin 7) (x : Profile) : (s.setChild c x).phase = s.phase := rfl

@[simp] theorem setChild_ct (c : Fin 7) (x : Profile) : (s.setChild c x).ct = s.ct := rfl

@[simp] theorem setChild_wd (c : Fin 7) (x : Profile) : (s.setChild c x).wd = s.wd := rfl

@[simp] theorem setChild_lc (c : Fin 7) (x : Profile) : (s.setChild c x).lc = s.lc := rfl

@[simp] theorem setChild_prt (c : Fin 7) (x : Profile) : (s.setChild c x).prt = s.prt := rfl

@[simp] theorem setChild_sdu (c : Fin 7) (x : Profile) : (s.setChild c x).sdu = s.sdu := rfl

@[simp] theorem setChild_vtu (c : Fin 7) (x : Profile) : (s.setChild c x).vtu = s.vtu := rfl

@[simp] theorem setChild_sc (c : Fin 7) (x : Profile) : (s.setChild c x).sc = s.sc := rfl

@[simp] theorem setChild_au (c : Fin 7) (x : Profile) : (s.setChild c x).au = s.au := rfl

@[simp] theorem setChild_pending (c : Fin 7) (x : Profile) : (s.setChild c x).pending = s.pending := rfl

/-! ### `setCurfew` -/

@[simp] theorem setCurfew_phase (c : Fin 7) (b : Bool) : (s.setCurfew c b).phase = s.phase := rfl

@[simp] theorem setCurfew_ct (c : Fin 7) (b : Bool) : (s.setCurfew c b).ct = s.ct := rfl

@[simp] theorem setCurfew_wd (c : Fin 7) (b : Bool) : (s.setCurfew c b).wd = s.wd := rfl

@[simp] theorem setCurfew_lc (c : Fin 7) (b : Bool) : (s.setCurfew c b).lc = s.lc := rfl

@[simp] theorem setCurfew_prt (c : Fin 7) (b : Bool) : (s.setCurfew c b).prt = s.prt := rfl

@[simp] theorem setCurfew_pss (c : Fin 7) (b : Bool) : (s.setCurfew c b).pss = s.pss := rfl

@[simp] theorem setCurfew_sdu (c : Fin 7) (b : Bool) : (s.setCurfew c b).sdu = s.sdu := rfl

@[simp] theorem setCurfew_sc (c : Fin 7) (b : Bool) : (s.setCurfew c b).sc = s.sc := rfl

@[simp] theorem setCurfew_au (c : Fin 7) (b : Bool) : (s.setCurfew c b).au = s.au := rfl

@[simp] theorem setCurfew_pending (c : Fin 7) (b : Bool) : (s.setCurfew c b).pending = s.pending := rfl

/-! ### `markDirty` -/

@[simp] theorem markDirty_phase (r : RecordId) : (s.markDirty r).phase = s.phase := rfl

@[simp] theorem markDirty_ct (r : RecordId) : (s.markDirty r).ct = s.ct := rfl

@[simp] theorem markDirty_wd (r : RecordId) : (s.markDirty r).wd = s.wd := rfl

@[simp] theorem markDirty_lc (r : RecordId) : (s.markDirty r).lc = s.lc := rfl

@[simp] theorem markDirty_prt (r : RecordId) : (s.markDirty r).prt = s.prt := rfl

@[simp] theorem markDirty_pss (r : RecordId) : (s.markDirty r).pss = s.pss := rfl

@[simp] theorem markDirty_sdu (r : RecordId) : (s.markDirty r).sdu = s.sdu := rfl

@[simp] theorem markDirty_vtu (r : RecordId) : (s.markDirty r).vtu = s.vtu := rfl

@[simp] theorem markDirty_au (r : RecordId) : (s.markDirty r).au = s.au := rfl

@[simp] theorem markDirty_pending (r : RecordId) : (s.markDirty r).pending = s.pending := rfl

/-! ### `raise` -/

@[simp] theorem raise_phase (c : Cause) : (s.raise c).phase = s.phase := rfl

@[simp] theorem raise_ct (c : Cause) : (s.raise c).ct = s.ct := rfl

@[simp] theorem raise_wd (c : Cause) : (s.raise c).wd = s.wd := rfl

@[simp] theorem raise_lc (c : Cause) : (s.raise c).lc = s.lc := rfl

@[simp] theorem raise_prt (c : Cause) : (s.raise c).prt = s.prt := rfl

@[simp] theorem raise_pss (c : Cause) : (s.raise c).pss = s.pss := rfl

@[simp] theorem raise_sdu (c : Cause) : (s.raise c).sdu = s.sdu := rfl

@[simp] theorem raise_vtu (c : Cause) : (s.raise c).vtu = s.vtu := rfl

@[simp] theorem raise_sc (c : Cause) : (s.raise c).sc = s.sc := rfl

@[simp] theorem raise_pending (c : Cause) : (s.raise c).pending = s.pending := rfl

/-! ### `addWarned` -/

@[simp] theorem addWarned_phase (p : Fin 8) : (s.addWarned p).phase = s.phase := rfl

@[simp] theorem addWarned_ct (p : Fin 8) : (s.addWarned p).ct = s.ct := rfl

@[simp] theorem addWarned_wd (p : Fin 8) : (s.addWarned p).wd = s.wd := rfl

@[simp] theorem addWarned_lc (p : Fin 8) : (s.addWarned p).lc = s.lc := rfl

@[simp] theorem addWarned_prt (p : Fin 8) : (s.addWarned p).prt = s.prt := rfl

@[simp] theorem addWarned_pss (p : Fin 8) : (s.addWarned p).pss = s.pss := rfl

@[simp] theorem addWarned_sdu (p : Fin 8) : (s.addWarned p).sdu = s.sdu := rfl

@[simp] theorem addWarned_vtu (p : Fin 8) : (s.addWarned p).vtu = s.vtu := rfl

@[simp] theorem addWarned_sc (p : Fin 8) : (s.addWarned p).sc = s.sc := rfl

@[simp] theorem addWarned_pending (p : Fin 8) : (s.addWarned p).pending = s.pending := rfl

/-! ### `setEntries` -/

@[simp] theorem setEntries_phase (t : List Entry) : (s.setEntries t).phase = s.phase := rfl

@[simp] theorem setEntries_ct (t : List Entry) : (s.setEntries t).ct = s.ct := rfl

@[simp] theorem setEntries_wd (t : List Entry) : (s.setEntries t).wd = s.wd := rfl

@[simp] theorem setEntries_lc (t : List Entry) : (s.setEntries t).lc = s.lc := rfl

@[simp] theorem setEntries_pss (t : List Entry) : (s.setEntries t).pss = s.pss := rfl

@[simp] theorem setEntries_sdu (t : List Entry) : (s.setEntries t).sdu = s.sdu := rfl

@[simp] theorem setEntries_vtu (t : List Entry) : (s.setEntries t).vtu = s.vtu := rfl

@[simp] theorem setEntries_sc (t : List Entry) : (s.setEntries t).sc = s.sc := rfl

@[simp] theorem setEntries_au (t : List Entry) : (s.setEntries t).au = s.au := rfl

@[simp] theorem setEntries_pending (t : List Entry) : (s.setEntries t).pending = s.pending := rfl

/-! ### `setBank` -/

@[simp] theorem setBank_phase (ba : BitVec 3) (x : Option (BitVec 16)) : (s.setBank ba x).phase = s.phase := rfl

@[simp] theorem setBank_wd (ba : BitVec 3) (x : Option (BitVec 16)) : (s.setBank ba x).wd = s.wd := rfl

@[simp] theorem setBank_lc (ba : BitVec 3) (x : Option (BitVec 16)) : (s.setBank ba x).lc = s.lc := rfl

@[simp] theorem setBank_prt (ba : BitVec 3) (x : Option (BitVec 16)) : (s.setBank ba x).prt = s.prt := rfl

@[simp] theorem setBank_pss (ba : BitVec 3) (x : Option (BitVec 16)) : (s.setBank ba x).pss = s.pss := rfl

@[simp] theorem setBank_sdu (ba : BitVec 3) (x : Option (BitVec 16)) : (s.setBank ba x).sdu = s.sdu := rfl

@[simp] theorem setBank_vtu (ba : BitVec 3) (x : Option (BitVec 16)) : (s.setBank ba x).vtu = s.vtu := rfl

@[simp] theorem setBank_sc (ba : BitVec 3) (x : Option (BitVec 16)) : (s.setBank ba x).sc = s.sc := rfl

@[simp] theorem setBank_au (ba : BitVec 3) (x : Option (BitVec 16)) : (s.setBank ba x).au = s.au := rfl

@[simp] theorem setBank_pending (ba : BitVec 3) (x : Option (BitVec 16)) : (s.setBank ba x).pending = s.pending := rfl

/-! ### `setUsage` -/

@[simp] theorem setUsage_phase (c : Fin 7) (u : Usage) :
    (s.setUsage c u).phase = s.phase := by unfold State.setUsage; split <;> rfl

@[simp] theorem setUsage_ct (c : Fin 7) (u : Usage) :
    (s.setUsage c u).ct = s.ct := by unfold State.setUsage; split <;> rfl

@[simp] theorem setUsage_wd (c : Fin 7) (u : Usage) :
    (s.setUsage c u).wd = s.wd := by unfold State.setUsage; split <;> rfl

@[simp] theorem setUsage_lc (c : Fin 7) (u : Usage) :
    (s.setUsage c u).lc = s.lc := by unfold State.setUsage; split <;> rfl

@[simp] theorem setUsage_prt (c : Fin 7) (u : Usage) :
    (s.setUsage c u).prt = s.prt := by unfold State.setUsage; split <;> rfl

@[simp] theorem setUsage_pss (c : Fin 7) (u : Usage) :
    (s.setUsage c u).pss = s.pss := by unfold State.setUsage; split <;> rfl

@[simp] theorem setUsage_sdu (c : Fin 7) (u : Usage) :
    (s.setUsage c u).sdu = s.sdu := by unfold State.setUsage; split <;> rfl

@[simp] theorem setUsage_au (c : Fin 7) (u : Usage) :
    (s.setUsage c u).au = s.au := by unfold State.setUsage; split <;> rfl

@[simp] theorem setUsage_pending (c : Fin 7) (u : Usage) :
    (s.setUsage c u).pending = s.pending := by unfold State.setUsage; split <;> rfl

/-! ### `report` -/

@[simp] theorem report_phase (k : CaptureKind) (block : Nat) (bank : BitVec 3) (row col : Nat) :
    (s.report k block bank row col).phase = s.phase := by unfold State.report; split <;> rfl

@[simp] theorem report_ct (k : CaptureKind) (block : Nat) (bank : BitVec 3) (row col : Nat) :
    (s.report k block bank row col).ct = s.ct := by unfold State.report; split <;> rfl

@[simp] theorem report_wd (k : CaptureKind) (block : Nat) (bank : BitVec 3) (row col : Nat) :
    (s.report k block bank row col).wd = s.wd := by unfold State.report; split <;> rfl

@[simp] theorem report_lc (k : CaptureKind) (block : Nat) (bank : BitVec 3) (row col : Nat) :
    (s.report k block bank row col).lc = s.lc := by unfold State.report; split <;> rfl

@[simp] theorem report_prt (k : CaptureKind) (block : Nat) (bank : BitVec 3) (row col : Nat) :
    (s.report k block bank row col).prt = s.prt := by unfold State.report; split <;> rfl

@[simp] theorem report_pss (k : CaptureKind) (block : Nat) (bank : BitVec 3) (row col : Nat) :
    (s.report k block bank row col).pss = s.pss := by unfold State.report; split <;> rfl

@[simp] theorem report_sdu (k : CaptureKind) (block : Nat) (bank : BitVec 3) (row col : Nat) :
    (s.report k block bank row col).sdu = s.sdu := by unfold State.report; split <;> rfl

@[simp] theorem report_vtu (k : CaptureKind) (block : Nat) (bank : BitVec 3) (row col : Nat) :
    (s.report k block bank row col).vtu = s.vtu := by unfold State.report; split <;> rfl

@[simp] theorem report_sc (k : CaptureKind) (block : Nat) (bank : BitVec 3) (row col : Nat) :
    (s.report k block bank row col).sc = s.sc := by unfold State.report; split <;> rfl

@[simp] theorem report_pending (k : CaptureKind) (block : Nat) (bank : BitVec 3) (row col : Nat) :
    (s.report k block bank row col).pending = s.pending := by unfold State.report; split <;> rfl

/-! ### `postReply` -/

@[simp] theorem postReply_phase (n : Fin 4) (tag : BitVec 16) (code out : Byte) (adj : Bool) (ring : Fin 64) (p : List Byte) :
    (s.postReply n tag code out adj ring p).phase = s.phase := rfl

@[simp] theorem postReply_ct (n : Fin 4) (tag : BitVec 16) (code out : Byte) (adj : Bool) (ring : Fin 64) (p : List Byte) :
    (s.postReply n tag code out adj ring p).ct = s.ct := rfl

@[simp] theorem postReply_wd (n : Fin 4) (tag : BitVec 16) (code out : Byte) (adj : Bool) (ring : Fin 64) (p : List Byte) :
    (s.postReply n tag code out adj ring p).wd = s.wd := rfl

@[simp] theorem postReply_prt (n : Fin 4) (tag : BitVec 16) (code out : Byte) (adj : Bool) (ring : Fin 64) (p : List Byte) :
    (s.postReply n tag code out adj ring p).prt = s.prt := rfl

@[simp] theorem postReply_pss (n : Fin 4) (tag : BitVec 16) (code out : Byte) (adj : Bool) (ring : Fin 64) (p : List Byte) :
    (s.postReply n tag code out adj ring p).pss = s.pss := rfl

@[simp] theorem postReply_sdu (n : Fin 4) (tag : BitVec 16) (code out : Byte) (adj : Bool) (ring : Fin 64) (p : List Byte) :
    (s.postReply n tag code out adj ring p).sdu = s.sdu := rfl

@[simp] theorem postReply_vtu (n : Fin 4) (tag : BitVec 16) (code out : Byte) (adj : Bool) (ring : Fin 64) (p : List Byte) :
    (s.postReply n tag code out adj ring p).vtu = s.vtu := rfl

@[simp] theorem postReply_sc (n : Fin 4) (tag : BitVec 16) (code out : Byte) (adj : Bool) (ring : Fin 64) (p : List Byte) :
    (s.postReply n tag code out adj ring p).sc = s.sc := rfl

@[simp] theorem postReply_pending (n : Fin 4) (tag : BitVec 16) (code out : Byte) (adj : Bool) (ring : Fin 64) (p : List Byte) :
    (s.postReply n tag code out adj ring p).pending = s.pending := rfl

/-! ### `setFailures` -/

@[simp] theorem setFailures_phase (n : Nat) :
    (s.setFailures n).phase = s.phase := by unfold State.setFailures; split <;> rfl

@[simp] theorem setFailures_ct (n : Nat) : (s.setFailures n).ct = s.ct := by unfold State.setFailures; split <;> rfl

@[simp] theorem setFailures_wd (n : Nat) : (s.setFailures n).wd = s.wd := by unfold State.setFailures; split <;> rfl

@[simp] theorem setFailures_lc (n : Nat) : (s.setFailures n).lc = s.lc := by unfold State.setFailures; split <;> rfl

@[simp] theorem setFailures_prt (n : Nat) :
    (s.setFailures n).prt = s.prt := by unfold State.setFailures; split <;> rfl

@[simp] theorem setFailures_sdu (n : Nat) :
    (s.setFailures n).sdu = s.sdu := by unfold State.setFailures; split <;> rfl

@[simp] theorem setFailures_vtu (n : Nat) :
    (s.setFailures n).vtu = s.vtu := by unfold State.setFailures; split <;> rfl

@[simp] theorem setFailures_au (n : Nat) : (s.setFailures n).au = s.au := by unfold State.setFailures; split <;> rfl

@[simp] theorem setFailures_pending (n : Nat) :
    (s.setFailures n).pending = s.pending := by unfold State.setFailures; split <;> rfl

/-! ### Reading a numbered part after an update -/

@[simp] theorem slot_setSlot_same (i : Fin 4) (x : Slot) : (s.setSlot i x).slot i = x := by
  simp [State.slot, State.setSlot]

theorem slot_setSlot_other (i j : Fin 4) (x : Slot) (h : j ≠ i) : (s.setSlot i x).slot j = s.slot j :=
  putAt_other _ _ _ _ h

@[simp] theorem lane_setLane_same (n : Fin 4) (x : Lane) : (s.setLane n x).lane n = x := by
  simp [State.lane, State.setLane]

theorem lane_setLane_other (n m : Fin 4) (x : Lane) (h : m ≠ n) : (s.setLane n x).lane m = s.lane m :=
  putAt_other _ _ _ _ h

@[simp] theorem child_setChild_same (c : Fin 7) (x : Profile) : (s.setChild c x).child c = x := by
  simp [State.child, State.setChild]

theorem child_setChild_other (c d : Fin 7) (x : Profile) (h : d ≠ c) : (s.setChild c x).child d = s.child d :=
  putAt_other _ _ _ _ h

@[simp] theorem usage_setUsage_same (c : Fin 7) (u : Usage) : (s.setUsage c u).usage c = u := by
  unfold State.setUsage
  split
  · rename_i h; exact h.symm
  · simp [State.usage]

theorem usage_setUsage_other (c d : Fin 7) (u : Usage) (h : d ≠ c) : (s.setUsage c u).usage d = s.usage d := by
  unfold State.setUsage
  split
  · rfl
  · exact putAt_other _ _ _ _ h

@[simp] theorem curfew_setCurfew_same (c : Fin 7) (b : Bool) : (s.setCurfew c b).curfewActive c = b := by
  simp [State.curfewActive, State.setCurfew]

theorem curfew_setCurfew_other (c d : Fin 7) (b : Bool) (h : d ≠ c) :
    (s.setCurfew c b).curfewActive d = s.curfewActive d :=
  putAt_other _ _ _ _ h

@[simp] theorem bank_setBank_same (ba : BitVec 3) (x : Option (BitVec 16)) : (s.setBank ba x).bank ba = x := by
  simp [State.bank, State.setBank]

theorem bank_setBank_other (ba bb : BitVec 3) (x : Option (BitVec 16)) (h : bb ≠ ba) :
    (s.setBank ba x).bank bb = s.bank bb := by
  refine putAt_other _ _ _ _ fun e => h ?_
  exact BitVec.eq_of_toNat_eq (congrArg Fin.val e)

/-! ### `assertLine` -/

@[simp] theorem assertLine_phase : (assertLine s).phase = s.phase := rfl

@[simp] theorem assertLine_wd : (assertLine s).wd = s.wd := rfl

@[simp] theorem assertLine_lc : (assertLine s).lc = s.lc := rfl

@[simp] theorem assertLine_prt : (assertLine s).prt = s.prt := rfl

@[simp] theorem assertLine_pss : (assertLine s).pss = s.pss := rfl

@[simp] theorem assertLine_sdu : (assertLine s).sdu = s.sdu := rfl

@[simp] theorem assertLine_vtu : (assertLine s).vtu = s.vtu := rfl

@[simp] theorem assertLine_sc : (assertLine s).sc = s.sc := rfl

@[simp] theorem assertLine_au : (assertLine s).au = s.au := rfl

@[simp] theorem assertLine_pending : (assertLine s).pending = s.pending := rfl

@[simp] theorem assertLine_ct_banks : (assertLine s).ct.banks = s.ct.banks := rfl

@[simp] theorem assertLine_ct_form : (assertLine s).ct.form = s.ct.form := rfl

@[simp] theorem assertLine_ct_unfollowed : (assertLine s).ct.unfollowed = s.ct.unfollowed := rfl

@[simp] theorem assertLine_ct_channel : (assertLine s).ct.channel = s.ct.channel := rfl

@[simp] theorem assertLine_ct_outstanding : (assertLine s).ct.outstanding = s.ct.outstanding := rfl

@[simp] theorem assertLine_ct_arr : (assertLine s).ct.arr = s.ct.arr := rfl

@[simp] theorem assertLine_ct_cke : (assertLine s).ct.cke = s.ct.cke := rfl

@[simp] theorem assertLine_ct_out : (assertLine s).ct.out = s.ct.out := rfl

@[simp] theorem assertLine_ct_drst : (assertLine s).ct.drst = s.ct.holds.headD 0 := rfl

@[simp] theorem assertLine_ct_holds : (assertLine s).ct.holds = s.ct.holds.tail := rfl

@[simp] theorem raise_status (c : Cause) : (s.raise c).au.status = s.au.status ||| c.bit := rfl

@[simp] theorem raise_enable (c : Cause) : (s.raise c).au.enable = s.au.enable := rfl

@[simp] theorem raise_warned (c : Cause) : (s.raise c).au.warned = s.au.warned := rfl

@[simp] theorem raise_capture (c : Cause) : (s.raise c).au.capture = s.au.capture := rfl

@[simp] theorem isDirty_markDirty_same (r : RecordId) : (s.markDirty r).isDirty r = true := by
  simp [State.isDirty, State.markDirty]

/-- The blocks that reading a slot, a lane, a child, a usage record or a curfew state depends on. -/
theorem slot_of_sdu (s t : State) (h : t.sdu = s.sdu) (i : Fin 4) : t.slot i = s.slot i := by
  simp [State.slot, h]

theorem lane_of_lc (s t : State) (h : t.lc = s.lc) (n : Fin 4) : t.lane n = s.lane n := by
  simp [State.lane, h]

theorem child_of_pss (s t : State) (h : t.pss = s.pss) (c : Fin 7) : t.child c = s.child c := by
  simp [State.child, h]

theorem usage_of_vtu (s t : State) (h : t.vtu = s.vtu) (c : Fin 7) : t.usage c = s.usage c := by
  simp [State.usage, h]

end Machine

end Sys2Proof
end

