-- ==== Sys2Proof/Laws/Shared.lean ====
section
/-! SUPPORT. One lemma for each shared operation that says once everything it can do: slots re-evaluated, a report made,
a reply posted, a commit started, a record taken. -/

namespace Sys2Proof.Machine

/-! ### Folds over slots and child profiles -/

/-- What every application for a slot keeps, the fold keeps. -/
theorem forSlots_induct {P : State → Prop} (f : Fin 4 → State → State) (h : ∀ i s, P s → P (f i s)) (s : State)
    (hs : P s) : P (forSlots f s) := by
  unfold forSlots
  generalize slotList = l
  induction l generalizing s with
  | nil => exact hs
  | cons i l ih => exact ih _ (h i s hs)

/-- What every application for a child keeps, the fold keeps. -/
theorem forChildren_induct {P : State → Prop} (f : Fin 7 → State → State) (h : ∀ c s, P s → P (f c s)) (s : State)
    (hs : P s) : P (forChildren f s) := by
  unfold forChildren
  generalize childList = l
  induction l generalizing s with
  | nil => exact hs
  | cons i l ih => exact ih _ (h i s hs)

/-! ### What re-evaluations leave -/

/-- Between `s` and `t` nothing changed but slot records and, in the attention status, DECISION (R112, R113). -/
structure OnlySlots (s t : State) : Prop where
  phase : t.phase = s.phase
  ct : t.ct = s.ct
  wd : t.wd = s.wd
  lc : t.lc = s.lc
  prt : t.prt = s.prt
  pss : t.pss = s.pss
  vtu : t.vtu = s.vtu
  sc : t.sc = s.sc
  pending : t.pending = s.pending
  enable : t.au.enable = s.au.enable
  warned : t.au.warned = s.au.warned
  capture : t.au.capture = s.au.capture
  status : t.au.status = s.au.status ∨ t.au.status = s.au.status ||| Cause.decision.bit

theorem OnlySlots.refl (s : State) : OnlySlots s s :=
  ⟨rfl, rfl, rfl, rfl, rfl, rfl, rfl, rfl, rfl, rfl, rfl, rfl, .inl rfl⟩

theorem OnlySlots.trans {s t u : State} (a : OnlySlots s t) (b : OnlySlots t u) : OnlySlots s u where
  phase := b.phase.trans a.phase
  ct := b.ct.trans a.ct
  wd := b.wd.trans a.wd
  lc := b.lc.trans a.lc
  prt := b.prt.trans a.prt
  pss := b.pss.trans a.pss
  vtu := b.vtu.trans a.vtu
  sc := b.sc.trans a.sc
  pending := b.pending.trans a.pending
  enable := b.enable.trans a.enable
  warned := b.warned.trans a.warned
  capture := b.capture.trans a.capture
  status := by
    rcases a.status with h | h <;> rcases b.status with g | g <;> simp [h, g, BitVec.or_assoc]

theorem onlySlots_setSlot (s : State) (i : Fin 4) (x : Slot) : OnlySlots s (s.setSlot i x) :=
  ⟨rfl, rfl, rfl, rfl, rfl, rfl, rfl, rfl, rfl, rfl, rfl, rfl, .inl rfl⟩

/-- Placing a slot record touches its slot's record and, in the attention status, DECISION (R112). -/
theorem onlySlots_placeSlot (i : Fin 4) (y : Slot) (s : State) : OnlySlots s (placeSlot i y s) := by
  unfold placeSlot
  simp only
  split
  · exact onlySlots_setSlot s i y
  · have h := onlySlots_setSlot s i y
    exact { h with status := .inr rfl }

@[simp] theorem placeSlot_slot (i : Fin 4) (y : Slot) (s : State) : (placeSlot i y s).slot i = y := by
  unfold placeSlot
  simp only
  split
  · simp
  · exact slot_setSlot_same s i _

theorem placeSlot_slot_other (i j : Fin 4) (y : Slot) (s : State) (h : j ≠ i) :
    (placeSlot i y s).slot j = s.slot j := by
  unfold placeSlot
  simp only
  split <;> exact slot_setSlot_other s i j _ h

/-- DECISION is raised exactly where the decision or its reason differs from the one the slot held (R112). -/
theorem placeSlot_status (i : Fin 4) (y : Slot) (s : State) :
    (placeSlot i y s).au.status
      = if y.decision = (s.slot i).decision then s.au.status else s.au.status ||| Cause.decision.bit := by
  unfold placeSlot
  simp only
  split <;> rfl

/-- A re-evaluation of slot `i` on a record `x`: the slot becomes what the five steps make of `x` (R113). -/
@[simp] theorem reevaluateAs_slot (i : Fin 4) (x : Slot) (s : State) :
    (reevaluateAs i x s).slot i = reevaluated s x := placeSlot_slot i _ s

theorem reevaluateAs_slot_other (i j : Fin 4) (x : Slot) (s : State) (h : j ≠ i) :
    (reevaluateAs i x s).slot j = s.slot j := placeSlot_slot_other i j _ s h

theorem reevaluateAs_status (i : Fin 4) (x : Slot) (s : State) :
    (reevaluateAs i x s).au.status
      = if (reevaluated s x).decision = (s.slot i).decision then s.au.status
        else s.au.status ||| Cause.decision.bit := placeSlot_status i _ s

theorem onlySlots_reevaluateAs (i : Fin 4) (x : Slot) (s : State) : OnlySlots s (reevaluateAs i x s) :=
  onlySlots_placeSlot i _ s

theorem onlySlots_expireUnlock (i : Fin 4) (s : State) : OnlySlots s (expireUnlock i s) := onlySlots_placeSlot i _ s

@[simp] theorem expireUnlock_slot (i : Fin 4) (s : State) :
    (expireUnlock i s).slot i = reevaluatedAt (expiryPosition i s) s { s.slot i with unlock := none } :=
  placeSlot_slot i _ s

/-- An unlock that expires while its slot's boundary waits leaves the slot on its event and boundary (R121; log 30). -/
theorem expiryPosition_waiting (i : Fin 4) (s : State) (e : Entry) (hd : boundaryDue i s = true)
    (he : (s.slot i).current.bind (entryOfKey s.prt.entries) = some e) :
    expiryPosition i s = (some e, (s.slot i).boundary) := by
  simp [expiryPosition, he, hd]

theorem onlySlots_reevaluateWhere (hit : Slot → Bool) (s : State) : OnlySlots s (reevaluateWhere hit s) := by
  refine forSlots_induct (P := OnlySlots s) _ (fun i t h => ?_) s (OnlySlots.refl s)
  split
  · exact h.trans (onlySlots_reevaluateAs i _ t)
  · exact h

theorem onlySlots_reportProfile (p : Fin 8) (s : State) : OnlySlots s (reportProfile p s) :=
  onlySlots_reevaluateWhere _ s

theorem onlySlots_reportServices (l : List Nat) (s : State) : OnlySlots s (reportServices l s) :=
  onlySlots_reevaluateWhere _ s

theorem onlySlots_reportServiceEntry (n : Nat) (s : State) : OnlySlots s (reportServiceEntry n s) :=
  onlySlots_reevaluateWhere _ s

theorem onlySlots_applyPending (i : Fin 4) (s : State) : OnlySlots s (applyPending i s) := by
  unfold applyPending
  split
  · exact OnlySlots.refl s
  · exact onlySlots_reevaluateAs i _ s

theorem onlySlots_takeFrameStart (i : Fin 4) (s : State) : OnlySlots s (takeFrameStart i s) :=
  (onlySlots_setSlot s i _).trans (onlySlots_applyPending i _)

theorem onlySlots_reportPicture (i : Fin 4) (b : Bool) (s : State) : OnlySlots s (reportPicture i b s) := by
  unfold reportPicture
  simp only
  split
  · exact onlySlots_setSlot s i _
  · exact ((onlySlots_setSlot s i _).trans (onlySlots_setSlot _ i _)).trans (onlySlots_applyPending i _)

/-- A re-evaluation, at whatever position, leaves what it does not set: item, bound profile, pending profile, picture
windows, frame count (R113). -/
theorem reevaluatedAt_basis (pos : Option Entry × Option Nat) (s : State) (x : Slot) :
    (reevaluatedAt pos s x).item = x.item ∧ (reevaluatedAt pos s x).bound = x.bound
      ∧ (reevaluatedAt pos s x).pending = x.pending ∧ (reevaluatedAt pos s x).picture = x.picture
      ∧ (reevaluatedAt pos s x).frames = x.frames :=
  ⟨rfl, rfl, rfl, rfl, rfl⟩

theorem reevaluated_basis (s : State) (x : Slot) :
    (reevaluated s x).item = x.item ∧ (reevaluated s x).bound = x.bound ∧ (reevaluated s x).pending = x.pending
      ∧ (reevaluated s x).picture = x.picture ∧ (reevaluated s x).frames = x.frames :=
  reevaluatedAt_basis _ s x

/-- The slot stands where step 1 found it. -/
@[simp] theorem reevaluatedAt_current (pos : Option Entry × Option Nat) (s : State) (x : Slot) :
    (reevaluatedAt pos s x).current = pos.1.map Entry.key := rfl

@[simp] theorem reevaluatedAt_boundary (pos : Option Entry × Option Nat) (s : State) (x : Slot) :
    (reevaluatedAt pos s x).boundary = pos.2 := rfl

/-- The enforcement a re-evaluation sets is the table of R110 on the decision it sets. -/
theorem reevaluatedAt_enforcement (pos : Option Entry × Option Nat) (s : State) (x : Slot) :
    (reevaluatedAt pos s x).enforcement
      = nextEnforcement (reevaluatedAt pos s x).decision x.picture x.enforcement := rfl

theorem reevaluated_enforcement (s : State) (x : Slot) :
    (reevaluated s x).enforcement = nextEnforcement (reevaluated s x).decision x.picture x.enforcement := rfl

/-- The table of R110: HIDING exactly where the decision does not permit. -/
theorem nextEnforcement_hiding (d : Decision) (p : Bool) (e : Enforcement) :
    nextEnforcement d p e = .hiding ↔ d.permits = false := by
  cases d <;> cases p <;> cases e <;> simp [nextEnforcement, Decision.permits]

/-- The table of R110: RELEASING only with picture windows. -/
theorem nextEnforcement_releasing (d : Decision) (p : Bool) (e : Enforcement)
    (h : nextEnforcement d p e = .releasing) : p = true := by
  cases d <;> cases p <;> cases e <;> simp_all [nextEnforcement, Decision.permits]

/-! ### Reports of misuse (R197) -/

theorem report_empty (s : State) (k : CaptureKind) (block : Nat) (bank : BitVec 3) (row col : Nat)
    (h : s.au.capture = none) :
    (s.report k block bank row col).au =
      { s.au with
        capture := some { kind := k, block := block, bank := bank, row := row, col := col, more := false }
        status := s.au.status ||| Cause.capture.bit } := by
  simp [State.report, h, State.raise]

theorem report_filled (s : State) (k : CaptureKind) (block : Nat) (bank : BitVec 3) (row col : Nat) (c : Capture)
    (h : s.au.capture = some c) :
    (s.report k block bank row col).au = { s.au with capture := some { c with more := true } } := by
  simp [State.report, h]

/-! ### The commit (R186) -/

/-- Starting a commit touches SC alone, and of it neither the settings nor FAULT-SEEN. -/
structure OnlyCommit (s t : State) : Prop where
  phase : t.phase = s.phase
  ct : t.ct = s.ct
  wd : t.wd = s.wd
  lc : t.lc = s.lc
  prt : t.prt = s.prt
  pss : t.pss = s.pss
  sdu : t.sdu = s.sdu
  vtu : t.vtu = s.vtu
  au : t.au = s.au
  pending : t.pending = s.pending
  settings : t.sc.settings = s.sc.settings
  faultSeen : t.sc.faultSeen = s.sc.faultSeen

theorem onlyCommit_beginWrite (r : RecordId) (s : State) : OnlyCommit s (beginWrite r s) := by
  cases r <;> exact ⟨rfl, rfl, rfl, rfl, rfl, rfl, rfl, rfl, rfl, rfl, rfl, rfl⟩

theorem onlyCommit_startCommit (s : State) : OnlyCommit s (startCommit s) := by
  unfold startCommit
  split
  · exact ⟨rfl, rfl, rfl, rfl, rfl, rfl, rfl, rfl, rfl, rfl, rfl, rfl⟩
  · simp only
    split
    · have h := onlyCommit_beginWrite ‹_› { s with sc.failed := Vector.replicate 18 false }
      exact ⟨h.phase, h.ct, h.wd, h.lc, h.prt, h.pss, h.sdu, h.vtu, h.au, h.pending, h.settings, h.faultSeen⟩
    · exact ⟨rfl, rfl, rfl, rfl, rfl, rfl, rfl, rfl, rfl, rfl, rfl, rfl⟩

@[simp] theorem beginWrite_writing (r : RecordId) (s : State) :
    (beginWrite r s).sc.writing = some (s.imageOf r) := by
  cases r <;> rfl

/-- Every record stands in the store order. -/
theorem mem_storeOrder (p : Fin 18) : ∃ r ∈ storeOrder, RecordId.place r = p := by
  revert p; decide

/-- Nothing is left to write exactly where every record is clean or has failed in the commit. -/
theorem nextDirty_none (s : State) (h : nextDirty s = none) (p : Fin 18) (hf : s.sc.failed[p] = false) :
    s.sc.dirty[p] = false := by
  obtain ⟨r, hr, rfl⟩ := mem_storeOrder p
  have := List.find?_eq_none.mp h r hr
  simpa [State.isDirty, hf] using this

/-- After the start of a commit no record is dirty without a write under way (R186). -/
theorem startCommit_settled (s : State) : (startCommit s).Settled := by
  unfold startCommit State.Settled
  split
  · simp_all
  · simp only
    split
    · simp
    · rename_i h
      intro _ p
      have := nextDirty_none _ h p (by simp)
      simpa using this

/-- With a commit running, or nothing dirty, no commit starts (R186). -/
theorem startCommit_of_settled (s : State) (h : s.Settled) : startCommit s = s := by
  unfold startCommit
  split
  · rfl
  · rename_i hw
    have hd := h hw
    simp only
    split
    · rename_i r hr
      have := List.find?_some hr
      simp only [State.isDirty, Bool.and_eq_true] at this
      exact absurd this.1 (by simp [hd])
    · rfl

/-! ### The channel commands (R1, R2, R22) -/

/-- What a command drives on the lines is what CT reads its group from: each command's own effect. -/
@[simp] theorem commandEffect_open (ba : BitVec 3) (a : BitVec 16) (s : State) :
    commandEffect (commandLines false true true ba a) s = openBank ba a s := rfl

@[simp] theorem commandEffect_read (ba : BitVec 3) (a : BitVec 16) (s : State) :
    commandEffect (commandLines true false true ba a) s = columnCommand .read ba a s := rfl

@[simp] theorem commandEffect_write (ba : BitVec 3) (a : BitVec 16) (s : State) :
    commandEffect (commandLines true false false ba a) s = columnCommand .write ba a s := rfl

/-- Line 10 tells the two closes apart. -/
@[simp] theorem commandEffect_close (ba : BitVec 3) (a : BitVec 16) (s : State) :
    commandEffect (commandLines false true false ba a) s
      = if a.getLsbD 10 then closeBanks s else s.setBank ba none := rfl

@[simp] theorem commandEffect_refresh (ba : BitVec 3) (a : BitVec 16) (s : State) :
    commandEffect (commandLines false false true ba a) s = refreshBanks s := rfl

@[simp] theorem commandEffect_mode (ba : BitVec 3) (a : BitVec 16) (s : State) :
    commandEffect (commandLines false false false ba a) s = modeEffect ba a s := rfl

/-- The window's summary of a child profile is the bytes of the summary its owners hold (R53). -/
theorem profileLine_child (s : State) (c : Fin 7) : profileLine s (childNumber c) = (s.profileSummary c).bytes := by
  fin_cases c <;> rfl

/-- The summary of profile 0 is fixed (R53, R202). -/
@[simp] theorem profileLine_open (s : State) : profileLine s 0 = [1, 0, 0xFF, 0xFF] ++ List.replicate 28 0 := rfl

/-- Until start-up has ended the window reads as zero bytes (R51, R56). -/
theorem replyBlock_starting (s : State) (offset size : Nat) (h : s.isRunning = false) :
    replyBlock s offset size = List.replicate size 0 := by
  simp [replyBlock, h]

/-- A command CT decodes drives its lines and has its effect (R1, R2). -/
theorem present_decoded (l : Lines) (s : State) (h : s.decodes = true) :
    present l s = commandEffect l (driveLines l s) := by
  simp [present, h]

/-- A command CT does not decode passes, and counts down the DRAM reset line's assertion (R1, R22; log 9). -/
theorem present_passed (l : Lines) (s : State) (h : s.decodes = false) :
    present l s = { s with ct.out.lines := some l, ct.drst := s.ct.drst - 1 } := by
  simp [present, h, passUntracked, driveLines]

/-- Nothing is decoded while CT does not follow the channel (R2, R22). -/
theorem decodes_of_untracked (s : State) (h : s.tracks = false) : s.decodes = false := by
  simp [State.decodes, h]

/-! ### Replies and taking (R44, R49) -/

@[simp] theorem postReply_otherLane (s : State) (n m : Fin 4) (tag : BitVec 16) (code out : Byte) (adj : Bool)
    (ring : Fin 64) (p : List Byte) (h : m ≠ n) :
    (s.postReply n tag code out adj ring p).lane m = s.lane m :=
  lane_setLane_other s n m _ h

/-- The lane a reply is posted on: its number rises by one and the entry stands at the number's index (R49). -/
theorem postReply_lane (s : State) (n : Fin 4) (tag : BitVec 16) (code out : Byte) (adj : Bool) (ring : Fin 64)
    (p : List Byte) :
    (s.postReply n tag code out adj ring p).lane n =
      { s.lane n with
        replyNo := (s.lane n).replyNo + 1
        ring := putAt (s.lane n).ring (nextIndex s n)
          { number := (s.lane n).replyNo + 1, tag := tag, code := code, outcome := out, adjusted := adj,
            ringSlot := ring, payload := fit 24 p } } := by
  simp only [State.postReply]
  exact lane_setLane_same s n _

@[simp] theorem postReply_status (s : State) (n : Fin 4) (tag : BitVec 16) (code out : Byte) (adj : Bool)
    (ring : Fin 64) (p : List Byte) :
    (s.postReply n tag code out adj ring p).au.status = s.au.status ||| Cause.reply.bit := rfl

@[simp] theorem advanceLane_lane (n : Fin 4) (s : State) : (advanceLane n s).lane n = (s.lane n).advance := by
  simp [advanceLane]

theorem advanceLane_otherLane (n m : Fin 4) (s : State) (h : m ≠ n) : (advanceLane n s).lane m = s.lane m :=
  lane_setLane_other s n m _ h

/-- A lane with its expected buffer open takes nothing (R44). -/
theorem takeOne_open (lane : Fin 4) (s : State) (h : (s.lane lane).cur.closed = false) : takeOne lane s = s := by
  simp [takeOne, h]

theorem takeHeld_open (lane : Fin 4) (s : State) (h : (s.lane lane).cur.closed = false) : takeHeld lane s = s := by
  simp [takeHeld, takeOne_open _ _ h]

/-- With no record held, no lane takes one, whatever the order (R44). -/
theorem takeAll_open (order : List (Fin 4)) (s : State) (h : ∀ n : Fin 4, (s.lane n).cur.closed = false) :
    takeAll order s = s := by
  have first : order.foldl (fun t lane => takeOne lane t) s = s := by
    induction order with
    | nil => rfl
    | cons lane rest ih => rw [List.foldl_cons, takeOne_open _ _ (h lane)]; exact ih
  simp [takeAll, first, slotList, takeHeld_open, h]

/-- A MODE LOAD that ends PASS-ONLY changes nothing more where no record waits (R44, R195; log 36). -/
theorem resumeTaking_open (s : State) (h : s.NothingWaits) : resumeTaking s = s := by
  unfold resumeTaking
  split
  · next running => exact takeAll_open _ _ (h (of_decide_eq_true running))
  · rfl

end Sys2Proof.Machine
end

