-- ==== Sys2Proof/Laws/Fields.lean ====
section
/-! SUPPORT. The fields that a re-evaluation, a report to SDU and the start of a commit leave: one lemma for each, tagged
for the simplifier. -/

namespace Sys2Proof.Machine

variable (s : State)

/-! ### Answers to a record -/

@[simp] theorem accept_state (adjusted : Bool) (p : List Byte) : (accept s adjusted p).state = s := rfl

@[simp] theorem accept_payload (adjusted : Bool) (p : List Byte) : (accept s adjusted p).payload = p := rfl

@[simp] theorem accept_code (adjusted : Bool) (p : List Byte) :
    (accept s adjusted p).code = if adjusted then .adjusted else .ok := rfl

@[simp] theorem refuse_state (c : ReplyCode) (p : List Byte) : (refuse s c p).state = s := rfl

@[simp] theorem refuse_payload (c : ReplyCode) (p : List Byte) : (refuse s c p).payload = p := rfl

@[simp] theorem refuse_code (c : ReplyCode) (p : List Byte) : (refuse s c p).code = c := rfl

/-! ### `reevaluateAs` -/

@[simp] theorem reevaluateAs_phase (i : Fin 4) (x : Slot) :
    (reevaluateAs i x s).phase = s.phase := (onlySlots_reevaluateAs i x s).phase

@[simp] theorem reevaluateAs_ct (i : Fin 4) (x : Slot) :
    (reevaluateAs i x s).ct = s.ct := (onlySlots_reevaluateAs i x s).ct

@[simp] theorem reevaluateAs_wd (i : Fin 4) (x : Slot) :
    (reevaluateAs i x s).wd = s.wd := (onlySlots_reevaluateAs i x s).wd

@[simp] theorem reevaluateAs_lc (i : Fin 4) (x : Slot) :
    (reevaluateAs i x s).lc = s.lc := (onlySlots_reevaluateAs i x s).lc

@[simp] theorem reevaluateAs_prt (i : Fin 4) (x : Slot) :
    (reevaluateAs i x s).prt = s.prt := (onlySlots_reevaluateAs i x s).prt

@[simp] theorem reevaluateAs_pss (i : Fin 4) (x : Slot) :
    (reevaluateAs i x s).pss = s.pss := (onlySlots_reevaluateAs i x s).pss

@[simp] theorem reevaluateAs_vtu (i : Fin 4) (x : Slot) :
    (reevaluateAs i x s).vtu = s.vtu := (onlySlots_reevaluateAs i x s).vtu

@[simp] theorem reevaluateAs_sc (i : Fin 4) (x : Slot) :
    (reevaluateAs i x s).sc = s.sc := (onlySlots_reevaluateAs i x s).sc

@[simp] theorem reevaluateAs_pending (i : Fin 4) (x : Slot) :
    (reevaluateAs i x s).pending = s.pending := (onlySlots_reevaluateAs i x s).pending

@[simp] theorem reevaluateAs_enable (i : Fin 4) (x : Slot) :
    (reevaluateAs i x s).au.enable = s.au.enable := (onlySlots_reevaluateAs i x s).enable

@[simp] theorem reevaluateAs_warned (i : Fin 4) (x : Slot) :
    (reevaluateAs i x s).au.warned = s.au.warned := (onlySlots_reevaluateAs i x s).warned

@[simp] theorem reevaluateAs_capture (i : Fin 4) (x : Slot) :
    (reevaluateAs i x s).au.capture = s.au.capture := (onlySlots_reevaluateAs i x s).capture

/-! ### `reevaluateWhere` -/

@[simp] theorem reevaluateWhere_phase (hit : Slot → Bool) :
    (reevaluateWhere hit s).phase = s.phase := (onlySlots_reevaluateWhere hit s).phase

@[simp] theorem reevaluateWhere_ct (hit : Slot → Bool) :
    (reevaluateWhere hit s).ct = s.ct := (onlySlots_reevaluateWhere hit s).ct

@[simp] theorem reevaluateWhere_wd (hit : Slot → Bool) :
    (reevaluateWhere hit s).wd = s.wd := (onlySlots_reevaluateWhere hit s).wd

@[simp] theorem reevaluateWhere_lc (hit : Slot → Bool) :
    (reevaluateWhere hit s).lc = s.lc := (onlySlots_reevaluateWhere hit s).lc

@[simp] theorem reevaluateWhere_prt (hit : Slot → Bool) :
    (reevaluateWhere hit s).prt = s.prt := (onlySlots_reevaluateWhere hit s).prt

@[simp] theorem reevaluateWhere_pss (hit : Slot → Bool) :
    (reevaluateWhere hit s).pss = s.pss := (onlySlots_reevaluateWhere hit s).pss

@[simp] theorem reevaluateWhere_vtu (hit : Slot → Bool) :
    (reevaluateWhere hit s).vtu = s.vtu := (onlySlots_reevaluateWhere hit s).vtu

@[simp] theorem reevaluateWhere_sc (hit : Slot → Bool) :
    (reevaluateWhere hit s).sc = s.sc := (onlySlots_reevaluateWhere hit s).sc

@[simp] theorem reevaluateWhere_pending (hit : Slot → Bool) :
    (reevaluateWhere hit s).pending = s.pending := (onlySlots_reevaluateWhere hit s).pending

@[simp] theorem reevaluateWhere_enable (hit : Slot → Bool) :
    (reevaluateWhere hit s).au.enable = s.au.enable := (onlySlots_reevaluateWhere hit s).enable

@[simp] theorem reevaluateWhere_warned (hit : Slot → Bool) :
    (reevaluateWhere hit s).au.warned = s.au.warned := (onlySlots_reevaluateWhere hit s).warned

@[simp] theorem reevaluateWhere_capture (hit : Slot → Bool) :
    (reevaluateWhere hit s).au.capture = s.au.capture := (onlySlots_reevaluateWhere hit s).capture

/-! ### `reportProfile` -/

@[simp] theorem reportProfile_phase (p : Fin 8) :
    (reportProfile p s).phase = s.phase := (onlySlots_reportProfile p s).phase

@[simp] theorem reportProfile_ct (p : Fin 8) :
    (reportProfile p s).ct = s.ct := (onlySlots_reportProfile p s).ct

@[simp] theorem reportProfile_wd (p : Fin 8) :
    (reportProfile p s).wd = s.wd := (onlySlots_reportProfile p s).wd

@[simp] theorem reportProfile_lc (p : Fin 8) :
    (reportProfile p s).lc = s.lc := (onlySlots_reportProfile p s).lc

@[simp] theorem reportProfile_prt (p : Fin 8) :
    (reportProfile p s).prt = s.prt := (onlySlots_reportProfile p s).prt

@[simp] theorem reportProfile_pss (p : Fin 8) :
    (reportProfile p s).pss = s.pss := (onlySlots_reportProfile p s).pss

@[simp] theorem reportProfile_vtu (p : Fin 8) :
    (reportProfile p s).vtu = s.vtu := (onlySlots_reportProfile p s).vtu

@[simp] theorem reportProfile_sc (p : Fin 8) :
    (reportProfile p s).sc = s.sc := (onlySlots_reportProfile p s).sc

@[simp] theorem reportProfile_pending (p : Fin 8) :
    (reportProfile p s).pending = s.pending := (onlySlots_reportProfile p s).pending

@[simp] theorem reportProfile_enable (p : Fin 8) :
    (reportProfile p s).au.enable = s.au.enable := (onlySlots_reportProfile p s).enable

@[simp] theorem reportProfile_warned (p : Fin 8) :
    (reportProfile p s).au.warned = s.au.warned := (onlySlots_reportProfile p s).warned

@[simp] theorem reportProfile_capture (p : Fin 8) :
    (reportProfile p s).au.capture = s.au.capture := (onlySlots_reportProfile p s).capture

/-! ### `reportServices` -/

@[simp] theorem reportServices_phase (l : List Nat) :
    (reportServices l s).phase = s.phase := (onlySlots_reportServices l s).phase

@[simp] theorem reportServices_ct (l : List Nat) :
    (reportServices l s).ct = s.ct := (onlySlots_reportServices l s).ct

@[simp] theorem reportServices_wd (l : List Nat) :
    (reportServices l s).wd = s.wd := (onlySlots_reportServices l s).wd

@[simp] theorem reportServices_lc (l : List Nat) :
    (reportServices l s).lc = s.lc := (onlySlots_reportServices l s).lc

@[simp] theorem reportServices_prt (l : List Nat) :
    (reportServices l s).prt = s.prt := (onlySlots_reportServices l s).prt

@[simp] theorem reportServices_pss (l : List Nat) :
    (reportServices l s).pss = s.pss := (onlySlots_reportServices l s).pss

@[simp] theorem reportServices_vtu (l : List Nat) :
    (reportServices l s).vtu = s.vtu := (onlySlots_reportServices l s).vtu

@[simp] theorem reportServices_sc (l : List Nat) :
    (reportServices l s).sc = s.sc := (onlySlots_reportServices l s).sc

@[simp] theorem reportServices_pending (l : List Nat) :
    (reportServices l s).pending = s.pending := (onlySlots_reportServices l s).pending

@[simp] theorem reportServices_enable (l : List Nat) :
    (reportServices l s).au.enable = s.au.enable := (onlySlots_reportServices l s).enable

@[simp] theorem reportServices_warned (l : List Nat) :
    (reportServices l s).au.warned = s.au.warned := (onlySlots_reportServices l s).warned

@[simp] theorem reportServices_capture (l : List Nat) :
    (reportServices l s).au.capture = s.au.capture := (onlySlots_reportServices l s).capture

/-! ### `reportServiceEntry` -/

@[simp] theorem reportServiceEntry_phase (n : Nat) :
    (reportServiceEntry n s).phase = s.phase := (onlySlots_reportServiceEntry n s).phase

@[simp] theorem reportServiceEntry_ct (n : Nat) :
    (reportServiceEntry n s).ct = s.ct := (onlySlots_reportServiceEntry n s).ct

@[simp] theorem reportServiceEntry_wd (n : Nat) :
    (reportServiceEntry n s).wd = s.wd := (onlySlots_reportServiceEntry n s).wd

@[simp] theorem reportServiceEntry_lc (n : Nat) :
    (reportServiceEntry n s).lc = s.lc := (onlySlots_reportServiceEntry n s).lc

@[simp] theorem reportServiceEntry_prt (n : Nat) :
    (reportServiceEntry n s).prt = s.prt := (onlySlots_reportServiceEntry n s).prt

@[simp] theorem reportServiceEntry_pss (n : Nat) :
    (reportServiceEntry n s).pss = s.pss := (onlySlots_reportServiceEntry n s).pss

@[simp] theorem reportServiceEntry_vtu (n : Nat) :
    (reportServiceEntry n s).vtu = s.vtu := (onlySlots_reportServiceEntry n s).vtu

@[simp] theorem reportServiceEntry_sc (n : Nat) :
    (reportServiceEntry n s).sc = s.sc := (onlySlots_reportServiceEntry n s).sc

@[simp] theorem reportServiceEntry_pending (n : Nat) :
    (reportServiceEntry n s).pending = s.pending := (onlySlots_reportServiceEntry n s).pending

@[simp] theorem reportServiceEntry_enable (n : Nat) :
    (reportServiceEntry n s).au.enable = s.au.enable := (onlySlots_reportServiceEntry n s).enable

@[simp] theorem reportServiceEntry_warned (n : Nat) :
    (reportServiceEntry n s).au.warned = s.au.warned := (onlySlots_reportServiceEntry n s).warned

@[simp] theorem reportServiceEntry_capture (n : Nat) :
    (reportServiceEntry n s).au.capture = s.au.capture := (onlySlots_reportServiceEntry n s).capture

/-! ### `applyPending` -/

@[simp] theorem applyPending_phase (i : Fin 4) :
    (applyPending i s).phase = s.phase := (onlySlots_applyPending i s).phase

@[simp] theorem applyPending_ct (i : Fin 4) :
    (applyPending i s).ct = s.ct := (onlySlots_applyPending i s).ct

@[simp] theorem applyPending_wd (i : Fin 4) :
    (applyPending i s).wd = s.wd := (onlySlots_applyPending i s).wd

@[simp] theorem applyPending_lc (i : Fin 4) :
    (applyPending i s).lc = s.lc := (onlySlots_applyPending i s).lc

@[simp] theorem applyPending_prt (i : Fin 4) :
    (applyPending i s).prt = s.prt := (onlySlots_applyPending i s).prt

@[simp] theorem applyPending_pss (i : Fin 4) :
    (applyPending i s).pss = s.pss := (onlySlots_applyPending i s).pss

@[simp] theorem applyPending_vtu (i : Fin 4) :
    (applyPending i s).vtu = s.vtu := (onlySlots_applyPending i s).vtu

@[simp] theorem applyPending_sc (i : Fin 4) :
    (applyPending i s).sc = s.sc := (onlySlots_applyPending i s).sc

@[simp] theorem applyPending_pending (i : Fin 4) :
    (applyPending i s).pending = s.pending := (onlySlots_applyPending i s).pending

@[simp] theorem applyPending_enable (i : Fin 4) :
    (applyPending i s).au.enable = s.au.enable := (onlySlots_applyPending i s).enable

@[simp] theorem applyPending_warned (i : Fin 4) :
    (applyPending i s).au.warned = s.au.warned := (onlySlots_applyPending i s).warned

@[simp] theorem applyPending_capture (i : Fin 4) :
    (applyPending i s).au.capture = s.au.capture := (onlySlots_applyPending i s).capture

/-! ### `takeFrameStart` -/

@[simp] theorem takeFrameStart_phase (i : Fin 4) :
    (takeFrameStart i s).phase = s.phase := (onlySlots_takeFrameStart i s).phase

@[simp] theorem takeFrameStart_ct (i : Fin 4) :
    (takeFrameStart i s).ct = s.ct := (onlySlots_takeFrameStart i s).ct

@[simp] theorem takeFrameStart_wd (i : Fin 4) :
    (takeFrameStart i s).wd = s.wd := (onlySlots_takeFrameStart i s).wd

@[simp] theorem takeFrameStart_lc (i : Fin 4) :
    (takeFrameStart i s).lc = s.lc := (onlySlots_takeFrameStart i s).lc

@[simp] theorem takeFrameStart_prt (i : Fin 4) :
    (takeFrameStart i s).prt = s.prt := (onlySlots_takeFrameStart i s).prt

@[simp] theorem takeFrameStart_pss (i : Fin 4) :
    (takeFrameStart i s).pss = s.pss := (onlySlots_takeFrameStart i s).pss

@[simp] theorem takeFrameStart_vtu (i : Fin 4) :
    (takeFrameStart i s).vtu = s.vtu := (onlySlots_takeFrameStart i s).vtu

@[simp] theorem takeFrameStart_sc (i : Fin 4) :
    (takeFrameStart i s).sc = s.sc := (onlySlots_takeFrameStart i s).sc

@[simp] theorem takeFrameStart_pending (i : Fin 4) :
    (takeFrameStart i s).pending = s.pending := (onlySlots_takeFrameStart i s).pending

@[simp] theorem takeFrameStart_enable (i : Fin 4) :
    (takeFrameStart i s).au.enable = s.au.enable := (onlySlots_takeFrameStart i s).enable

@[simp] theorem takeFrameStart_warned (i : Fin 4) :
    (takeFrameStart i s).au.warned = s.au.warned := (onlySlots_takeFrameStart i s).warned

@[simp] theorem takeFrameStart_capture (i : Fin 4) :
    (takeFrameStart i s).au.capture = s.au.capture := (onlySlots_takeFrameStart i s).capture

/-! ### `reportPicture` -/

@[simp] theorem reportPicture_phase (i : Fin 4) (b : Bool) :
    (reportPicture i b s).phase = s.phase := (onlySlots_reportPicture i b s).phase

@[simp] theorem reportPicture_ct (i : Fin 4) (b : Bool) :
    (reportPicture i b s).ct = s.ct := (onlySlots_reportPicture i b s).ct

@[simp] theorem reportPicture_wd (i : Fin 4) (b : Bool) :
    (reportPicture i b s).wd = s.wd := (onlySlots_reportPicture i b s).wd

@[simp] theorem reportPicture_lc (i : Fin 4) (b : Bool) :
    (reportPicture i b s).lc = s.lc := (onlySlots_reportPicture i b s).lc

@[simp] theorem reportPicture_prt (i : Fin 4) (b : Bool) :
    (reportPicture i b s).prt = s.prt := (onlySlots_reportPicture i b s).prt

@[simp] theorem reportPicture_pss (i : Fin 4) (b : Bool) :
    (reportPicture i b s).pss = s.pss := (onlySlots_reportPicture i b s).pss

@[simp] theorem reportPicture_vtu (i : Fin 4) (b : Bool) :
    (reportPicture i b s).vtu = s.vtu := (onlySlots_reportPicture i b s).vtu

@[simp] theorem reportPicture_sc (i : Fin 4) (b : Bool) :
    (reportPicture i b s).sc = s.sc := (onlySlots_reportPicture i b s).sc

@[simp] theorem reportPicture_pending (i : Fin 4) (b : Bool) :
    (reportPicture i b s).pending = s.pending := (onlySlots_reportPicture i b s).pending

@[simp] theorem reportPicture_enable (i : Fin 4) (b : Bool) :
    (reportPicture i b s).au.enable = s.au.enable := (onlySlots_reportPicture i b s).enable

@[simp] theorem reportPicture_warned (i : Fin 4) (b : Bool) :
    (reportPicture i b s).au.warned = s.au.warned := (onlySlots_reportPicture i b s).warned

@[simp] theorem reportPicture_capture (i : Fin 4) (b : Bool) :
    (reportPicture i b s).au.capture = s.au.capture := (onlySlots_reportPicture i b s).capture

/-! ### `startCommit` -/

@[simp] theorem startCommit_phase : (startCommit s).phase = s.phase := (onlyCommit_startCommit s).phase

@[simp] theorem startCommit_ct : (startCommit s).ct = s.ct := (onlyCommit_startCommit s).ct

@[simp] theorem startCommit_wd : (startCommit s).wd = s.wd := (onlyCommit_startCommit s).wd

@[simp] theorem startCommit_lc : (startCommit s).lc = s.lc := (onlyCommit_startCommit s).lc

@[simp] theorem startCommit_prt : (startCommit s).prt = s.prt := (onlyCommit_startCommit s).prt

@[simp] theorem startCommit_pss : (startCommit s).pss = s.pss := (onlyCommit_startCommit s).pss

@[simp] theorem startCommit_sdu : (startCommit s).sdu = s.sdu := (onlyCommit_startCommit s).sdu

@[simp] theorem startCommit_vtu : (startCommit s).vtu = s.vtu := (onlyCommit_startCommit s).vtu

@[simp] theorem startCommit_au : (startCommit s).au = s.au := (onlyCommit_startCommit s).au

@[simp] theorem startCommit_pending : (startCommit s).pending = s.pending := (onlyCommit_startCommit s).pending

@[simp] theorem startCommit_settings : (startCommit s).sc.settings = s.sc.settings := (onlyCommit_startCommit s).settings

@[simp] theorem startCommit_faultSeen : (startCommit s).sc.faultSeen = s.sc.faultSeen := (onlyCommit_startCommit s).faultSeen

/-! ### `beginWrite` -/

@[simp] theorem beginWrite_phase (r : RecordId) : (beginWrite r s).phase = s.phase := (onlyCommit_beginWrite r s).phase

@[simp] theorem beginWrite_ct (r : RecordId) : (beginWrite r s).ct = s.ct := (onlyCommit_beginWrite r s).ct

@[simp] theorem beginWrite_wd (r : RecordId) : (beginWrite r s).wd = s.wd := (onlyCommit_beginWrite r s).wd

@[simp] theorem beginWrite_lc (r : RecordId) : (beginWrite r s).lc = s.lc := (onlyCommit_beginWrite r s).lc

@[simp] theorem beginWrite_prt (r : RecordId) : (beginWrite r s).prt = s.prt := (onlyCommit_beginWrite r s).prt

@[simp] theorem beginWrite_pss (r : RecordId) : (beginWrite r s).pss = s.pss := (onlyCommit_beginWrite r s).pss

@[simp] theorem beginWrite_sdu (r : RecordId) : (beginWrite r s).sdu = s.sdu := (onlyCommit_beginWrite r s).sdu

@[simp] theorem beginWrite_vtu (r : RecordId) : (beginWrite r s).vtu = s.vtu := (onlyCommit_beginWrite r s).vtu

@[simp] theorem beginWrite_au (r : RecordId) : (beginWrite r s).au = s.au := (onlyCommit_beginWrite r s).au

@[simp] theorem beginWrite_pending (r : RecordId) : (beginWrite r s).pending = s.pending := (onlyCommit_beginWrite r s).pending

@[simp] theorem beginWrite_settings (r : RecordId) : (beginWrite r s).sc.settings = s.sc.settings := (onlyCommit_beginWrite r s).settings

@[simp] theorem beginWrite_faultSeen (r : RecordId) : (beginWrite r s).sc.faultSeen = s.sc.faultSeen := (onlyCommit_beginWrite r s).faultSeen

end Sys2Proof.Machine
end

