-- ==== Sys2Proof/Laws/PerInstr.lean ====
section
/-! SUPPORT. What holds of every command as syntax, one lemma for each constructor. -/

namespace Sys2Proof.Laws

/-- A record command's body is as long as its code's body length, and no body is longer than the 50 bytes a record has for
it (R40, R200, R201). -/
def BodyLength.Statement (i : Instr) : Prop :=
  ∀ h code body, recordParts i = some (h, code, body) → i.wellFormed = true →
    body.length = (bodyLength code).getD 0 ∧ body.length ≤ 50

theorem BodyLength.bankOpen (ba : BitVec 3) (a : BitVec 16) : BodyLength.Statement (.bankOpen ba a) := by
  intro h code body e _
  exact absurd e.symm (Option.some_ne_none _)

theorem BodyLength.readBurst (ba : BitVec 3) (a : BitVec 16) : BodyLength.Statement (.readBurst ba a) := by
  intro h code body e _
  exact absurd e.symm (Option.some_ne_none _)

theorem BodyLength.writeBurst (ba : BitVec 3) (a : BitVec 16) : BodyLength.Statement (.writeBurst ba a) := by
  intro h code body e _
  exact absurd e.symm (Option.some_ne_none _)

theorem BodyLength.bankClose (ba : BitVec 3) (a : BitVec 16) : BodyLength.Statement (.bankClose ba a) := by
  intro h code body e _
  exact absurd e.symm (Option.some_ne_none _)

theorem BodyLength.closeAll (ba : BitVec 3) (a : BitVec 16) : BodyLength.Statement (.closeAll ba a) := by
  intro h code body e _
  exact absurd e.symm (Option.some_ne_none _)

theorem BodyLength.refresh (ba : BitVec 3) (a : BitVec 16) : BodyLength.Statement (.refresh ba a) := by
  intro h code body e _
  exact absurd e.symm (Option.some_ne_none _)

theorem BodyLength.modeLoad (ba : BitVec 3) (a : BitVec 16) : BodyLength.Statement (.modeLoad ba a) := by
  intro h code body e _
  exact absurd e.symm (Option.some_ne_none _)

theorem BodyLength.restEntry (ba : BitVec 3) (a : BitVec 16) : BodyLength.Statement (.restEntry ba a) := by
  intro h code body e _
  exact absurd e.symm (Option.some_ne_none _)

theorem BodyLength.restExit : BodyLength.Statement (.restExit) := by
  intro h code body e _
  exact absurd e.symm (Option.some_ne_none _)

theorem BodyLength.idleEntry (lines : Lines) : BodyLength.Statement (.idleEntry lines) := by
  intro h code body e _
  exact absurd e.symm (Option.some_ne_none _)

theorem BodyLength.idleExit : BodyLength.Statement (.idleExit) := by
  intro h code body e _
  exact absurd e.symm (Option.some_ne_none _)

theorem BodyLength.channelReset : BodyLength.Statement .channelReset := by
  intro h code body e _
  exact absurd e.symm (Option.some_ne_none _)

theorem BodyLength.dataBeat (dir : Dir) (index : Nat) (data : BitVec 32) (mask : BitVec 4) :
    BodyLength.Statement (.dataBeat dir index data mask) := by
  intro h code body e _
  exact absurd e.symm (Option.some_ne_none _)

theorem BodyLength.lockoutExpiry : BodyLength.Statement (.lockoutExpiry) := by
  intro h code body e _
  exact absurd e.symm (Option.some_ne_none _)

theorem BodyLength.unknownCommand (h : Header) (code : Byte) : BodyLength.Statement (.unknownCommand h code) := by
  intro h code body e w
  cases Option.some.inj e
  have w : bodyLength code = none := Option.isNone_iff_eq_none.mp w
  exact ⟨by rw [w]; rfl, show 0 ≤ 50 by decide⟩

theorem BodyLength.readEvent (h : Header) (service : BitVec 16) (time : BitVec 32) :
    BodyLength.Statement (.readEvent h service time) := by
  intro h code body e _
  cases Option.some.inj e
  exact ⟨rfl, show 6 ≤ 50 by decide⟩

theorem BodyLength.ratingCheck (h : Header) (profile : Byte) (service : BitVec 16) (time : BitVec 32) :
    BodyLength.Statement (.ratingCheck h profile service time) := by
  intro h code body e _
  cases Option.some.inj e
  exact ⟨rfl, show 7 ≤ 50 by decide⟩

theorem BodyLength.readProfile (h : Header) (profile : Byte) (part : Byte) :
    BodyLength.Statement (.readProfile h profile part) := by
  intro h code body e _
  cases Option.some.inj e
  exact ⟨rfl, show 2 ≤ 50 by decide⟩

theorem BodyLength.readUsage (h : Header) (profile : Byte) : BodyLength.Statement (.readUsage h profile) := by
  intro h code body e _
  cases Option.some.inj e
  exact ⟨rfl, show 1 ≤ 50 by decide⟩

theorem BodyLength.readSlot (h : Header) (slot : Byte) : BodyLength.Statement (.readSlot h slot) := by
  intro h code body e _
  cases Option.some.inj e
  exact ⟨rfl, show 1 ≤ 50 by decide⟩

theorem BodyLength.readService (h : Header) (service : BitVec 16) :
    BodyLength.Statement (.readService h service) := by
  intro h code body e _
  cases Option.some.inj e
  exact ⟨rfl, show 2 ≤ 50 by decide⟩

theorem BodyLength.readCapture (h : Header) : BodyLength.Statement (.readCapture h) := by
  intro h code body e _
  cases Option.some.inj e
  exact ⟨rfl, show 0 ≤ 50 by decide⟩

theorem BodyLength.readWindow (h : Header) (index : Byte) (part : Byte) :
    BodyLength.Statement (.readWindow h index part) := by
  intro h code body e _
  cases Option.some.inj e
  exact ⟨rfl, show 2 ≤ 50 by decide⟩

theorem BodyLength.eventNotice (h : Header) (core : EventCore) : BodyLength.Statement (.eventNotice h core) := by
  intro h code body e _
  cases Option.some.inj e
  exact ⟨rfl, show 20 ≤ 50 by decide⟩

theorem BodyLength.eventWithdraw (h : Header) (service : BitVec 16) (event : BitVec 16) :
    BodyLength.Statement (.eventWithdraw h service event) := by
  intro h code body e _
  cases Option.some.inj e
  exact ⟨rfl, show 4 ≤ 50 by decide⟩

theorem BodyLength.serviceEventsClear (h : Header) (service : BitVec 16) :
    BodyLength.Statement (.serviceEventsClear h service) := by
  intro h code body e _
  cases Option.some.inj e
  exact ⟨rfl, show 2 ≤ 50 by decide⟩

theorem BodyLength.ingestBegin (h : Header) (start : BitVec 32) (count : BitVec 16) :
    BodyLength.Statement (.ingestBegin h start count) := by
  intro h code body e _
  cases Option.some.inj e
  exact ⟨rfl, show 6 ≤ 50 by decide⟩

theorem BodyLength.ingestAbort (h : Header) : BodyLength.Statement (.ingestAbort h) := by
  intro h code body e _
  cases Option.some.inj e
  exact ⟨rfl, show 0 ≤ 50 by decide⟩

theorem BodyLength.slotTune (h : Header) (slot : Byte) (kind : Byte) (item : Vector Byte 16) :
    BodyLength.Statement (.slotTune h slot kind item) := by
  intro h code body e _
  cases Option.some.inj e
  have l : (slot :: kind :: item.toList).length = 18 := by simp
  exact ⟨l, l.trans_le (by decide)⟩

theorem BodyLength.slotBind (h : Header) (slot : Byte) (profile : Byte) :
    BodyLength.Statement (.slotBind h slot profile) := by
  intro h code body e _
  cases Option.some.inj e
  exact ⟨rfl, show 2 ≤ 50 by decide⟩

theorem BodyLength.slotUnlock (h : Header) (slot : Byte) : BodyLength.Statement (.slotUnlock h slot) := by
  intro h code body e _
  cases Option.some.inj e
  exact ⟨rfl, show 1 ≤ 50 by decide⟩

theorem BodyLength.slotRelock (h : Header) (slot : Byte) : BodyLength.Statement (.slotRelock h slot) := by
  intro h code body e _
  cases Option.some.inj e
  exact ⟨rfl, show 1 ≤ 50 by decide⟩

theorem BodyLength.clockSet (h : Header) (wall : BitVec 32) (zone : BitVec 16) :
    BodyLength.Statement (.clockSet h wall zone) := by
  intro h code body e _
  cases Option.some.inj e
  exact ⟨rfl, show 6 ≤ 50 by decide⟩

theorem BodyLength.attentionSet (h : Header) (causes : BitVec 16) :
    BodyLength.Statement (.attentionSet h causes) := by
  intro h code body e _
  cases Option.some.inj e
  exact ⟨rfl, show 2 ≤ 50 by decide⟩

theorem BodyLength.attentionClear (h : Header) (causes : BitVec 16) :
    BodyLength.Statement (.attentionClear h causes) := by
  intro h code body e _
  cases Option.some.inj e
  exact ⟨rfl, show 2 ≤ 50 by decide⟩

theorem BodyLength.captureClear (h : Header) : BodyLength.Statement (.captureClear h) := by
  intro h code body e _
  cases Option.some.inj e
  exact ⟨rfl, show 0 ≤ 50 by decide⟩

theorem BodyLength.profileWrite (h : Header) (profile : Byte) (fields : ProfileFields) :
    BodyLength.Statement (.profileWrite h profile fields) := by
  intro h code body e _
  cases Option.some.inj e
  have l : (profile :: fields.bytes).length = 21 := by simp [ProfileFields.bytes, Machine.le16]
  exact ⟨l, l.trans_le (by decide)⟩

theorem BodyLength.profileCurfew (h : Header) (profile : Byte) (count : Byte) (windows : Vector CurfewField 4) :
    BodyLength.Statement (.profileCurfew h profile count windows) := by
  intro h code body e _
  cases Option.some.inj e
  exact ⟨rfl, show 22 ≤ 50 by decide⟩

theorem BodyLength.profileSuspend (h : Header) (profile : Byte) :
    BodyLength.Statement (.profileSuspend h profile) := by
  intro h code body e _
  cases Option.some.inj e
  exact ⟨rfl, show 1 ≤ 50 by decide⟩

theorem BodyLength.profileResume (h : Header) (profile : Byte) : BodyLength.Statement (.profileResume h profile) := by
  intro h code body e _
  cases Option.some.inj e
  exact ⟨rfl, show 1 ≤ 50 by decide⟩

theorem BodyLength.profileRemove (h : Header) (profile : Byte) : BodyLength.Statement (.profileRemove h profile) := by
  intro h code body e _
  cases Option.some.inj e
  exact ⟨rfl, show 1 ≤ 50 by decide⟩

theorem BodyLength.serviceWrite (h : Header) (service : BitVec 16) (rating0 : Byte) (rating1 : Byte) (category : Byte) (allow : Byte) (block : Byte) :
    BodyLength.Statement (.serviceWrite h service rating0 rating1 category allow block) := by
  intro h code body e _
  cases Option.some.inj e
  exact ⟨rfl, show 7 ≤ 50 by decide⟩

theorem BodyLength.serviceRemove (h : Header) (service : BitVec 16) :
    BodyLength.Statement (.serviceRemove h service) := by
  intro h code body e _
  cases Option.some.inj e
  exact ⟨rfl, show 2 ≤ 50 by decide⟩

theorem BodyLength.allowanceGrant (h : Header) (profile : Byte) (minutes : Byte) :
    BodyLength.Statement (.allowanceGrant h profile minutes) := by
  intro h code body e _
  cases Option.some.inj e
  exact ⟨rfl, show 2 ≤ 50 by decide⟩

theorem BodyLength.usageReset (h : Header) (profile : Byte) (week : Byte) :
    BodyLength.Statement (.usageReset h profile week) := by
  intro h code body e _
  cases Option.some.inj e
  exact ⟨rfl, show 2 ≤ 50 by decide⟩

theorem BodyLength.pinSet (h : Header) (newPin : Vector Byte 8) : BodyLength.Statement (.pinSet h newPin) := by
  intro h code body e _
  cases Option.some.inj e
  have l : newPin.toList.length = 8 := by simp
  exact ⟨l, l.trans_le (by decide)⟩

theorem BodyLength.lanePermit (h : Header) (lane : Byte) (classes : Byte) :
    BodyLength.Statement (.lanePermit h lane classes) := by
  intro h code body e _
  cases Option.some.inj e
  exact ⟨rfl, show 2 ≤ 50 by decide⟩

theorem BodyLength.settingsWrite (h : Header) (hold : Byte) (rollover : Byte) (weekend : Byte) (weekStart : Byte) (defaults : Vector Byte 4) :
    BodyLength.Statement (.settingsWrite h hold rollover weekend weekStart defaults) := by
  intro h code body e _
  cases Option.some.inj e
  have l : ([hold, rollover, weekend, weekStart] ++ defaults.toList).length = 8 := by simp
  exact ⟨l, l.trans_le (by decide)⟩

theorem BodyLength.windowDefine (h : Header) (index : Byte) (kind : Byte) (base : BitVec 32) (limit : BitVec 32) (slot : Byte) (guard : Byte) :
    BodyLength.Statement (.windowDefine h index kind base limit slot guard) := by
  intro h code body e _
  cases Option.some.inj e
  exact ⟨rfl, show 12 ≤ 50 by decide⟩

theorem BodyLength.windowRemove (h : Header) (index : Byte) : BodyLength.Statement (.windowRemove h index) := by
  intro h code body e _
  cases Option.some.inj e
  exact ⟨rfl, show 1 ≤ 50 by decide⟩

theorem BodyLength.windowLock (h : Header) : BodyLength.Statement (.windowLock h) := by
  intro h code body e _
  cases Option.some.inj e
  exact ⟨rfl, show 0 ≤ 50 by decide⟩

theorem BodyLength.fillTileWrite (h : Header) (half : Byte) (bytes : Vector Byte 32) :
    BodyLength.Statement (.fillTileWrite h half bytes) := by
  intro h code body e _
  cases Option.some.inj e
  have l : (half :: bytes.toList).length = 33 := by simp
  exact ⟨l, l.trans_le (by decide)⟩

theorem BodyLength.accountingTick : BodyLength.Statement (.accountingTick) := by
  intro h code body e _
  exact absurd e.symm (Option.some_ne_none _)

theorem BodyLength.extensionExpiry (child : Fin 7) : BodyLength.Statement (.extensionExpiry child) := by
  intro h code body e _
  exact absurd e.symm (Option.some_ne_none _)

theorem BodyLength.boundaryExpiry (slot : Fin 4) : BodyLength.Statement (.boundaryExpiry slot) := by
  intro h code body e _
  exact absurd e.symm (Option.some_ne_none _)

theorem BodyLength.holdExpiry (slot : Fin 4) : BodyLength.Statement (.holdExpiry slot) := by
  intro h code body e _
  exact absurd e.symm (Option.some_ne_none _)

theorem BodyLength.unlockExpiry (slot : Fin 4) : BodyLength.Statement (.unlockExpiry slot) := by
  intro h code body e _
  exact absurd e.symm (Option.some_ne_none _)

theorem BodyLength.pendingCountdown (slot : Fin 4) : BodyLength.Statement (.pendingCountdown slot) := by
  intro h code body e _
  exact absurd e.symm (Option.some_ne_none _)

theorem BodyLength.countdownExpiry (slot : Fin 4) : BodyLength.Statement (.countdownExpiry slot) := by
  intro h code body e _
  exact absurd e.symm (Option.some_ne_none _)

theorem BodyLength.recordingLengthExpiry (slot : Fin 4) : BodyLength.Statement (.recordingLengthExpiry slot) := by
  intro h code body e _
  exact absurd e.symm (Option.some_ne_none _)

theorem BodyLength.usageAgeExpiry (child : Fin 7) : BodyLength.Statement (.usageAgeExpiry child) := by
  intro h code body e _
  exact absurd e.symm (Option.some_ne_none _)

theorem BodyLength.storeWriteComplete : BodyLength.Statement (.storeWriteComplete) := by
  intro h code body e _
  exact absurd e.symm (Option.some_ne_none _)

theorem BodyLength.storeWriteFail : BodyLength.Statement (.storeWriteFail) := by
  intro h code body e _
  exact absurd e.symm (Option.some_ne_none _)

theorem BodyLength.partReset : BodyLength.Statement (.partReset) := by
  intro h code body e _
  exact absurd e.symm (Option.some_ne_none _)

theorem BodyLength.partResetRelease (arr : Bool) (cb : Byte) (fclr : Bool) :
    BodyLength.Statement (.partResetRelease arr cb fclr) := by
  intro h code body e _
  exact absurd e.symm (Option.some_ne_none _)

theorem BodyLength.startupEnd (order : List (Fin 4)) : BodyLength.Statement (.startupEnd order) := by
  intro h code body e _
  exact absurd e.symm (Option.some_ne_none _)

theorem BodyLength.startupSecond : BodyLength.Statement (.startupSecond) := by
  intro h code body e _
  exact absurd e.symm (Option.some_ne_none _)

end Sys2Proof.Laws
end

