-- ==== Sys2Proof/Laws/Viewing.lean ====
section
/-! SUPPORT. What the Viewing Time Unit's operations leave as it was: the blocks that the accounting tick, a rollover, a
restoration and the expiries of a second never touch, said once for each. -/

namespace Sys2Proof.Machine

/-- Between `s` and `t` nothing changed but the slots, VTU, the changed and dirty marks and the ages, the attention status
and the warned-profile set. -/
structure OnlyViewing (s t : State) : Prop where
  phase : t.phase = s.phase
  ct : t.ct = s.ct
  wd : t.wd = s.wd
  lc : t.lc = s.lc
  prt : t.prt = s.prt
  pss : t.pss = s.pss
  pending : t.pending = s.pending
  uptime : t.vtu.uptime = s.vtu.uptime
  clock : t.vtu.clock = s.vtu.clock
  tickDue : t.vtu.tickDue = s.vtu.tickDue
  settings : t.sc.settings = s.sc.settings
  store : t.sc.store = s.sc.store
  writing : t.sc.writing = s.sc.writing
  failed : t.sc.failed = s.sc.failed
  faultSeen : t.sc.faultSeen = s.sc.faultSeen
  enable : t.au.enable = s.au.enable
  capture : t.au.capture = s.au.capture

theorem OnlyViewing.refl (s : State) : OnlyViewing s s :=
  ⟨rfl, rfl, rfl, rfl, rfl, rfl, rfl, rfl, rfl, rfl, rfl, rfl, rfl, rfl, rfl, rfl, rfl⟩

theorem OnlyViewing.trans {s t u : State} (a : OnlyViewing s t) (b : OnlyViewing t u) : OnlyViewing s u :=
  ⟨b.phase.trans a.phase, b.ct.trans a.ct, b.wd.trans a.wd, b.lc.trans a.lc, b.prt.trans a.prt, b.pss.trans a.pss,
    b.pending.trans a.pending, b.uptime.trans a.uptime, b.clock.trans a.clock, b.tickDue.trans a.tickDue,
    b.settings.trans a.settings, b.store.trans a.store, b.writing.trans a.writing, b.failed.trans a.failed,
    b.faultSeen.trans a.faultSeen, b.enable.trans a.enable, b.capture.trans a.capture⟩

theorem OnlySlots.viewing {s t : State} (h : OnlySlots s t) : OnlyViewing s t :=
  ⟨h.phase, h.ct, h.wd, h.lc, h.prt, h.pss, h.pending, by rw [h.vtu], by rw [h.vtu], by rw [h.vtu], by rw [h.sc],
    by rw [h.sc], by rw [h.sc], by rw [h.sc], by rw [h.sc], h.enable, h.capture⟩

theorem onlyViewing_setUsage (s : State) (c : Fin 7) (u : Usage) : OnlyViewing s (s.setUsage c u) := by
  unfold State.setUsage
  split
  · exact OnlyViewing.refl s
  · exact ⟨rfl, rfl, rfl, rfl, rfl, rfl, rfl, rfl, rfl, rfl, rfl, rfl, rfl, rfl, rfl, rfl, rfl⟩

theorem onlyViewing_setCurfew (s : State) (c : Fin 7) (b : Bool) : OnlyViewing s (s.setCurfew c b) :=
  ⟨rfl, rfl, rfl, rfl, rfl, rfl, rfl, rfl, rfl, rfl, rfl, rfl, rfl, rfl, rfl, rfl, rfl⟩

theorem onlyViewing_markDirty (s : State) (r : RecordId) : OnlyViewing s (s.markDirty r) :=
  ⟨rfl, rfl, rfl, rfl, rfl, rfl, rfl, rfl, rfl, rfl, rfl, rfl, rfl, rfl, rfl, rfl, rfl⟩

theorem onlyViewing_raise (s : State) (c : Cause) : OnlyViewing s (s.raise c) :=
  ⟨rfl, rfl, rfl, rfl, rfl, rfl, rfl, rfl, rfl, rfl, rfl, rfl, rfl, rfl, rfl, rfl, rfl⟩

theorem onlyViewing_addWarned (s : State) (p : Fin 8) : OnlyViewing s (s.addWarned p) :=
  ⟨rfl, rfl, rfl, rfl, rfl, rfl, rfl, rfl, rfl, rfl, rfl, rfl, rfl, rfl, rfl, rfl, rfl⟩

theorem onlyViewing_setAcct (s : State) (a : Option Acct) : OnlyViewing s { s with vtu.acct := a } :=
  ⟨rfl, rfl, rfl, rfl, rfl, rfl, rfl, rfl, rfl, rfl, rfl, rfl, rfl, rfl, rfl, rfl, rfl⟩

theorem onlyViewing_forChildren (f : Fin 7 → State → State) (h : ∀ c s, OnlyViewing s (f c s)) (s : State) :
    OnlyViewing s (forChildren f s) :=
  forChildren_induct (P := OnlyViewing s) f (fun c t ht => ht.trans (h c t)) s (OnlyViewing.refl s)

theorem onlyViewing_forSlots (f : Fin 4 → State → State) (h : ∀ i s, OnlyViewing s (f i s)) (s : State) :
    OnlyViewing s (forSlots f s) :=
  forSlots_induct (P := OnlyViewing s) f (fun c t ht => ht.trans (h c t)) s (OnlyViewing.refl s)

theorem onlyViewing_recomputeCurfew (c : Fin 7) (s : State) : OnlyViewing s (recomputeCurfew c s) := by
  unfold recomputeCurfew
  split
  · exact onlyViewing_setCurfew s c _
  · exact OnlyViewing.refl s

theorem onlyViewing_recomputeCurfews (s : State) : OnlyViewing s (recomputeCurfews s) :=
  onlyViewing_forChildren _ onlyViewing_recomputeCurfew s

theorem onlyViewing_warningTest (c : Fin 7) (s : State) : OnlyViewing s (warningTest c s) := by
  unfold warningTest
  split
  · exact ((onlyViewing_setUsage s c _).trans (onlyViewing_addWarned _ _)).trans (onlyViewing_raise _ _)
  · exact OnlyViewing.refl s

theorem onlyViewing_grantExtension (c : Fin 7) (s : State) : OnlyViewing s (grantExtension c s) := by
  unfold grantExtension
  split
  · exact OnlyViewing.refl s
  · exact onlyViewing_setUsage s c _

theorem onlyViewing_exhaustionTest (c : Fin 7) (s : State) : OnlyViewing s (exhaustionTest c s) := by
  unfold exhaustionTest
  split
  · exact (((onlyViewing_setUsage s c _).trans (onlyViewing_raise _ _)).trans
      (onlyViewing_grantExtension c _)).trans (onlyViewing_markDirty _ _)
  · exact OnlyViewing.refl s

/-- One child profile's part of the tick touches VTU, its marks and the causes alone (R135 part 2). -/
theorem onlyViewing_tickChild (c : Fin 7) (s : State) : OnlyViewing s (tickChild c s) := by
  unfold tickChild
  split
  · exact ((onlyViewing_setUsage s c _).trans (onlyViewing_warningTest c _)).trans (onlyViewing_exhaustionTest c _)
  · exact OnlyViewing.refl s

/-- Restoration (R144). -/
theorem onlyViewing_restore (c : Fin 7) (s : State) : OnlyViewing s (restore c s) := by
  unfold restore
  split
  · simp only
    split
    · exact ((onlyViewing_setUsage s c _).trans (onlyViewing_markDirty _ _)).trans (onlySlots_reportProfile _ _).viewing
    · exact (onlyViewing_setUsage s c _).trans (onlyViewing_markDirty _ _)
  · exact OnlyViewing.refl s

/-- The lowering of a carry (R86 step 1). -/
theorem onlyViewing_lowerCarry (c : Fin 7) (s : State) : OnlyViewing s (lowerCarry c s) := by
  unfold lowerCarry
  split
  · exact (onlyViewing_setUsage s c _).trans (onlyViewing_markDirty _ _)
  · exact OnlyViewing.refl s

theorem onlyViewing_dayRollover (day : Nat) (a : Acct) (s : State) : OnlyViewing s (dayRollover day a s) := by
  refine OnlyViewing.trans (OnlyViewing.trans
    (onlyViewing_forChildren (fun c t => if (t.child c).valid then _ else t) (fun c t => ?_) s)
    (onlyViewing_forChildren (fun c t => t.markDirty (.usage c)) (fun c t => onlyViewing_markDirty t _) _))
    (onlyViewing_setAcct _ _)
  split
  · exact onlyViewing_setUsage t c _
  · exact OnlyViewing.refl t

theorem onlyViewing_weekRollover (s : State) : OnlyViewing s (weekRollover s) := by
  unfold weekRollover
  split
  · exact OnlyViewing.refl s
  · simp only
    split
    · refine OnlyViewing.trans (onlyViewing_forChildren _ (fun c t => ?_) s) (onlyViewing_setAcct _ _)
      split
      · exact onlyViewing_setUsage t c _
      · exact OnlyViewing.refl t
    · exact OnlyViewing.refl s

/-- The rollover check (R148 to R150). -/
theorem onlyViewing_rolloverCheck (s : State) : OnlyViewing s (rolloverCheck s) := by
  unfold rolloverCheck
  split
  · exact OnlyViewing.refl s
  · simp only
    split
    · exact onlyViewing_setAcct s _
    · split
      · exact (onlyViewing_dayRollover _ _ s).trans (onlyViewing_weekRollover _)
      · exact OnlyViewing.refl s

theorem onlyViewing_zeroFrames (s : State) : OnlyViewing s (zeroFrames s) :=
  onlyViewing_forSlots _ (fun i t => (onlySlots_setSlot t i _).viewing) s

theorem onlyViewing_reportDiffering (s t : State) : OnlyViewing t (reportDiffering s t) := by
  refine onlyViewing_forChildren _ (fun c u => ?_) t
  split
  · exact (onlySlots_reportProfile _ _).viewing
  · exact OnlyViewing.refl u

/-- The accounting tick (R135). -/
theorem onlyViewing_tickBody (s : State) : OnlyViewing s (tickBody s) := by
  refine OnlyViewing.trans ?_ (onlyViewing_reportDiffering s _)
  unfold tickBeforeReports
  have h := ((onlyViewing_rolloverCheck s).trans (onlyViewing_forChildren _ onlyViewing_tickChild _)).trans
    (onlyViewing_zeroFrames _)
  simp only
  split
  · exact h.trans (onlyViewing_recomputeCurfews _)
  · exact h

end Sys2Proof.Machine
end

