-- ==== Sys2Proof/Laws/Taking.lean ====
section
/-! SUPPORT. What the taking of a record comes to: a command's own effect leaves every lane's buffers, expected ring slot
and toggle as they stand, so that a record closed in a listening lane is taken at once and nothing after it. -/

namespace Sys2Proof.Machine

/-- A lane's place and buffers are as they were; its classes, its ring and its reply number may differ. -/
structure SamePlace (l m : Lane) : Prop where
  expected : m.expected = l.expected
  toggle : m.toggle = l.toggle
  cur : m.cur = l.cur
  nxt : m.nxt = l.nxt

/-- What every record command's effect keeps: the phase, the channel, the queue and the lanes' places. -/
structure ActKeeps (s t : State) : Prop where
  phase : t.phase = s.phase
  ct : t.ct = s.ct
  pending : t.pending = s.pending
  places : ∀ n : Fin 4, SamePlace (s.lane n) (t.lane n)

theorem SamePlace.refl (l : Lane) : SamePlace l l := ⟨rfl, rfl, rfl, rfl⟩

theorem SamePlace.trans {l m n : Lane} (a : SamePlace l m) (b : SamePlace m n) : SamePlace l n :=
  ⟨b.expected.trans a.expected, b.toggle.trans a.toggle, b.cur.trans a.cur, b.nxt.trans a.nxt⟩

theorem ActKeeps.refl (s : State) : ActKeeps s s := ⟨rfl, rfl, rfl, fun _ => .refl _⟩

theorem ActKeeps.trans {s t u : State} (a : ActKeeps s t) (b : ActKeeps t u) : ActKeeps s u :=
  ⟨b.phase.trans a.phase, b.ct.trans a.ct, b.pending.trans a.pending, fun n => (a.places n).trans (b.places n)⟩

/-- An effect that leaves the lanes whole keeps their places. -/
theorem actKeeps_of_lc {s t : State} (hp : t.phase = s.phase) (hc : t.ct = s.ct) (hq : t.pending = s.pending)
    (hl : t.lc = s.lc) : ActKeeps s t :=
  ⟨hp, hc, hq, fun n => by rw [lane_of_lc s t hl n]; exact .refl _⟩

theorem OnlyViewing.keeps {s t : State} (h : OnlyViewing s t) : ActKeeps s t :=
  actKeeps_of_lc h.phase h.ct h.pending h.lc

theorem OnlySlots.keeps {s t : State} (h : OnlySlots s t) : ActKeeps s t :=
  actKeeps_of_lc h.phase h.ct h.pending h.lc

theorem actKeeps_setFailures (s : State) (n : Nat) : ActKeeps s (s.setFailures n) :=
  actKeeps_of_lc (by simp) (by simp) (by simp) (by simp)

theorem actKeeps_failCompare (s : State) : ActKeeps s (failCompare s) := by
  unfold failCompare
  simp only
  split
  · exact actKeeps_of_lc (by simp) (by simp) (by simp) (by simp)
  · exact actKeeps_setFailures s _

theorem actKeeps_postReply (s : State) (n : Fin 4) (tag : BitVec 16) (code out : Byte) (adj : Bool) (ring : Fin 64)
    (p : List Byte) : ActKeeps s (s.postReply n tag code out adj ring p) := by
  refine ⟨rfl, rfl, rfl, fun m => ?_⟩
  by_cases h : m = n
  · subst h
    rw [postReply_lane]
    exact ⟨rfl, rfl, rfl, rfl⟩
  · rw [postReply_otherLane s n m tag code out adj ring p h]
    exact .refl _

/-- The start of a commit keeps the lanes (R186). -/
theorem actKeeps_startCommit (s : State) : ActKeeps s (startCommit s) :=
  actKeeps_of_lc (by simp) (by simp) (by simp) (by simp)

theorem actKeeps_applyInsert (e : Entry) (r : InsertResult) (s : State) : ActKeeps s (applyInsert e r s) := by
  unfold applyInsert
  split
  · refine ActKeeps.trans (t := s.setEntries _) ?_ (onlySlots_reportServices _ _).keeps
    exact actKeeps_of_lc rfl rfl rfl rfl
  · exact .refl s
  · exact .refl s

theorem actKeeps_endIngest (g : Ingest) (o : ReplyCode) (s : State) : ActKeeps s (endIngest g o s) := by
  have h1 : ActKeeps s { s with prt.ingest := none, prt.stager := List.replicate 32 0 } :=
    actKeeps_of_lc rfl rfl rfl rfl
  have h2 := actKeeps_postReply { s with prt.ingest := none, prt.stager := List.replicate 32 0 } g.lane g.tag
    ingestEndCode o.code g.adjusted g.ring g.counts
  exact (h1.trans h2).trans (onlyViewing_raise _ .ingest).keeps

theorem actKeeps_changeWindows (wd : WD) (s : State) : ActKeeps s (changeWindows wd s) := by
  have h1 : ActKeeps s { s with wd := wd } := actKeeps_of_lc rfl rfl rfl rfl
  refine h1.trans ?_
  refine forSlots_induct (P := ActKeeps { s with wd := wd }) _ (fun i t h => ?_) _ (.refl _)
  split
  · exact h.trans (onlySlots_reportPicture _ _ _).keeps
  · exact h

theorem actKeeps_forChildren (f : Fin 7 → State → State) (h : ∀ c s, ActKeeps s (f c s)) (s : State) :
    ActKeeps s (forChildren f s) :=
  forChildren_induct (P := ActKeeps s) f (fun c t ht => ht.trans (h c t)) s (.refl s)

theorem actKeeps_clockToSlots (wall : Nat) (s : State) : ActKeeps s (clockToSlots wall s) := by
  unfold clockToSlots
  refine ActKeeps.trans ?_ (onlySlots_reevaluateWhere _ _).keeps
  exact (onlyViewing_forSlots _ (fun i t => (onlySlots_setSlot t i _).viewing) s).keeps

theorem actKeeps_setClock (wall : Nat) (zone : Int) (s : State) : ActKeeps s (setClock wall zone s) := by
  have h0 : ActKeeps s { s with vtu.clock := some { wall := wall, since := s.vtu.uptime }, sc.settings.zone := zone } :=
    actKeeps_of_lc rfl rfl rfl rfl
  have h1 : ActKeeps s (startClock wall zone s) :=
    h0.trans (actKeeps_forChildren _ (fun c t => (onlyViewing_setUsage t c _).keeps) _)
  have h2 : ∀ t, ActKeeps t (endPastExtensions wall t) := fun t =>
    actKeeps_forChildren _ (fun c u => by
      split
      · exact (onlyViewing_setUsage u c _).keeps
      · exact .refl u) t
  have h3 : ActKeeps s (clockBeforeReports wall zone s) :=
    ((h1.trans (h2 _)).trans (onlyViewing_rolloverCheck _).keeps).trans (onlyViewing_recomputeCurfews _).keeps
  have h4 := (h3.trans (onlyViewing_markDirty _ .settings).keeps).trans (onlyViewing_reportDiffering s _).keeps
  unfold setClock
  exact h4.trans (actKeeps_clockToSlots _ _)

theorem actKeeps_setChild (s : State) (c : Fin 7) (p : Profile) : ActKeeps s (s.setChild c p) :=
  actKeeps_of_lc rfl rfl rfl rfl

theorem actKeeps_setEntries (s : State) (t : List Entry) : ActKeeps s (s.setEntries t) :=
  actKeeps_of_lc rfl rfl rfl rfl

theorem actKeeps_setSuspended (c : Fin 7) (b : Bool) (s : State) : ActKeeps s (setSuspended c b s) :=
  ((actKeeps_setChild s c _).trans (onlyViewing_markDirty _ _).keeps).trans (onlySlots_reportProfile _ _).keeps

theorem actKeeps_storeCurfews (c : Fin 7) (cs : List Curfew) (s : State) : ActKeeps s (storeCurfews c cs s) :=
  (((actKeeps_setChild s c _).trans (onlyViewing_recomputeCurfew _ _).keeps).trans
    (onlyViewing_markDirty _ _).keeps).trans (onlySlots_reportProfile _ _).keeps

theorem actKeeps_storeServices (n : Nat) (t : List ServiceEntry) (s : State) : ActKeeps s (storeServices n t s) := by
  have h : ActKeeps s ({ s with pss.services := t }.markDirty .services) := actKeeps_of_lc rfl rfl rfl rfl
  exact h.trans (onlySlots_reportServiceEntry _ _).keeps

theorem actKeeps_storeProfile (c : Fin 7) (p : Profile) (s : State) : ActKeeps s (storeProfile c p s) := by
  unfold storeProfile
  refine ActKeeps.trans ?_ (onlySlots_reportProfile _ _).keeps
  refine ActKeeps.trans ?_ (onlyViewing_markDirty _ _).keeps
  split
  · exact ((actKeeps_setChild s c p).trans (onlyViewing_lowerCarry _ _).keeps).trans (onlyViewing_restore _ _).keeps
  · exact (((actKeeps_setChild s c _).trans (onlyViewing_setUsage _ _ _).keeps).trans
      (onlyViewing_setCurfew _ _ _).keeps).trans (onlyViewing_markDirty _ _).keeps

theorem actKeeps_bindSlot (i : Fin 4) (p : Fin 8) (s : State) : ActKeeps s (bindSlot i p s) := by
  unfold bindSlot
  simp only
  split
  · exact (onlySlots_setSlot s i _).keeps
  · exact (onlySlots_setSlot s i _).keeps.trans (onlySlots_applyPending _ _).keeps

theorem actKeeps_dropProfile (c : Fin 7) (s : State) : ActKeeps s (dropProfile c s) := by
  unfold dropProfile
  simp only
  split <;> exact actKeeps_of_lc (by simp) (by simp) (by simp) (by simp)

/-- Every record command's effect keeps the phase, the channel, the queue and the lanes' places (R44). -/
theorem actKeeps_handlerOf (i : Instr) (H : Handler) (h : handlerOf i = some H) (x : TakeCtx) (s : State) :
    ActKeeps s (H.act x s).state := by
  cases i <;> simp only [handlerOf, Option.some.injEq, reduceCtorEq] at h <;> subst h
  case readEvent h service time =>
    simp only [readEvent, Handler.free]; split <;> exact .refl s
  case ratingCheck =>
    simp only [ratingCheck, Handler.free]; repeat' split
    all_goals exact .refl s
  case readProfile =>
    simp only [readProfile, Handler.free]; repeat' split
    all_goals exact .refl s
  case readUsage => simp only [readUsage, Handler.free]; split <;> exact .refl s
  case readSlot => simp only [readSlot, Handler.free]; split <;> exact .refl s
  case readService => simp only [readService, Handler.free]; split <;> exact .refl s
  case readCapture => exact .refl s
  case readWindow =>
    simp only [readWindow, Handler.free]; repeat' split
    all_goals exact .refl s
  case eventNotice =>
    simp only [eventNotice, Handler.free]; repeat' split
    all_goals simp only [accept_state, refuse_state]
    all_goals first | with_reducible exact .refl s | exact actKeeps_applyInsert _ _ s
  case eventWithdraw =>
    simp only [eventWithdraw, Handler.free]; split <;> simp only [accept_state, refuse_state]
    · exact .refl s
    · exact (actKeeps_setEntries s _).trans (onlySlots_reportServices _ _).keeps
  case serviceEventsClear =>
    simp only [serviceEventsClear, Handler.free, accept]; split
    · exact .refl s
    · exact (actKeeps_setEntries s _).trans (onlySlots_reportServices _ _).keeps
  case ingestBegin =>
    simp only [ingestBegin, Handler.free]; repeat' split
    all_goals simp only [accept_state, refuse_state]
    all_goals first | with_reducible exact .refl s | exact actKeeps_of_lc rfl rfl rfl rfl
  case ingestAbort =>
    simp only [ingestAbort, Handler.free]; split <;> simp only [accept_state, refuse_state]
    · exact .refl s
    · exact actKeeps_endIngest _ _ s
  case slotTune =>
    simp only [slotTune, Handler.free]; repeat' split
    all_goals simp only [accept_state, refuse_state]
    all_goals first | with_reducible exact .refl s | exact (onlySlots_reevaluateAs _ _ s).keeps
  case slotBind =>
    simp only [slotBind]; repeat' split
    all_goals simp only [accept_state, refuse_state]
    all_goals first | with_reducible exact .refl s | exact actKeeps_bindSlot _ _ s
  case slotUnlock =>
    simp only [slotUnlock, Handler.gated]; repeat' split
    all_goals simp only [accept_state, refuse_state]
    all_goals first | with_reducible exact .refl s | exact (onlySlots_reevaluateAs _ _ s).keeps
  case slotRelock =>
    simp only [slotRelock, Handler.free]; split <;> simp only [accept_state, refuse_state]
    · exact .refl s
    · exact (onlySlots_reevaluateAs _ _ s).keeps
  case clockSet =>
    simp only [clockSet, Handler.free]
    split
    · exact .refl s
    · split
      · exact .refl s
      · rw [accept_state]
        exact actKeeps_setClock _ _ s
  case attentionSet =>
    simp only [attentionSet, Handler.free]; split <;> simp only [accept_state, refuse_state]
    · exact .refl s
    · exact actKeeps_of_lc rfl rfl rfl rfl
  case attentionClear =>
    simp only [attentionClear, Handler.free]; split <;> simp only [accept_state, refuse_state]
    · exact .refl s
    · exact actKeeps_of_lc rfl rfl rfl rfl
  case captureClear => exact actKeeps_of_lc rfl rfl rfl rfl
  case profileWrite =>
    simp only [profileWrite, Handler.gated]; repeat' split
    all_goals simp only [accept_state, refuse_state]
    all_goals first | with_reducible exact .refl s | exact actKeeps_storeProfile _ _ s
  case profileCurfew =>
    simp only [profileCurfew, Handler.gated]; repeat' split
    all_goals simp only [accept_state, refuse_state]
    all_goals first
      | with_reducible exact .refl s
      | exact actKeeps_storeCurfews _ _ s
  case profileSuspend =>
    simp only [profileSuspend, Handler.gated]; split <;> simp only [accept_state, refuse_state]
    · exact .refl s
    · exact actKeeps_setSuspended _ _ s
  case profileResume =>
    simp only [profileResume, Handler.gated]; split <;> simp only [accept_state, refuse_state]
    · exact .refl s
    · exact actKeeps_setSuspended _ _ s
  case profileRemove =>
    simp only [profileRemove, Handler.gated]; repeat' split
    all_goals simp only [accept_state, refuse_state]
    all_goals first | with_reducible exact .refl s | exact actKeeps_dropProfile _ s
  case serviceWrite =>
    simp only [serviceWrite, Handler.gated]; repeat' split
    all_goals simp only [accept_state, refuse_state]
    all_goals first
      | with_reducible exact .refl s
      | exact actKeeps_storeServices _ _ s
  case serviceRemove =>
    simp only [serviceRemove, Handler.gated]; split <;> simp only [accept_state, refuse_state]
    · exact .refl s
    · exact actKeeps_storeServices _ _ s
  case allowanceGrant =>
    simp only [allowanceGrant, Handler.gated]; repeat' split
    all_goals simp only [accept_state, refuse_state]
    all_goals first
      | with_reducible exact .refl s
      | exact ((onlyViewing_setUsage s _ _).trans (onlyViewing_markDirty _ _)).trans (onlyViewing_restore _ _) |>.keeps
  case usageReset =>
    simp only [usageReset, Handler.gated]; repeat' split
    all_goals simp only [accept_state, refuse_state]
    all_goals first
      | with_reducible exact .refl s
      | exact ((onlyViewing_setUsage s _ _).trans (onlyViewing_markDirty _ _)).trans (onlyViewing_restore _ _) |>.keeps
  case pinSet =>
    simp only [pinSet, Handler.gated]; split <;> simp only [accept_state, refuse_state]
    · exact .refl s
    · exact actKeeps_of_lc rfl rfl rfl rfl
  case lanePermit =>
    simp only [lanePermit, Handler.gated]; repeat' split
    all_goals simp only [accept_state, refuse_state]
    all_goals first
      | with_reducible exact .refl s
      | refine ⟨rfl, rfl, rfl, fun m => ?_⟩
    rename_i n set _ _
    by_cases hm : m = n
    · subst hm
      exact ⟨by simp [State.lane, State.setLane], by simp [State.lane, State.setLane],
        by simp [State.lane, State.setLane], by simp [State.lane, State.setLane]⟩
    · have : ((s.setLane n { s.lane n with classes := set }).markDirty .lane).lane m = s.lane m :=
        lane_setLane_other s n m _ hm
      exact ⟨by simp [this], by simp [this], by simp [this], by simp [this]⟩
  case settingsWrite =>
    simp only [settingsWrite, Handler.gated]; split <;> simp only [accept_state, refuse_state]
    · exact .refl s
    · exact actKeeps_of_lc rfl rfl rfl rfl
  case windowDefine =>
    simp only [windowDefine, Handler.free]; repeat' split
    all_goals simp only [accept_state, refuse_state]
    all_goals first | with_reducible exact .refl s | exact actKeeps_changeWindows _ s
  case windowRemove =>
    simp only [windowRemove, Handler.free]; repeat' split
    all_goals simp only [accept_state, refuse_state]
    all_goals first | with_reducible exact .refl s | exact actKeeps_changeWindows _ s
  case windowLock => exact actKeeps_of_lc rfl rfl rfl rfl
  case fillTileWrite =>
    simp only [fillTileWrite, Handler.free]; repeat' split
    all_goals simp only [accept_state, refuse_state]
    all_goals first | with_reducible exact .refl s | exact actKeeps_of_lc rfl rfl rfl rfl

theorem actKeeps_judgePin (H : Handler) (hk : ∀ x s, ActKeeps s (H.act x s).state) (x : TakeCtx) (pin : Vector Byte 8)
    (s : State) : ActKeeps s (judgePin H x pin s).state := by
  unfold judgePin
  split
  · split
    · exact .refl s
    · split
      · exact (actKeeps_setFailures s 0).trans (hk _ _)
      · rw [refuse_state]
        exact actKeeps_failCompare s
  · exact hk _ _

/-- The acceptance order keeps the phase, the channel, the queue and the lanes' places (R47). -/
theorem actKeeps_acceptRecord (i : Instr) (x : TakeCtx) (hd : Header) (s : State) :
    ActKeeps s (acceptRecord (handlerOf i) x hd s).state := by
  unfold acceptRecord
  cases h : handlerOf i with
  | none => exact .refl s
  | some H =>
    simp only
    split
    · split
      · exact actKeeps_judgePin H (actKeeps_handlerOf i H h) x hd.pin s
      · exact .refl s
    · exact .refl s

/-- A cause just raised stands in the status. -/
theorem or_and_self (a b : BitVec 10) : (a ||| b) &&& b = b := by
  ext i hi
  simp only [BitVec.getElem_and, BitVec.getElem_or]
  cases b[i] <;> simp

/-! ### A record closed in a listening lane -/

/-- The state with the record's bytes closed in the lane's expected ring slot (R42). -/
def State.closedIn (s : State) (hd : Header) (code : Byte) (body : List Byte) : State :=
  s.setLane hd.lane
    { s.lane hd.lane with cur := { bytes := recordBytes hd code body (s.lane hd.lane).toggle, closed := true } }

/-- What the acceptance order gives a record closed in its lane (R47). -/
def State.judged (s : State) (H : Option Handler) (hd : Header) (code : Byte) (body : List Byte) : Taken :=
  acceptRecord H (takeCtx hd (s.closedIn hd code body)) hd (s.closedIn hd code body)

theorem closedIn_lane (s : State) (hd : Header) (code : Byte) (body : List Byte) :
    (s.closedIn hd code body).lane hd.lane =
      { s.lane hd.lane with cur := { bytes := recordBytes hd code body (s.lane hd.lane).toggle, closed := true } } := by
  simp [State.closedIn]

/-- In a listening lane a record is taken at once: it is judged, its reply is posted, the lane advances, and what it left
dirty starts a commit. Nothing is taken after it (R44, R47, R49, R186). -/
theorem presentRecord_listening (i : Instr) (hd : Header) (code : Byte) (body : List Byte) (s : State)
    (hl : Listening s hd) :
    presentRecord (handlerOf i) hd code body s = startCommit (advanceLane hd.lane
      (replyTo hd code (s.lane hd.lane).expected (s.judged (handlerOf i) hd code body))) := by
  have ht : s.trafficReaches = true := by
    simp [State.trafficReaches, State.decodes, State.tracks, State.isReleased, hl.running, hl.line, hl.enabled, hl.active]
  have hr : s.isRunning = true := by simp [State.isRunning, hl.running]
  unfold presentRecord
  simp only [ht, if_true, hl.curOpen, Bool.not_false, hr]
  have he : ((s.closedIn hd code body).lane hd.lane).expected = (s.lane hd.lane).expected := by
    rw [closedIn_lane]
  have hj := actKeeps_acceptRecord i (takeCtx hd (s.closedIn hd code body)) hd (s.closedIn hd code body)
  have hq := (hj.places hd.lane).nxt
  rw [closedIn_lane] at hq
  rw [takeOne_open]
  · show takeRecord _ _ _ (s.closedIn hd code body) = _
    unfold takeRecord State.judged
    rw [he]
  · show ((takeRecord (handlerOf i) code hd (s.closedIn hd code body)).lane hd.lane).cur.closed = false
    unfold takeRecord
    rw [((actKeeps_startCommit _).places hd.lane).cur, advanceLane_lane]
    unfold replyTo Lane.advance
    rw [((actKeeps_postReply _ _ _ _ _ _ _ _).places hd.lane).nxt, hq]
    exact hl.nxtOpen

/-- The record is answered with what its owner gave, where the owner left the lanes alone (R44, R49, R50). -/
theorem presentRecord_answered (i : Instr) (hd : Header) (code : Byte) (body : List Byte) (s : State)
    (hl : Listening s hd) (hlc : (s.judged (handlerOf i) hd code body).state.lc = (s.closedIn hd code body).lc) :
    Answered s (presentRecord (handlerOf i) hd code body s) hd code (s.judged (handlerOf i) hd code body).code.code
      (decide ((s.judged (handlerOf i) hd code body).code = .adjusted)) (s.judged (handlerOf i) hd code body).payload := by
  rw [presentRecord_listening i hd code body s hl]
  have hk := actKeeps_acceptRecord i (takeCtx hd (s.closedIn hd code body)) hd (s.closedIn hd code body)
  have hphase : (s.judged (handlerOf i) hd code body).state.phase = s.phase := hk.phase
  have hpend : (s.judged (handlerOf i) hd code body).state.pending = s.pending := hk.pending
  generalize s.judged (handlerOf i) hd code body = r at *
  have hn : ∀ n, r.state.lane n = (s.closedIn hd code body).lane n := lane_of_lc _ _ hlc
  have hlane : r.state.lane hd.lane = _ := (hn hd.lane).trans (closedIn_lane s hd code body)
  have hfin : ∀ n, (startCommit (advanceLane hd.lane (replyTo hd code (s.lane hd.lane).expected r))).lane n
      = (advanceLane hd.lane (replyTo hd code (s.lane hd.lane).expected r)).lane n :=
    lane_of_lc _ _ (by simp)
  have hmine : (startCommit (advanceLane hd.lane (replyTo hd code (s.lane hd.lane).expected r))).lane hd.lane
      = Lane.advance
        { s.lane hd.lane with
          cur := { bytes := recordBytes hd code body (s.lane hd.lane).toggle, closed := true }
          replyNo := (s.lane hd.lane).replyNo + 1
          ring := putAt (s.lane hd.lane).ring (nextIndex s hd.lane)
            (replyEntry s hd code r.code.code (decide (r.code = .adjusted)) r.payload) } := by
    rw [hfin, advanceLane_lane]
    unfold replyTo
    rw [postReply_lane]
    have hi : nextIndex r.state hd.lane = nextIndex s hd.lane := by simp [nextIndex, hlane]
    rw [hi, hlane]
    rfl
  refine ⟨by rw [hmine]; rfl, by rw [hmine]; simp [Lane.advance], fun k h => ?_, by rw [hmine]; rfl,
    by rw [hmine]; rfl, by rw [hmine]; exact hl.nxtOpen, by rw [hmine]; rfl, fun n h => ?_, ?_, ?_, ?_⟩
  · rw [hmine]
    exact putAt_other _ _ _ _ h
  · rw [hfin, advanceLane_otherLane hd.lane n _ h]
    unfold replyTo
    rw [postReply_otherLane _ _ _ _ _ _ _ _ _ h, hn n]
    exact lane_setLane_other s hd.lane n _ h
  · simp only [startCommit_au, advanceLane, setLane_au, replyTo, postReply_status]
    exact or_and_self _ _
  · simpa [advanceLane, replyTo] using hphase
  · simpa [advanceLane, replyTo] using hpend

/-- The lane holds the class the record needs, also with the record closed in it (R45). -/
theorem laneHolds_closedIn (s : State) (hd : Header) (code : Byte) (body : List Byte) (cls : CmdClass) :
    laneHolds (s.closedIn hd code body) hd.lane cls = laneHolds s hd.lane cls := by
  simp [laneHolds, closedIn_lane]

/-- A ready record that needs no PIN is what its owner makes of it (R47 steps 6 to 8). -/
theorem judged_free (i : Instr) (H : Handler) (hd : Header) (code : Byte) (body : List Byte) (s : State)
    (h : handlerOf i = some H) (hr : Ready s hd H.cls H.length) (hn : H.needsPin (s.closedIn hd code body) = false) :
    s.judged (handlerOf i) hd code body =
      H.act { takeCtx hd (s.closedIn hd code body) with
                waived := H.waives (s.closedIn hd code body), compared := false } (s.closedIn hd code body) := by
  unfold State.judged acceptRecord
  rw [h]
  simp [laneHolds_closedIn, hr.holds, hr.lengthOk, judgePin, hn]

/-- A ready record that needs the PIN and gets it is what its owner makes of it, compared, on the state with the failure
count 0 (R47 step 5, R48). -/
theorem judged_compared (i : Instr) (H : Handler) (hd : Header) (code : Byte) (body : List Byte) (s : State)
    (h : handlerOf i = some H) (hr : Ready s hd H.cls H.length) (hn : H.needsPin (s.closedIn hd code body) = true)
    (hlock : s.pss.lockout = none) (hm : pinMatches s.pss.pin hd.pin = true) :
    s.judged (handlerOf i) hd code body =
      H.act { takeCtx hd (s.closedIn hd code body) with waived := false, compared := true }
        ((s.closedIn hd code body).setFailures 0) := by
  have hpin : (s.closedIn hd code body).pss = s.pss := rfl
  unfold State.judged acceptRecord
  rw [h]
  simp [laneHolds_closedIn, hr.holds, hr.lengthOk, judgePin, hn, hpin, hlock, hm]

/-- A ready gated record whose PIN passes is what its owner makes of it, on the state with the failure count settled (R46,
R47, R48). -/
theorem judged_gated (i : Instr) (cls : CmdClass) (length : Nat) (act : TakeCtx → State → Taken) (hd : Header)
    (code : Byte) (body : List Byte) (s : State) (h : handlerOf i = some (.gated cls length act))
    (hr : Ready s hd cls length) (hp : PinPasses s hd) :
    ∃ x, s.judged (handlerOf i) hd code body = act x (afterPin (s.closedIn hd code body)) := by
  have hpin : (s.closedIn hd code body).pss = s.pss := rfl
  unfold State.judged acceptRecord
  rw [h]
  simp only [Handler.gated, laneHolds_closedIn, hr.holds, hr.lengthOk, if_true, judgePin]
  by_cases hq : (s.closedIn hd code body).pinRequired = true
  · have hu : s.pss.pin ≠ .unset := by
      intro hu
      simp [State.pinRequired, hpin, hu] at hq
    obtain ⟨hlock, hm⟩ := hp.resolve_left hu
    exact ⟨_, by simp [hq, hpin, hlock, hm, afterPin]; rfl⟩
  · exact ⟨_, by simp [hq, afterPin]; rfl⟩

end Sys2Proof.Machine
end

