-- ==== Sys2Proof/Tests/Slice0.lean ====
section
/-! SUPPORT. Tests: ill-formed commands refused by each check, values the manual works out, records written out from their
layouts, and for each statement with hypotheses a state and operands that meet them. -/

-- Each `decide +kernel` waits for the theorems before it: checked in turn, they need no thread each.
set_option Elab.async false

namespace Sys2Proof.Tests

open Sys2Proof Sys2Proof.Machine

/-! ### States and operands -/

/-- The state a command leaves. -/
def after (i : Instr) (s : State) : State :=
  match exec i s with
  | .next t => t
  | .fault _ => s
  | .refused _ => s

/-- Reset with start-up over: every lane listens, the PIN is UNSET, nothing is bound or presented. -/
def on : State := { State.reset with phase := .running }

/-- `on` with start-up still running. -/
def rising : State := { on with phase := .starting }

/-- A header on lane 0 with a body length and no PIN. -/
def hdr (n : Nat) : Header := { lane := 0, len := BitVec.ofNat 8 n, pin := Vector.replicate 8 15, tag := 7 }

/-- The same on lane 1. -/
def hdr1 (n : Nat) : Header := { hdr n with lane := 1 }

def pic : Window := { kind := .picture, base := 20480, limit := 24575, slot := 0, guard := true }
def aud : Window := { kind := .audio, base := 24576, limit := 28671, slot := 0, guard := false }
def ing : Window := { kind := .ingest, base := 28672, limit := 32767, slot := 0, guard := false }

/-- PICTURE, AUDIO and INGEST windows in pages 5 to 7, bank 0 open on row 1, banks 1 to 7 on row 0. -/
def tv : State :=
  { on with
    wd.windows := putAt (putAt (putAt on.wd.windows 2 (some pic)) 3 (some aud)) 4 (some ing)
    ct.banks := #v[some 1, some 0, some 0, some 0, some 0, some 0, some 0, some 0] }

/-- `tv` with slot 0 HIDING. -/
def hidden : State := tv.setSlot 0 { tv.slot 0 with picture := true, decision := .pending, enforcement := .hiding }

/-- `tv` with slot 0 waiting for profile 0. -/
def waiting : State := tv.setSlot 0 { tv.slot 0 with picture := true, pending := some { profile := 0, countdown := 2 } }

/-- `on` with child profile 1 valid: no allowance on any day, no week limit. -/
def kid : State := on.setChild 0 { Profile.invalid with valid := true, weekly := 10080, warn := 1 }

/-- `on` with the PIN SET. -/
def pinned : State := { on with pss.pin := .set [1, 2, 3, 4] }

/-- A core of service 1, event 2, from 100 for 50 seconds, version 3. -/
def core : EventCore :=
  { service := 1, event := 2, start := 100, duration := 50, version := 3, category := 0, flags := 0, rating0 := 0x0F,
    rating1 := 0x0F }

def entry : Entry :=
  { service := 1, event := 2, start := 100, duration := 50, version := 3, category := 0, flags := 0, ratings := [] }

/-- `on` with `entry` in the table. -/
def guide : State := on.setEntries [entry]

/-- `tv` with an ingest ACTIVE at its window's base. -/
def loading (remaining : Nat) : State :=
  { tv with prt.ingest := some { lane := 0, tag := 7, ring := 0, remaining := remaining, next := 28672, taken := 0,
                                 stale := 0, refused := 0, adjusted := false } }

/-- A burst of 8 beats with a treatment, `passed` of them passed. -/
def burst (t : Treatment) (passed : Nat) : Burst :=
  { dir := .write, len := 8, block := some 64, start := 3, bank := 0, col := 19, row := 0, treatment := t,
    repl := List.replicate 32 0, gathered := List.replicate 32 none, passed := passed, spoiled := false }

/-- `on` with one burst outstanding. -/
def flying (t : Treatment) (passed : Nat) : State := { on with ct.outstanding := [burst t passed] }

/-- A delivery of 32 bytes at a block, its last four the closing word with a toggle, or with no mark. -/
def delivery (block : Nat) (toggle mark : Byte) : Delivery :=
  { block := block, bytes := List.replicate 30 (some 0) ++ [some toggle, some mark], bank := 0, row := 0, col := 0 }

/-! ### Well-formedness: an ill-formed term for each check -/

theorem test_wf_close_line10 : (Instr.bankClose 0 0x0400).wellFormed = false := by decide
theorem test_wf_closeAll_line10 : (Instr.closeAll 0 0x0000).wellFormed = false := by decide
theorem test_wf_idle_refresh :
    (Instr.idleEntry { csN := false, rasN := false, casN := false, weN := true, ba := 0, a := 0 }).wellFormed = false := by
  decide
theorem test_wf_unknown_known : (Instr.unknownCommand (hdr 0) 0x16).wellFormed = false := by decide

/-! ### Line levels: the command each set of R2 names -/

/-- RAS, CAS and WE low or high, the select low: R2's table, line 10 of a close high and low. -/
theorem test_lines_command :
    (Lines.mk false false true true 3 7).command = some (.bankOpen 3 7)
      ∧ (Lines.mk false true false true 3 7).command = some (.readBurst 3 7)
      ∧ (Lines.mk false true false false 3 7).command = some (.writeBurst 3 7)
      ∧ (Lines.mk false false true false 3 0x03FF).command = some (.bankClose 3 0x03FF)
      ∧ (Lines.mk false false true false 3 0x0400).command = some (.closeAll 3 0x0400)
      ∧ (Lines.mk false false false true 3 7).command = some (.refresh 3 7)
      ∧ (Lines.mk false false false false 3 7).command = some (.modeLoad 3 7)
      ∧ (Lines.mk false true true true 3 7).command = none ∧ (Lines.mk true false true true 3 7).command = none := by decide

/-- Clock enable falls with a refresh, with a no-op and with the select high. -/
theorem test_lines_falling :
    (Lines.mk false false false true 3 7).fallingCommand = .restEntry 3 7
      ∧ (Lines.mk false true true true 3 7).fallingCommand = .idleEntry ⟨false, true, true, true, 3, 7⟩
      ∧ (Lines.mk true false false true 3 7).fallingCommand = .idleEntry ⟨true, false, false, true, 3, 7⟩ := by decide

/-! ### Values the manual works out -/

/-- R3's example: bank 2, row 5, column 8 under RBC. -/
theorem test_address_rbc : channelAddress .rbc 2 5 8 = 172064 := by decide

/-- The worked sequence of The Channel Path, step 2: the burst's block and start beat. -/
theorem test_block_of_column14 : blockAddress 8 (channelAddress .rbc 3 4100 14) = 134361120 ∧ 14 % 8 = 6 := by decide

/-- Its step 3: the block offsets of the eight beats. -/
theorem test_beat_offsets : (List.range 8).map (beatOffset 8 6) = [24, 28, 0, 4, 8, 12, 16, 20] := by decide

/-- Its step 5: read latency 4 is kept out and unfollowed, FIXED8 is followed. -/
theorem test_mode_latency4 :
    (after (.modeLoad 0 0x0104) on).ct.readLat = 11 ∧ (after (.modeLoad 0 0x0104) on).ct.channel = .passOnly := by
  decide

/-- R22: while the DRAM reset line stays asserted for one command, that OPEN is not decoded and the next one is. -/
theorem test_reset_line_held :
    let s := after (.bankOpen 2 9) (after .channelReset { on with ct.holds := [1] })
    s.bank 2 = none ∧ s.ct.out.lines = some (commandLines false true true 2 9)
      ∧ (after (.bankOpen 2 9) s).bank 2 = some 9 := by decide +kernel

/-- The worked sequence of Windows: strap 12 gives a control base of 100,663,296 and the two strap entries. -/
theorem test_strap12 :
    (WD.atReset 12).windows[0].map Window.base = some 100663296
      ∧ (WD.atReset 12).windows[0].map Window.limit = some 100679679
      ∧ (WD.atReset 12).windows[1].map Window.base = some 100679680
      ∧ (WD.atReset 12).windows[1].map Window.limit = some 100683775 := by decide

/-- The worked ingest, steps 2 and 3: version 3 is newer than 2, 2 is not newer than 3. -/
theorem test_versions : versionNewer 3 2 = true ∧ versionNewer 2 3 = false ∧ versionNewer 0 31 = true := by decide

/-- The worked run of wrong PINs: count 5 locks out 60 seconds, 6 locks out 120; at most 3,840. -/
theorem test_lockouts : lockoutSeconds 5 = 60 ∧ lockoutSeconds 6 = 120 ∧ lockoutSeconds 11 = 3840 ∧ lockoutSeconds 255 = 3840 := by
  decide

/-- R97 on the fields of that sequence: four digits, three digits, a malformed field. -/
theorem test_pin_fields :
    pinDigits [5, 3, 0, 9, 15, 15, 15, 15] = some [5, 3, 0, 9] ∧ pinDigits [5, 3, 0, 15, 15, 15, 15, 15] = some [5, 3, 0]
      ∧ pinDigits [5, 3, 12, 8, 15, 15, 15, 15] = none ∧ pinDigits [15, 5, 15, 15, 15, 15, 15, 15] = none := by decide

/-- The worked accrual case: day 9,144 is a Monday in week 1,307; rollover to 9,145 falls at 790,142,400. -/
theorem test_calendar :
    weekdayOf 9144 = 0 ∧ accountingWeek 0 9144 = 1307 ∧ accountingDay 4 790142399 = 9144
      ∧ accountingDay 4 790142400 = 9145 := by decide

/-- The bring-up sequence: 790,300,000 at +60 minutes is day 9,147, minute 46, of accounting day 9,146. -/
theorem test_local :
    localSeconds 790300000 60 = 790303600 ∧ 790303600 / 86400 = 9147 ∧ minuteOfDay 790303600 = 46
      ∧ accountingDay 4 790303600 = 9146 ∧ weekdayOf 9147 = 3 := by decide

/-- Its curfew, minute 1,170 to minute 420 of days 0 to 4, covers that minute. -/
theorem test_curfew_night : curfewCovers [{ days := 0b0011111, start := 1170, stop := 420 }] 790303600 = true := by decide

/-- The worked accrual case: 1,501 ticks of weight 4 leave 4 eighths and 750 seconds; its carry of 1,200 seconds. -/
theorem test_accrual_odd :
    ((List.range 3).foldl (fun u _ => accrue 4 u) Usage.zero).today = 1
      ∧ ((List.range 3).foldl (fun u _ => accrue 4 u) Usage.zero).acc = 4 := by decide
theorem test_carry :
    (rolledUsage { Profile.invalid with valid := true, weekday := 90, carryCap := 30 } { Usage.zero with today := 4200 }
      false true).carry = 1200 := by decide

/-- R201: READ_EVENT, READ_USAGE and READ_SLOT fill all 24 bytes. -/
theorem test_payload_sizes :
    (eventPayload guide 1 100).length = 24 ∧ (usagePayload kid 1).length = 24 ∧ (slotPayload on (on.slot 0)).length = 24 := by
  decide

/-- R202: the status line opens with the identity word and the revision. -/
theorem test_status_line : (statusLine on).take 3 = [0x43, 0x4A, 1] ∧ (statusLine on).length = 32 := by decide

/-! ### Records written out from R200 and R201, a word of each family -/

/-- A record's 64 bytes from its first bytes. -/
def padded (bs : List Byte) : List Byte := (bs ++ List.replicate 60 0).take 60 ++ [7, 0, 0, 0x5A]

/-- The header those bytes stand for. -/
def head (n : Byte) : Header := { lane := 0, len := n, pin := Vector.replicate 8 15, tag := 7 }

theorem test_record_query :
    decodeRecord 0 (padded [0x10, 6, 15, 15, 15, 15, 15, 15, 15, 15, 0x34, 0x12, 0x78, 0x56, 0x34, 0x12])
      = .readEvent (head 6) 0x1234 0x12345678 := by decide
theorem test_record_guide :
    decodeRecord 0 (padded [0x21, 4, 15, 15, 15, 15, 15, 15, 15, 15, 0x34, 0x12, 0x78, 0x56])
      = .eventWithdraw (head 4) 0x1234 0x5678 := by decide
theorem test_record_present :
    decodeRecord 0 (padded [0x31, 2, 15, 15, 15, 15, 15, 15, 15, 15, 3, 5]) = .slotBind (head 2) 3 5 := by decide
theorem test_record_clock :
    decodeRecord 0 (padded [0x40, 6, 15, 15, 15, 15, 15, 15, 15, 15, 0x78, 0x56, 0x34, 0x12, 0xC4, 0xFF])
      = .clockSet (head 6) 0x12345678 0xFFC4 := by decide
theorem test_record_report :
    decodeRecord 0 (padded [0x51, 2, 15, 15, 15, 15, 15, 15, 15, 15, 0x23, 0x01]) = .attentionClear (head 2) 0x0123 := by
  decide
theorem test_record_admin :
    decodeRecord 0 (padded [0x65, 7, 15, 15, 15, 15, 15, 15, 15, 15, 0x34, 0x12, 0x06, 0x1F, 1, 4, 8])
      = .serviceWrite (head 7) 0x1234 0x06 0x1F 1 4 8 := by decide
theorem test_record_platform :
    decodeRecord 0 (padded [0x70, 12, 15, 15, 15, 15, 15, 15, 15, 15, 2, 3, 0, 0, 0, 8, 0xFF, 0xFF, 0x3F, 8, 1, 1])
      = .windowDefine (head 12) 2 3 134217728 138412031 1 1 := by decide
theorem test_record_unknown : decodeRecord 0 (padded [0x2F, 0, 15, 15, 15, 15, 15, 15, 15, 15])
    = .unknownCommand (head 0) 0x2F := by decide

/-- The opcode table gives no row any bits, so no word spells a command. -/
theorem test_no_words (n w : Nat) : decodeTableWord n w = none := rfl

/-! ### Witnesses: for each statement with hypotheses, a state and operands that meet them -/

/-- Lane 0 of `on` holds every class, and its buffers are open. -/
theorem on_lane0 :
    (on.lane 0).cur.closed = false ∧ (on.lane 0).nxt.closed = false ∧ ∀ cls, laneHolds on 0 cls = true := by
  refine ⟨by decide +kernel, by decide +kernel, fun cls => ?_⟩
  cases cls <;> decide +kernel

/-- A header the lane takes, from a condition Lean decides. -/
theorem ready_at {s : State} {h : Header} {cls : CmdClass} {n : Nat}
    (p : (s.phase = .running ∧ s.ct.drst = 0 ∧ s.ct.cke = true ∧ s.ct.channel = .active)
      ∧ (s.lane h.lane).cur.closed = false
      ∧ (s.lane h.lane).nxt.closed = false ∧ laneHolds s h.lane cls = true ∧ h.len.toNat = n) : Ready s h cls n :=
  ⟨⟨p.1.1, p.1.2.1, p.1.2.2.1, p.1.2.2.2, p.2.1, p.2.2.1⟩, p.2.2.2.1, p.2.2.2.2⟩

theorem listening_on (n : Nat) : Listening on (hdr n) :=
  ⟨rfl, rfl, rfl, rfl, on_lane0.1, on_lane0.2.1⟩

theorem witness_AddressesInjective : (0 < 1024 ∧ 1023 < 1024) ∧ channelAddress .brc 7 65535 1023 = 2147483644 := by decide +kernel

theorem witness_OpenTakesRow :
    on.decodes = true ∧ on.bank 3 = none ∧ on.ct.outstanding.length < 8 ∧ tv.decodes = true ∧ (tv.bank 3).isSome = true ∧ tv.au.capture = none := by
  decide +kernel

theorem witness_ColumnToClosedBank :
    on.decodes = true ∧ on.bank 7 = none ∧ on.ct.outstanding.length < 8
      ∧ 8 ≤ ({ on with ct.outstanding := List.replicate 8 (burst .pass 0) }).ct.outstanding.length
      ∧ ({ on with ct.outstanding := List.replicate 8 (burst .pass 0) }).bank 7 = none := by decide +kernel

theorem witness_ColumnToOpenBank :
    tv.decodes = true ∧ tv.bank 0 = some 1 ∧ autoClose 0x0800 = true ∧ autoClose 0x0000 = false
      ∧ ({ tv with ct.outstanding := List.replicate 7 (burst .pass 0) }).ct.outstanding.length < 8
      ∧ 8 ≤ ({ tv with ct.outstanding := List.replicate 8 (burst .pass 0) }).ct.outstanding.length := by decide +kernel

/-- Each window kind and no window, read and written; the PICTURE window away from its base, its last block. -/
theorem witness_ReadTreatments :
    tv.decodes = true ∧ tv.ct.outstanding.length < 8 ∧ tv.bank 5 = some 0
      ∧ tv.wd.find (columnBlock tv 0 1 0) = none
      ∧ (tv.wd.find (columnBlock tv 3 0 1023)).map Window.kind = some .control
      ∧ (tv.wd.find (columnBlock tv 4 0 0)).map Window.kind = some .reply
      ∧ (tv.wd.find (columnBlock tv 7 0 1023)).map Window.kind = some .ingest
      ∧ tv.wd.find (columnBlock tv 5 0 1023) = some pic ∧ columnBlock tv 5 0 1023 ≠ pic.base
      ∧ (tv.slot pic.slot).enforcement ≠ .hiding ∧ (hidden.slot pic.slot).enforcement = .hiding
      ∧ hidden.wd.find (columnBlock hidden 5 0 8) = some pic ∧ columnBlock hidden 5 0 8 ≠ pic.base
      ∧ hidden.wd.find (columnBlock hidden 6 0 0) = some aud ∧ tv.wd.find (columnBlock tv 6 0 0) = some aud
      ∧ on.phase = .running ∧ State.reset.phase ≠ .running := by decide +kernel

theorem witness_WriteTreatments :
    hidden.decodes = true ∧ hidden.bank 1 = some 0 ∧ hidden.ct.outstanding.length < 8
      ∧ hidden.wd.find (columnBlock hidden 0 1 0) = none
      ∧ (hidden.wd.find (columnBlock hidden 3 0 1023)).map Window.kind = some .control
      ∧ columnBlock hidden 3 0 1023 < 16384
      ∧ (hidden.wd.find (columnBlock hidden 4 0 1023)).map Window.kind = some .reply
      ∧ (hidden.wd.find (columnBlock hidden 7 0 0)).map Window.kind = some .ingest
      ∧ (loading 1).prt.ingest.isSome = true ∧ hidden.prt.ingest.isSome = false
      ∧ hidden.wd.find (columnBlock hidden 5 0 0) = some pic ∧ hidden.wd.find (columnBlock hidden 6 0 0) = some aud := by
  decide +kernel

theorem witness_FrameStartRules :
    tv.decodes = true ∧ tv.bank 5 = some 0 ∧ tv.ct.outstanding.length < 8
      ∧ tv.wd.find (columnBlock tv 5 0 0) = some pic ∧ pic.kind = .picture ∧ columnBlock tv 5 0 0 = pic.base
      ∧ (tv.slot 0).pending = none ∧ (tv.slot 0).enforcement ≠ .hiding
      ∧ (hidden.slot 0).pending = none ∧ (hidden.slot 0).enforcement = .hiding
      ∧ (waiting.slot 0).pending = some { profile := 0, countdown := 2 } := by decide +kernel

theorem witness_CloseCommands :
    tv.decodes = true ∧ tv.bank 0 = some 1 ∧ (Instr.bankClose 0 0xFBFF).wellFormed = true
      ∧ (Instr.closeAll 0 0x0400).wellFormed = true := by decide +kernel

/-- The lowest open bank named, and no bank open. -/
theorem witness_RefreshCommands :
    on.decodes = true ∧ (∀ bb : Fin 8, on.bank (BitVec.ofFin bb) = none)
      ∧ (on.setBank 5 (some 200)).decodes = true ∧ (on.setBank 5 (some 200)).bank 5 = some 200
      ∧ (∀ bc : Fin 5, (on.setBank 5 (some 200)).bank (BitVec.ofNat 3 bc.val) = none) := by decide +kernel

/-- Register numbers 0 to 3; each field at the ends of its supported range and just outside. -/
theorem witness_ModeLoadFields :
    on.decodes = true
      ∧ (5 ≤ (0x0105 : BitVec 16).toNat % 32 ∧ (0x0110 : BitVec 16).toNat % 32 ≤ 16)
      ∧ ((0x0104 : BitVec 16).toNat % 32 < 5 ∧ 16 < (0x0111 : BitVec 16).toNat % 32)
      ∧ ((0x0105 : BitVec 16).toNat / 256 % 4 = 1 ∧ (0x0205 : BitVec 16).toNat / 256 % 4 = 2
          ∧ (0x0305 : BitVec 16).toNat / 256 % 4 = 3 ∧ (0x0005 : BitVec 16).toNat / 256 % 4 = 0)
      ∧ ((0x1000 : BitVec 16).toNat / 1024 % 8 ≤ 4 ∧ 4 < (0x1400 : BitVec 16).toNat / 1024 % 8)
      ∧ ((0x0007 : BitVec 16).toNat % 16 ≤ 7 ∧ 7 < (0x0008 : BitVec 16).toNat % 16)
      ∧ (after (.modeLoad 0 0x0104) on).ct.unfollowed.any = true ∧ (after (.modeLoad 3 0x0104) on).ct = on.ct.out.beat.elim
          { on.ct with out.lines := some (commandLines false false false 3 0x0104) } (fun _ => on.ct) := by decide +kernel

theorem witness_ClockEnableEdges :
    on.decodes = true ∧ (Instr.idleEntry ⟨true, true, true, true, 0, 0⟩).wellFormed = true
      ∧ (after (.restEntry 0 0) on).ct.cke = false ∧ (after (.restEntry 0 0) on).ct.channel = .rest
      ∧ (after (.restEntry 0 0) on).tracks = true
      ∧ (after (.idleEntry ⟨true, true, true, true, 0, 0⟩) on).ct.channel = .idleDown
      ∧ (after (.idleEntry ⟨true, true, true, true, 0, 0⟩) on).ct.cke = false
      ∧ (after (.idleEntry ⟨true, true, true, true, 0, 0⟩) on).tracks = true := by decide +kernel

/-- A full and an empty unfollowed set; a command under part reset, and one while the DRAM reset line stays asserted. -/
theorem witness_ChannelResetEffect :
    on.isReleased = true ∧ on.ct.unfollowed.any = false
      ∧ State.reset.ct.cke = true ∧ State.reset.tracks = false ∧ (after .channelReset { on with ct.holds := [1] }).ct.cke = true
      ∧ (after .channelReset { on with ct.holds := [1] }).tracks = false ∧ (commandLines true false true 1 2).command = some (.readBurst 1 2)
      ∧ (after (.modeLoad 0 0x0104) on).isReleased = true ∧ (after (.modeLoad 0 0x0104) on).ct.unfollowed.any = true := by
  decide +kernel

/-- A burst of each treatment with a beat short of its last, one at its last, none at an index, and one in the other
direction; a staged burst at its last beat on a lawful list. -/
theorem witness_BeatTreatments :
    (∀ t ∈ [Treatment.pass, .fill, .zeros, .reply, .mask, .stageLane 0 0, .stageIngest],
        (flying t 6).ct.outstanding[0]? = some (burst t 6) ∧ (burst t 6).passed + 1 < (burst t 6).len
          ∧ (burst t 6).gathered.length = (burst t 6).len * 4)
      ∧ (flying .pass 6).ct.channel ≠ .passOnly
      ∧ ({ flying .pass 6 with ct.channel := .passOnly } : State).ct.outstanding[0]? = some (burst .pass 6)
      ∧ (flying .mask 7).ct.outstanding[0]? = some (burst .mask 7) ∧ (burst .mask 7).len ≤ (burst .mask 7).passed + 1
      ∧ (burst .mask 7).treatment.staged = false ∧ (burst (.stageLane 3 63) 7).spoiled = false
      ∧ (burst (.stageLane 3 63) 7).len ≤ (burst (.stageLane 3 63) 7).passed + 1
      ∧ (burst .stageIngest 7).treatment = .stageIngest ∧ (burst .stageIngest 7).treatment.staged = true
      ∧ ({ burst .stageIngest 7 with spoiled := true } : Burst).spoiled = true
      ∧ (flying .pass 6).ct.outstanding[1]? = none ∧ (∃ d : Bool, (burst .pass 6).dir ≠ if d then .read else .write)
      ∧ (flying (.stageLane 3 63) 7).OutstandingLawful ∧ (flying .stageIngest 7).OutstandingLawful := by decide +kernel

/-- Ring slots 2 and 63 are neither expected nor next; 0 is expected, open or closed; 1 is next, open or closed; a closing
write with the expected toggle, while start-up runs and after it. -/
theorem witness_LaneDeliveryRules :
    (2 : Fin 64) ≠ (on.lane 0).expected ∧ (2 : Fin 64) ≠ (on.lane 0).expected + 1
      ∧ (63 : Fin 64) ≠ (on.lane 0).expected ∧ (63 : Fin 64) ≠ (on.lane 0).expected + 1
      ∧ (delivery 160 0 0).closingToggle = none ∧ (delivery 160 0 0x5A).closingToggle ≠ none
      ∧ (0 : Fin 64) = (on.lane 0).expected ∧ (on.lane 0).cur.closed = false
      ∧ (delivery 32 1 0x5A).closingToggle ≠ some (flagByte (on.lane 0).toggle)
      ∧ ((on.closedIn (hdr 0) 0x52 []).lane 0).cur.closed = true
      ∧ (1 : Fin 64) = (on.lane 0).expected + 1 ∧ (on.lane 0).nxt.closed = false
      ∧ ((after (.readCapture (hdr 0)) (after (.readCapture (hdr 0)) rising)).lane 0).nxt.closed = true
      ∧ (delivery 32 0 0x5A).closingToggle = some (flagByte (on.lane 0).toggle) ∧ on.phase = .running
      ∧ (rising.lane 0).cur.closed = false ∧ rising.phase ≠ .running
      ∧ (delivery 32 0 0x5A).closingToggle = some (flagByte (rising.lane 0).toggle) := by decide +kernel

/-- No ingest; a closing delivery at the next address with one record left and with two; one elsewhere; one that closes
nothing; a withdrawal of a key held and of one that is not, and a core R60 refuses. -/
theorem witness_IngestDeliveryRules :
    tv.prt.ingest = none
      ∧ (loading 1).prt.ingest.map Ingest.next = some 28672 ∧ (loading 1).wd.ingestWindow = some ing
      ∧ (delivery 28672 0 0x5A).block - (delivery 28672 0 0x5A).block % 32 = 28672
      ∧ (delivery 28672 0 0x5A).closesIngest = true
      ∧ (loading 1).prt.ingest.map Ingest.remaining = some 1 ∧ (loading 2).prt.ingest.map Ingest.remaining = some 2
      ∧ (delivery 28704 0 0x5A).block - (delivery 28704 0 0x5A).block % 32 ≠ 28672
      ∧ (delivery 28704 0 0x5A).closesIngest = true ∧ (delivery 28704 0 0).closesIngest = false
      ∧ (delivery 28672 0 0).closesIngest = false ∧ (loading 1).au.capture = none
      ∧ (entryOfKey guide.prt.entries (coreKey { core with start := 0xFFFFFFFF })).isSome = true
      ∧ entryOfKey on.prt.entries (coreKey { core with start := 0xFFFFFFFF }) = none
      ∧ entryOf { core with duration := 0 } = none := by decide +kernel

theorem witness_WholeRecordByBursts :
    recordParts (.captureClear (hdr 0)) = some (hdr 0, 0x52, []) ∧ (Instr.captureClear (hdr 0)).wellFormed = true
      ∧ Listening on (hdr 0) ∧ (on.lane 0).cur.bytes.length = 64 ∧ 64 % 64 = 0 ∧ 96 % 64 = 32 :=
  ⟨rfl, rfl, listening_on 0, by decide +kernel⟩

theorem witness_RecordRoundTrip :
    recordParts (.slotBind (hdr 2) 3 5) = some (hdr 2, 0x31, [3, 5]) ∧ (Instr.slotBind (hdr 2) 3 5).wellFormed = true :=
  ⟨rfl, rfl⟩

theorem witness_UnknownCommandRefused : Listening on (hdr 0) ∧ bodyLength 0x2F = none ∧ bodyLength 0x00 = none :=
  ⟨listening_on 0, rfl, rfl⟩

/-- Lane 1 holds QUERY and GUIDE alone; on lane 0 a wrong length, one more and one less. -/
theorem witness_RefusalOrder :
    handlerOf (.captureClear (hdr1 0)) = some captureClear ∧ Listening on (hdr1 0)
      ∧ laneHolds on (hdr1 0).lane captureClear.cls = false
      ∧ laneHolds on (hdr 1).lane captureClear.cls = true ∧ (hdr 1).len.toNat ≠ captureClear.length
      ∧ (hdr 7).len.toNat ≠ (pinSet (Vector.replicate 8 15)).length :=
  ⟨rfl, by constructor <;> decide +kernel, by decide +kernel⟩

/-- A needed PIN with a lockout running, and with none and a wrong field; the failure counts 3, 4 and 255. -/
theorem witness_PinRefusals :
    handlerOf (.pinSet (hdr 8) (Vector.replicate 8 15)) = some (pinSet (Vector.replicate 8 15))
      ∧ Ready pinned (hdr 8) .admin 8 ∧ (pinSet (Vector.replicate 8 15)).needsPin pinned = true
      ∧ ({ pinned with pss.lockout := some 60 } : State).pss.lockout = some 60
      ∧ pinned.pss.lockout = none ∧ pinMatches pinned.pss.pin (hdr 8).pin = false
      ∧ min 255 (3 + 1) < 5 ∧ 5 ≤ min 255 (4 + 1) ∧ min 255 (255 + 1) = 255 :=
  ⟨rfl, ready_at (by decide +kernel),
    by decide +kernel⟩

theorem witness_QueriesAnswer :
    Ready on (hdr 6) .query 6 ∧ timeField on 0 = some 0 ∧ timeField on 0xFFFFFFFE = some 4294967294
      ∧ timeField { on with vtu.clock := some { wall := 9, since := 0 } } 0xFFFFFFFF = some 9
      ∧ validProfileField on 0 = some 0 ∧ validProfileField kid 1 = some 1 ∧ profileField 7 = some 7
      ∧ slotField 3 = some 3 ∧ (3 : Byte).toNat ≤ 3 ∧ (15 : Byte).toNat = (15 : Fin 16).val
      ∧ (17 : Byte).toNat = (1 : Fin 2).val + 16 ∧ (1 : Byte).toNat < 2
      ∧ on.vtu.clock = none ∧ serviceEntry on.pss.services 4 = none
      ∧ (serviceEntry [{ service := 4, ratings := [], category := 0, allow := 0, block := 0 }] 4).isSome = true
      ∧ currentEvent guide.prt.entries 1 149 = some entry ∧ currentEvent guide.prt.entries 1 150 = none
      ∧ profileField 1 = some (childNumber 0) ∧ on.child 0 = .invalid ∧ on.curfewActive 0 = false
      ∧ validProfileField kid 1 = some (childNumber 0) ∧ on.au.capture = none
      ∧ (on.report .reopen 0 3 4 0).au.capture.isSome = true ∧ on.wd.windows[(15 : Fin 16)] = none
      ∧ tv.wd.windows[(4 : Fin 16)] = some ing ∧ ing.kind ≠ .picture ∧ ing.kind ≠ .audio
      ∧ tv.wd.windows[(2 : Fin 16)] = some pic ∧ tv.wd.windows[(3 : Fin 16)] = some aud :=
  ⟨ready_at (by decide +kernel), by decide +kernel⟩

theorem witness_AttentionCommands :
    Ready on (hdr 2) .report 2 ∧ Ready on (hdr 0) .report 0 ∧ causeSetField 0x03FF = some 0x3FF
      ∧ causeSetField 0 = some 0 :=
  ⟨ready_at (by decide +kernel), ready_at (by decide +kernel), by decide +kernel⟩

/-- The entry of service `n + 2` in a full table whose every event starts at `start` for a second. -/
def oneOf (start n : Nat) : Entry := { entry with service := n + 2, event := n, start := start, duration := 1 }

/-- A full table, one event of each of 1,024 services. -/
def fullGuide (start : Nat) : List Entry := (List.range 1024).map (oneOf start)

/-- A full table whose entries all start before `core` does. -/
def fullTable : State := on.setEntries (fullGuide 0)

/-- A full table is lawful. -/
theorem fullGuide_lawful (start : Nat) (h : start < 4294967295) : TableLawful (fullGuide start) := by
  have rising := List.pairwise_lt_range (n := 1024)
  refine ⟨by simp [fullGuide], ?_, ?_, ?_⟩
  · intro e he
    obtain ⟨n, hn, rfl⟩ := List.mem_map.mp he
    have := List.mem_range.mp hn
    simp only [Entry.Lawful, oneOf, entry]
    omega
  · exact List.pairwise_map.mpr (rising.imp fun h => .inl (by simpa [oneOf] using h))
  · exact List.pairwise_map.mpr (rising.imp fun h e => by simp [oneOf, Entry.key] at e; omega)

/-- The lawful table of one entry: a version newer and not newer than its own. A full one, from which nothing is taken out:
by rule b the latest start with the lowest service goes for an earlier event, and nothing for a later one. -/
theorem witness_InsertRules :
    TableLawful [entry] ∧ entry.Lawful ∧ ¬ Newer 3 3 ∧ Newer 0 31 ∧ ¬ Newer 19 3 ∧ Newer 18 3
      ∧ ([entry].filter fun f => decide (entry.Spares f)).length < 1024
      ∧ ((fullGuide 200).filter fun f => decide (entry.Spares f)).length = 1024
      ∧ GivenUp none [] entry (fullGuide 200) (oneOf 200 0) ∧ ∀ x, ¬ GivenUp none [] entry (fullGuide 0) x := by
  refine ⟨by decide +kernel, by decide +kernel, by decide, by decide, by decide, by decide, by decide +kernel,
    by decide +kernel, .inr ⟨nofun, ?_⟩, ?_⟩
  · refine ⟨List.mem_map.mpr ⟨0, by simp, rfl⟩, by simp, fun f hf _ => ?_, by decide⟩
    obtain ⟨n, -, rfl⟩ := List.mem_map.mp hf
    exact .inr ⟨rfl, by simp [oneOf]⟩
  · rintro x (⟨w, hw, -⟩ | ⟨-, h⟩)
    · cases hw
    · obtain ⟨n, -, rfl⟩ := List.mem_map.mp h.held
      exact absurd h.nearer (by simp [oneOf])

/-- Rule a: with the clock SET after every end, the earliest end with the lowest service goes. -/
theorem witness_InsertRules_ended : GivenUp (some 201) [] entry (fullGuide 200) (oneOf 200 0) := by
  refine .inl ⟨201, rfl, List.mem_map.mpr ⟨0, by simp, rfl⟩, by decide, fun f hf _ => ?_⟩
  obtain ⟨n, -, rfl⟩ := List.mem_map.mp hf
  exact .inr ⟨rfl, by simp [oneOf]; omega⟩

/-- A new entry stored; the same version again stale; a full table of earlier entries. -/
theorem witness_EventNoticeInserts :
    Ready on (hdr 20) .guide 20 ∧ core.start ≠ 0xFFFFFFFF ∧ entryOf core = some entry
      ∧ insertEntry on.wallNow on.pinnedKeys entry on.prt.entries = .stored [entry] false 0 none
      ∧ insertEntry guide.wallNow guide.pinnedKeys entry guide.prt.entries = .stale entry
      ∧ insertEntry fullTable.wallNow fullTable.pinnedKeys entry fullTable.prt.entries = .full :=
  ⟨ready_at (by decide +kernel), by decide +kernel⟩

theorem witness_WithdrawAndClear :
    Ready guide (hdr 4) .guide 4 ∧ Ready guide (hdr 2) .guide 2 ∧ entryOfKey guide.prt.entries ⟨1, 2⟩ = some entry
      ∧ Ready on (hdr 4) .guide 4 ∧ entryOfKey on.prt.entries ⟨1, 2⟩ = none :=
  ⟨ready_at (by decide +kernel), ready_at (by decide +kernel), by decide +kernel,
    ready_at (by decide +kernel),
    rfl⟩

/-- Counts 1 and 4,096 at the first and the last record position of the window; a run to abort; none to abort. -/
theorem witness_IngestBeginAndAbort :
    Ready tv (hdr 6) .guide 6 ∧ 1 ≤ (1 : BitVec 16).toNat ∧ (4096 : BitVec 16).toNat ≤ 4096
      ∧ (28672 : BitVec 32).toNat % 32 = 0 ∧ (32736 : BitVec 32).toNat % 32 = 0 ∧ tv.prt.ingest = none
      ∧ tv.wd.ingestIndex = some 4 ∧ tv.wd.ingestWindow = some ing ∧ ing.base ≤ (28672 : BitVec 32).toNat
      ∧ (32736 : BitVec 32).toNat ≤ ing.limit ∧ Ready (loading 1) (hdr 0) .guide 0
      ∧ (loading 1).prt.ingest.map Ingest.lane = some (hdr 0).lane ∧ Ready on (hdr 0) .guide 0 ∧ on.prt.ingest = none
      ∧ Ready (loading 1) (hdr1 0) .guide 0 ∧ (loading 1).prt.ingest.map Ingest.lane ≠ some (hdr1 0).lane :=
  by and_intros <;> first | decide +kernel | exact ready_at (by decide +kernel)

/-- An item NONE and a LIVE one; a slot bound to the open profile and one bound to a child; an unrated gap. -/
theorem witness_SlotTuneReplaces :
    Ready on (hdr 18) .present 18 ∧ slotField 0 = some 0 ∧ slotField 3 = some 3
      ∧ itemField 0 (Vector.replicate 16 0) = some .nothing
      ∧ itemField 1 #v[40, 0, 0, 0, 0, 0, 0, 0, 0, 0, 0, 0, 0, 0, 0, 0] = some (.live 40) ∧ (on.slot 0).bound = 0
      ∧ ((kid.setSlot 0 { kid.slot 0 with bound := 1 }).slot 0).bound = childNumber 0
      ∧ unratedGap on.pss.services (.live 40) (position on (.live 40)).1 = true :=
  ⟨ready_at (by decide +kernel), by decide +kernel⟩

/-- With no PIN; with one, to a profile not more permissive than the bound one; compared, and right, for the open profile;
with and without picture windows. -/
theorem witness_SlotBindPends :
    Ready on (hdr 2) .present 2 ∧ slotField 3 = some 3 ∧ validProfileField on 0 = some 0 ∧ on.pinRequired = false
      ∧ notMorePermissive kid 1 0 = true ∧ validProfileField kid 1 = some 1
      ∧ (hidden.slot 0).picture = true ∧ (on.slot 0).picture = false
      ∧ PinPasses on (hdr 2) ∧ PinPasses pinned { hdr 2 with pin := #v[1, 2, 3, 4, 15, 15, 15, 15] }
      ∧ pinned.pinRequired = true ∧ notMorePermissive pinned 0 (pinned.slot 3).bound = false :=
  by and_intros <;> first
    | decide +kernel
    | exact ready_at (by decide +kernel)
    | exact .inl rfl
    | exact .inr ⟨rfl, by decide⟩

/-- A blocked EXTERNAL item, its unlock ahead; a VACANT slot; the PIN UNSET, and SET with its own field. -/
def blockedSlot : State :=
  on.setSlot 0 { on.slot 0 with item := .external 0, bound := 1, decision := .blocked .rating, enforcement := .hiding }

theorem witness_UnlockAndRelock :
    Ready blockedSlot (hdr 1) .present 1 ∧ PinPasses blockedSlot (hdr 1) ∧ slotField 0 = some 0
      ∧ itemKey (blockedSlot.slot 0).item (blockedSlot.slot 0).current = some (.input 0)
      ∧ (blockedSlot.slot 0).decision.unlockable = true
      ∧ (unlockExpiry blockedSlot (blockedSlot.slot 0)).passed blockedSlot = false
      ∧ (reevaluated blockedSlot (blockedSlot.slot 0)).current = (blockedSlot.slot 0).current
      ∧ pinMatches pinned.pss.pin #v[1, 2, 3, 4, 15, 15, 15, 15] = true
      ∧ on.pss.pin = .unset ∧ (on.slot 0).decision.unlockable = false :=
  ⟨ready_at (by decide +kernel), .inl rfl, by decide +kernel⟩

/-- Both ends of the zone offset. The rollover check's three cases stand in `witness_ClockSetSets_days`. -/
theorem witness_ClockSetSets :
    Ready on (hdr 6) .clock 6 ∧ (0 : BitVec 32) ≠ 0xFFFFFFFF ∧ -720 ≤ (0xFD30 : BitVec 16).toInt
      ∧ (0x0348 : BitVec 16).toInt ≤ 840 ∧ (0xFD30 : BitVec 16).toInt = -720 ∧ (0x0348 : BitVec 16).toInt = 840 :=
  ⟨ready_at (by decide +kernel), by decide +kernel⟩

def settings : ProfileFields :=
  { ceilings := Vector.replicate 4 15, blocked := 0, unrated := 0, mode := 0, weekday := 1440, weekend := 1440,
    weekly := 10080, carryCap := 240, warn := 0, extLimit := 60, weights := Vector.replicate 4 8 }

/-- A valid and an INVALID profile; the settings at the ends of their ranges. -/
theorem witness_ProfileWriteStores :
    Ready kid (hdr 21) .admin 21 ∧ PinPasses kid (hdr 21) ∧ profileField 1 = some (childNumber 0)
      ∧ (writtenProfile (kid.child 0) settings).isSome = true ∧ (kid.child 0).valid = true
      ∧ (writtenProfile (kid.child 6) settings).isSome = true ∧ (kid.child 6).valid = false :=
  ⟨ready_at (by decide +kernel), .inl rfl, by decide +kernel⟩

theorem witness_ProfileStateCommands :
    PinPasses kid (hdr 1) ∧ validChildField kid 1 = some 0 ∧ Ready kid (hdr 22) .admin 22 ∧ Ready kid (hdr 1) .admin 1
      ∧ (4 : Byte).toNat ≤ 4
      ∧ (curfewList 4 (Vector.replicate 4 { days := 127, start := 1439, stop := 0 })).isSome = true
      ∧ curfewList 0 (Vector.replicate 4 { days := 0, start := 0, stop := 0 }) = some [] :=
  ⟨.inl rfl, by decide +kernel, ready_at (by decide +kernel), ready_at (by decide +kernel),
    by decide +kernel⟩

/-- A profile no slot uses; and one slot 2 is the first to be bound to. -/
theorem witness_ProfileRemoveForgets :
    Ready kid (hdr 1) .admin 1 ∧ validChildField kid 1 = some 0 ∧ PinPasses kid (hdr 1)
      ∧ firstUse kid (childNumber 0) = none ∧ kid.pss.pin = .unset
      ∧ ((kid.setSlot 2 { kid.slot 2 with bound := 1 }).slot 2).bound = childNumber 0
      ∧ (∀ j : Fin 4, j.val < 2 → useBySlot (kid.setSlot 2 { kid.slot 2 with bound := 1 }) (childNumber 0) j = none) :=
  ⟨ready_at (by decide +kernel), by decide +kernel, .inl rfl, by decide +kernel⟩

/-- `on` with a full service table. -/
def fullServices : State :=
  { on with pss.services := (List.range 256).map fun n =>
      { service := n, ratings := [], category := 0, allow := 0, block := 0 } }

/-- An entry into an empty table, its removal, the removal of an absent one, and a new one into a full table. -/
theorem witness_ServiceTableCommands :
    Ready on (hdr 7) .admin 7 ∧ PinPasses on (hdr 7) ∧ Ready on (hdr 2) .admin 2
      ∧ (serviceFields 40 0x06 0x0F 1 4 0).isSome = true ∧ on.pss.services.length < 256
      ∧ (serviceEntry (after (.serviceWrite (hdr 7) 40 0x06 0x0F 1 4 0) on).pss.services 40).isSome = true
      ∧ on.pss.pin = .unset ∧ serviceEntry on.pss.services 40 = none
      ∧ Ready fullServices (hdr 7) .admin 7 ∧ fullServices.pss.pin = .unset
      ∧ serviceEntry fullServices.pss.services 300 = none ∧ 256 ≤ fullServices.pss.services.length
      ∧ ServicesLawful on.pss.services
      ∧ ServicesLawful (after (.serviceWrite (hdr 7) 40 0x06 0x0F 1 4 0) on).pss.services := by
  and_intros <;> first | decide +kernel | exact .inl rfl | exact ready_at (by decide +kernel)

/-- Minutes 1, 240 and 255, the clamp's two sides; both week flags; time left and none left. -/
theorem witness_GrantAndReset :
    Ready kid (hdr 2) .admin 2 ∧ PinPasses kid (hdr 2) ∧ validChildField kid 1 = some 0 ∧ (1 : Byte) ≠ 0
      ∧ (255 : Byte) ≠ 0 ∧ min 240 (255 : Byte).toNat = 240 ∧ flagField 0 = some false ∧ flagField 1 = some true
      ∧ aboveZero ((after (.allowanceGrant (hdr 2) 1 1) kid).remainingChild 0) = true
      ∧ aboveZero ((after (.usageReset (hdr 2) 1 1) kid).remainingChild 0) = false :=
  ⟨ready_at (by decide +kernel), .inl rfl, by decide +kernel⟩

/-- No digits, 4 and 8 digits; lanes 1 and 3; the hold at and above its clamp. -/
theorem witness_PinLaneSettings :
    PinPasses on (hdr 8) ∧ Ready on (hdr 8) .admin 8 ∧ Ready on (hdr 2) .admin 2
      ∧ newPinDigits (Vector.replicate 8 15) = some []
      ∧ newPinDigits #v[4, 1, 7, 7, 15, 15, 15, 15] = some [4, 1, 7, 7]
      ∧ newPinDigits #v[1, 2, 3, 4, 5, 6, 7, 8] = some [1, 2, 3, 4, 5, 6, 7, 8]
      ∧ permitLane 1 = some 1 ∧ permitLane 3 = some 3 ∧ classSetField 0x7F = some 0x7F
      ∧ (settingsFields on 30 23 0x7F 6 (Vector.replicate 4 0)).isOk = true
      ∧ (settingsFields on 31 0 0 0 (Vector.replicate 4 0)).isOk = true :=
  ⟨.inl rfl, ready_at (by decide +kernel), ready_at (by decide +kernel), by decide +kernel⟩

/-- Entries 2 and 15; the lowest and the highest page; an entry to remove; both halves of the tile. -/
theorem witness_WindowCommands :
    Ready on (hdr 12) .platform 12 ∧ definableIndex 2 = some 2 ∧ definableIndex 15 = some 15
      ∧ (windowFields 3 20480 24575 0 1).toOption = some pic
      ∧ (windowFields 4 2147479552 2147483647 3 0).isOk = true ∧ on.wd.locked = false ∧ on.prt.ingest = none
      ∧ (∀ j : Fin 16, j ≠ 2 → (on.wd.windows[j].any fun v => v.intersects pic) = false)
      ∧ (on.wd.setWindow 2 none).countOf .picture 0 < 4 ∧ (on.wd.setWindow 2 none).countOf .audio 0 < 2
      ∧ Ready tv (hdr 1) .platform 1 ∧ tv.wd.windows[2] = some pic ∧ Ready on (hdr 0) .platform 0
      ∧ Ready on (hdr 33) .platform 33 ∧ (1 : Byte).toNat = (1 : Fin 2).val :=
  by and_intros <;> first | decide +kernel | exact ready_at (by decide +kernel)

/-- `kid` with a limit of an hour on extensions, slot 1 showing it a recording with 10 seconds left. -/
def finishing : State :=
  (kid.setChild 0 { kid.child 0 with extLimit := 60 }).setSlot 1
    { kid.slot 1 with
      item := .recording { title := 1, service := none, ratings := [], flags := 0, category := 0, remaining := some 10 }
      bound := 1, decision := .clear }

/-- Slot 1 is the only one bound to the child, so its recording is the one R141 chooses. -/
theorem witness_Chosen : Chosen finishing 0 (finishing.usage 0) 1 { key := .title 1, expiry := .uptime 10, left := 10 } where
  bound := by decide +kernel
  showing := by decide +kernel
  ends := ⟨10, rfl, rfl, rfl, nofun, fun _ => rfl⟩
  ahead := by decide
  within := by decide +kernel
  unused := by decide +kernel
  first j m q := by
    obtain rfl : j = 1 := by
      have h : ∀ j : Fin 4, (finishing.slot j).bound = childNumber 0 → j = 1 := by decide +kernel
      exact h j q.bound
    obtain ⟨n, hn, -, hl, -⟩ := q.ends
    cases hn
    exact .inr ⟨hl.symm, le_refl _⟩

/-- `kid` with the clock SET while the stored day and week are unknown, a tick due. -/
def unknownDay : State :=
  { kid with vtu.tickDue := true, vtu.clock := some { wall := 790142400, since := 0 }, vtu.acct := none }

/-- A tick due with the clock UNSET: child 1, valid with no time, becomes exhausted; child 2 is INVALID. With the clock SET at
a minute boundary of the stored day, and one second past it; and with the stored day and week unknown, which the tick takes. -/
theorem witness_TickCharges :
    ({ kid with vtu.tickDue := true } : State).phase = .running ∧ kid.vtu.clock = none
      ∧ (kid.child 0).valid = true ∧ (kid.child 1).valid = false
      ∧ ((after .accountingTick { kid with vtu.tickDue := true }).usage 0).exhausted = true
      ∧ (kid.usage 0).exhausted = false ∧ kid.localNow = none
      ∧ ({ kid with vtu.clock := some { wall := 790142400, since := 0 } } : State).localNow = some 790142400
      ∧ accountingDay 4 790142400 ≤ 9145 ∧ 790142400 % 60 = 0 ∧ 790142401 % 60 ≠ 0
      ∧ unknownDay.localNow = some 790142400 ∧ unknownDay.vtu.acct = none
      ∧ (after .accountingTick unknownDay).vtu.acct = some { day := 9145, week := 1307 }
      ∧ (after .accountingTick unknownDay).sc.changed[1] = false := by decide +kernel

/-- Stored day and week unknown: no rollover can be found. -/
theorem witness_TickCharges_unknown : ∀ l, unknownDay.localNow = some l → ¬ RollsOver unknownDay l :=
  fun _ _ h => h.elim fun _ h => nomatch h.1

/-- A tick at the rollover of the worked accrual case's day, A one less. -/
def rolling : State :=
  { kid with vtu.tickDue := true, vtu.clock := some { wall := 790142400, since := 0 },
             vtu.acct := some { day := 9144, week := 1307 } }

/-- CLOCK_SET at a day later than the stored one, at the stored one, and with it unknown. -/
theorem witness_ClockSetSets_days :
    Ready rolling (hdr 6) .clock 6 ∧ 9144 < dayAt rolling (localSeconds (790142400 : BitVec 32).toNat 0)
      ∧ dayAt rolling (localSeconds 790142399 0) = 9144
      ∧ Ready unknownDay (hdr 6) .clock 6 ∧ unknownDay.vtu.acct = none :=
  ⟨ready_at (by decide +kernel), by decide +kernel, by decide +kernel, ready_at (by decide +kernel), rfl⟩

theorem witness_DayRollsAtTick :
    rolling.phase = .running ∧ rolling.vtu.tickDue = true ∧ rolling.localNow = some 790142400
      ∧ rolling.vtu.acct = some { day := 9144, week := 1307 }
      ∧ 9144 < dayAt rolling 790142400 ∧ (rolling.child 0).valid = true
      ∧ accountingWeek 0 9145 ≤ 1307 ∧ 1307 < accountingWeek 0 9151 := by decide +kernel

theorem witness_SecondBegins :
    on.phase = .running ∧ on.vtu.tickDue = false ∧ on.pss.lockoutDue = false
      ∧ ({ on with pss.lockout := some 1, pss.lockoutDue := true } : State).pss.lockoutDue = true
      ∧ ({ on with pss.lockout := some 2 } : State).pss.lockout = some 2 ∧ 1 < 2 := by decide +kernel

/-- A slot whose every timer is due, the clock SET: the boundary at the present second, the countdown at 1 and at 2. -/
def timed : State :=
  { (on.setSlot 0
      { on.slot 0 with
        item := .live 1, boundary := some 5, hold := .running 1, holdDue := true
        unlock := some { key := .gap 1, expiry := .wall 5 }, pending := some { profile := 0, countdown := 1 }
        countdownDue := true }) with vtu.clock := some { wall := 5, since := 0 } }

/-- A slot playing a recording with a second left, its length due. -/
def replaying : Slot :=
  { on.slot 0 with
    item := .recording { title := 1, service := none, ratings := [], flags := 0, category := 0, remaining := some 1 }
    lengthDue := true }

/-- `timed` on service 1's event from 0 to 5, its unlock and its boundary both due. -/
def ended : State :=
  let e : Entry := { entry with start := 0, duration := 5 }
  (timed.setEntries [e]).setSlot 0
    { timed.slot 0 with current := some e.key, unlock := some { key := .event e.key, expiry := .wall 5 } }

/-- R121: the unlock's expiry leaves the slot on the old event until the boundary is taken. -/
theorem test_unlock_before_boundary :
    boundaryDue 0 ended = true ∧ unlockDue 0 ended = true
      ∧ ((ended.slot 0).current.bind (entryOfKey ended.prt.entries)).isSome = true
      ∧ ((after (.unlockExpiry 0) ended).slot 0).current = some ⟨1, 2⟩
      ∧ ((after (.unlockExpiry 0) ended).slot 0).unlock = none
      ∧ ((after (.boundaryExpiry 0) (after (.unlockExpiry 0) ended)).slot 0).current = none := by decide +kernel

theorem witness_SlotTimers :
    timed.phase = .running ∧ boundaryDue 0 timed = true ∧ (timed.slot 0).holdDue = true ∧ unlockDue 0 timed = true
      ∧ (timed.slot 0).countdownDue = true ∧ (timed.slot 0).pending = some { profile := 0, countdown := 1 } ∧ 1 < 2
      ∧ timed.wallNow = some 5 ∧ (timed.slot 0).item = .live 1
      ∧ replaying.lengthDue = true
      ∧ ({ on with vtu.tickDue := true } : State).vtu.tickDue = true ∧ (on.slot 0).boundary = none
      ∧ (on.slot 0).unlock = none ∧ (on.slot 0).holdDue = false
      ∧ boundaryDue 0 { timed with vtu.clock := some { wall := 4, since := 0 } } = false
      ∧ (Expiry.wall 5).passed { timed with vtu.clock := some { wall := 4, since := 0 } } = false := by decide +kernel

/-- An exhausted record with an extension that has ended. -/
def timedOut : Usage := { Usage.zero with ext := some { key := .title 1, expiry := .uptime 0 }, exhausted := true }

/-- A lockout, an extension and an age due; a second of start-up in both its phases. -/
theorem witness_OtherTimers :
    ({ on with pss.lockout := some 1, pss.lockoutDue := true } : State).phase = .running
      ∧ (Expiry.uptime 0).passed on = true
      ∧ timedOut.exhausted = true
      ∧ 60 ≤ (Vector.replicate 7 60)[(3 : Fin 7)] ∧ on.sc.writing = none ∧ (∀ r : Fin 18, on.sc.dirty[r] = false)
      ∧ ({ on with phase := .starting } : State).phase = .starting
      ∧ ({ on with phase := .clearing } : State).phase = .clearing := by decide +kernel

/-- A write of the PIN record under way, two more records dirty, one of them failed. -/
def writing : State :=
  { on with sc.writing := some (.pin { pin := .unset, failures := 0 }),
            sc.dirty := putAt (putAt on.sc.dirty 1 true) 9 true, sc.failed := putAt on.sc.failed 1 true }

/-- R187: after the lane record's write fails the services record's is attempted; when that fails too, each dirty record has
failed in the commit, and the next commit begins with the lane record. -/
theorem test_next_commit :
    let s := after .storeWriteFail
      { on with sc.dirty := putAt on.sc.dirty 9 true, sc.writing := some (.lane #v[3, 13, 17]) }
    s.sc.writing = some (.services []) ∧ (after .storeWriteFail s).sc.writing = some (.lane #v[3, 13, 17]) := by
  decide +kernel

theorem witness_StoreWrites :
    writing.phase ≠ .clearing ∧ writing.sc.writing = some (.pin { pin := .unset, failures := 0 })
      ∧ writing.isDirty .lane = true ∧ writing.isDirty .services = true ∧ writing.sc.failed[RecordId.place .services] = false
      ∧ (after .storeWriteComplete writing).sc.writing = some (.services [])
      ∧ (after .storeWriteFail writing).sc.writing = some (.services [])
      ∧ (after .storeWriteComplete { writing with sc.dirty := Vector.replicate 18 false }).sc.writing = none := by
  decide +kernel

/-- A sound store; a PIN record with count 5; a PIN record and a profile record cut off in their writes. -/
theorem witness_ReleaseLoads :
    State.reset.phase = .inReset ∧ State.reset.sc.store.pin.complete = true
      ∧ State.reset.sc.store.pin.content.inRange = true
      ∧ PinRecord.inRange { pin := .set [1, 2, 3, 4], failures := 5 } = true
      ∧ ((State.reset.sc.store.put false (.pin { pin := .unset, failures := 0 })).pin).complete = false
      ∧ ((State.reset.sc.store.put false (.profile 3 .invalid)).profiles[(3 : Fin 7)]).complete = false
      ∧ (State.reset.sc.store.profiles[(3 : Fin 7)]).complete = true ∧ on.phase ≠ .inReset
      ∧ State.reset.sc.store.lane.complete = true ∧ State.reset.sc.store.services.complete = true
      ∧ ServicesLawful State.reset.sc.store.services.content ∧ State.reset.sc.store.settings.complete = true
      ∧ State.reset.sc.store.settings.content.inRange = true
      ∧ (State.reset.sc.store.usage[(6 : Fin 7)]).complete = true
      ∧ (State.reset.sc.store.usage[(6 : Fin 7)]).content.usage.inRange = true
      ∧ (State.reset.sc.store.usage[(6 : Fin 7)]).content.acct = some { day := 0, week := 0 } := by decide +kernel

/-- Start-up awaited with nothing held, and with two records held in lane 0; a factory clear at its first and last write. -/
def held : State :=
  let s := { on with phase := .starting }
  after (.captureClear (hdr 0)) (after (.captureClear (hdr 0)) s)

/-- A lane holding ATTENTION_SET through start-up, and the channel in PASS-ONLY when that ends. -/
def heldSet : State :=
  after (.startupEnd [0]) (after (.modeLoad 0 0x0104) (after (.attentionSet (hdr 2) 0x0010) rising))

/-- R195: the enable set does not change in PASS-ONLY, and changes when the MODE LOAD that ends it lets the lane take the
record. -/
theorem test_held_in_passOnly :
    heldSet.phase = .running ∧ heldSet.au.enable = 0 ∧ heldSet.attnAsserted = false
      ∧ (after (.modeLoad 0 0x0105) heldSet).au.enable = Cause.channel.bit
      ∧ (after (.modeLoad 0 0x0105) heldSet).attnAsserted = true := by decide +kernel

/-- A mode load that ends PASS-ONLY with a record waiting and with none; a step from PASS-ONLY into PASS-ONLY. -/
theorem witness_PassOnlyEnds :
    heldSet.decodes = true ∧ heldSet.ct.unfollowed.any = true ∧ heldSet.phase = .running
      ∧ (after (.modeLoad 0 0x0105) heldSet).ct.unfollowed.any = false ∧ (heldSet.lane 0).cur.closed = true
      ∧ (after (.modeLoad 0 0x0104) on).NothingWaits ∧ (after (.modeLoad 0 0x0104) on).ct.channel = .passOnly
      ∧ (after (.modeLoad 1 0x0000) heldSet).ct.channel = .passOnly ∧ heldSet.ct.channel = .passOnly
      ∧ heldSet.ChannelAgrees ∧ heldSet.HeldLawful := by decide +kernel

theorem witness_StartupEnds :
    held.ct.channel ≠ .passOnly ∧ (after (.modeLoad 0 0x0104) held).ct.channel = .passOnly
      ∧ (after (.modeLoad 0 0x0104) held).phase = .starting ∧ held.phase = .starting ∧ (held.lane 0).cur.closed = true ∧ (held.lane 0).nxt.closed = true
      ∧ (∀ n : Fin 4, (({ on with phase := .starting } : State).lane n).cur.closed = false)
      ∧ (after (.partResetRelease false 0 true) State.reset).phase = .clearing
      ∧ (after (.partResetRelease false 0 true) State.reset).sc.writing.isSome = true
      ∧ (after (.partResetRelease false 0 true) State.reset).isDirty .lane = true := by decide +kernel

/-- A step from a state that meets every standing law, a tick at the front of its queue. -/
def ticking : State := { on with pending := [.accountingTick] }

theorem witness_StandingLaws :
    ticking.EnforcementAgrees ∧ ticking.PictureAgrees ∧ ticking.TimeOutHides ∧ ticking.ChannelAgrees
      ∧ ticking.OutstandingLawful ∧ TableLawful ticking.prt.entries ∧ ServicesLawful ticking.pss.services
      ∧ ticking.UsageLawful ∧ ticking.LockoutLawful ∧ ticking.LaneZeroWhole ∧ ticking.Settled
      ∧ ticking.BurstsAbandoned
      ∧ step ticking = .next (after .accountingTick on) := by
  and_intros <;> first | rfl | decide +kernel

theorem witness_WindowsLawfulKept : ticking.WindowsLawful := by
  have empty : ∀ i : Fin 16, 2 ≤ i.val → ticking.wd.windows[i] = none := by decide +kernel
  have apart : ∀ i j : Fin 16, i ≠ j → (ticking.wd.windows[i].all fun v => ticking.wd.windows[j].all fun w =>
      !v.intersects w && decide (v.kind = .ingest → w.kind ≠ .ingest)) = true := by decide +kernel
  refine ⟨by decide +kernel, by decide +kernel, ?_, ?_, ?_, by decide +kernel⟩
  · intro i h w hw
    rw [empty i h] at hw
    cases hw
  · intro i j h v hv w hw
    have := apart i j h
    simp_all
  · intro i j h v hv w hw
    have := apart i j h
    simp_all
    tauto

/-- A withdrawal taken while an ingest is ACTIVE, which stays so. -/
theorem witness_IngestWindowKept :
    (loading 2).ChannelAgrees ∧ (loading 2).HeldLawful ∧ (loading 2).BurstsAbandoned
      ∧ (loading 2).IngestLawful ∧ (loading 2).prt.ingest.isSome = true
      ∧ (after (.eventWithdraw (hdr1 4) 1 2) (loading 2)).prt.ingest.isSome = true := by decide +kernel

/-- The tick of `rolling`: its stored day is known. A record taken with the table locked. -/
theorem witness_AccountingDayNeverFalls :
    rolling.vtu.acct = some { day := 9144, week := 1307 } ∧ Runs .accountingTick rolling (after .accountingTick rolling) :=
  ⟨rfl, rfl⟩

theorem witness_LockFreezes :
    (after (.windowLock (hdr 0)) on).wd.locked = true
      ∧ Runs .channelReset (after (.windowLock (hdr 0)) on)
          (after .channelReset (after (.windowLock (hdr 0)) on)) :=
  ⟨by decide +kernel, rfl⟩

end Sys2Proof.Tests
end

section
/-! PROOFS. The taking of records, said once for each operation that takes them: how a lane moves on, and that a record held
in any lane is taken once and no other lane is disturbed (R44, R56). -/

namespace Sys2Proof.Machine

/-! ### One record -/

/-- Between `s` and `t` lane `n` took its expected record: phase, channel and queue are kept, the other lanes keep their
places, and the lane has moved on by one ring slot (R44). -/
structure TookRecord (s t : State) (n : Fin 4) : Prop where
  phase : t.phase = s.phase
  ct : t.ct = s.ct
  pending : t.pending = s.pending
  others : ∀ m, m ≠ n → SamePlace (s.lane m) (t.lane m)
  place : SamePlace (s.lane n).advance (t.lane n)

theorem SamePlace.advance {l m : Lane} (h : SamePlace l m) : SamePlace l.advance m.advance := by
  obtain ⟨he, ht, hc, hn⟩ := h
  exact ⟨by simp [Lane.advance, he], by simp [Lane.advance, he, ht], by simp [Lane.advance, hn],
    by simp [Lane.advance, hc]⟩

theorem takeRecord_took (i : Instr) (code : Byte) (hd : Header) (s : State) :
    TookRecord s (takeRecord (handlerOf i) code hd s) hd.lane := by
  have judged := actKeeps_acceptRecord i (takeCtx hd s) hd s
  unfold takeRecord
  generalize acceptRecord (handlerOf i) (takeCtx hd s) hd s = r at judged
  have replied : ActKeeps s (replyTo hd code (s.lane hd.lane).expected r) :=
    judged.trans (actKeeps_postReply _ _ _ _ _ _ _ _)
  generalize replyTo hd code (s.lane hd.lane).expected r = u at replied
  have commit := actKeeps_startCommit (advanceLane hd.lane u)
  refine ⟨commit.phase.trans replied.phase, commit.ct.trans replied.ct, commit.pending.trans replied.pending,
    fun m hm => ?_, ?_⟩
  · refine SamePlace.trans ?_ (commit.places m)
    rw [advanceLane_otherLane _ _ _ hm]
    exact replied.places m
  · refine SamePlace.trans ?_ (commit.places hd.lane)
    rw [advanceLane_lane]
    exact (replied.places hd.lane).advance

/-- A lane with its expected record closed takes it: a record of some command (R44, R47). -/
theorem takeOne_closed (lane : Fin 4) (s : State) (h : (s.lane lane).cur.closed = true) :
    ∃ i code hd, hd.lane = lane ∧ takeOne lane s = takeRecord (handlerOf i) code hd s :=
  ⟨_, _, headerAt lane (s.lane lane).cur.bytes, rfl, by simp only [takeOne, h, if_true]; rfl⟩

theorem takeOne_took (lane : Fin 4) (s : State) (h : (s.lane lane).cur.closed = true) :
    TookRecord s (takeOne lane s) lane := by
  obtain ⟨i, code, hd, rfl, e⟩ := takeOne_closed lane s h
  exact e ▸ takeRecord_took i code hd s

/-! ### Records in succession -/

/-- The ring slot a lane stands at once it has taken what it holds (R44). -/
def Lane.restsAt (l : Lane) : Fin 64 :=
  l.expected + (if l.cur.closed then if l.nxt.closed then 2 else 1 else 0)

theorem SamePlace.restsAt {l m : Lane} (h : SamePlace l m) : m.restsAt = l.restsAt := by
  simp [Lane.restsAt, h.expected, h.cur, h.nxt]

/-- A record taken leaves the slot its lane comes to rest at. -/
theorem restsAt_advance (l : Lane) (h : l.cur.closed = true) : l.advance.restsAt = l.restsAt := by
  have two : l.expected + 1 + 1 = l.expected + 2 := by rw [add_assoc]; rfl
  cases hn : l.nxt.closed <;> simp [Lane.restsAt, Lane.advance, h, hn, two]

/-- Between `s` and `t` lanes took records they held and nothing else touched them (R44). -/
structure Taking (s t : State) : Prop where
  phase : t.phase = s.phase
  ct : t.ct = s.ct
  pending : t.pending = s.pending
  rests : ∀ n, (t.lane n).restsAt = (s.lane n).restsAt
  curOpen : ∀ n, (s.lane n).cur.closed = false → (t.lane n).cur.closed = false

theorem Taking.refl (s : State) : Taking s s := ⟨rfl, rfl, rfl, fun _ => rfl, fun _ => id⟩

theorem Taking.trans {s t u : State} (a : Taking s t) (b : Taking t u) : Taking s u :=
  ⟨b.phase.trans a.phase, b.ct.trans a.ct, b.pending.trans a.pending, fun n => (b.rests n).trans (a.rests n),
    fun n h => b.curOpen n (a.curOpen n h)⟩

theorem TookRecord.taking {s t : State} {n : Fin 4} (h : TookRecord s t n) (hc : (s.lane n).cur.closed = true) :
    Taking s t := by
  refine ⟨h.phase, h.ct, h.pending, fun m => ?_, fun m hm => ?_⟩
  · by_cases e : m = n
    · subst e; rw [h.place.restsAt, restsAt_advance _ hc]
    · exact (h.others m e).restsAt
  · have e : m ≠ n := by rintro rfl; simp [hc] at hm
    rw [(h.others m e).cur, hm]

theorem takeOne_taking (lane : Fin 4) (s : State) : Taking s (takeOne lane s) := by
  cases h : (s.lane lane).cur.closed with
  | false => rw [takeOne_open _ _ h]; exact .refl s
  | true => exact (takeOne_took lane s h).taking h

theorem takeHeld_taking (lane : Fin 4) (s : State) : Taking s (takeHeld lane s) :=
  (takeOne_taking lane s).trans (takeOne_taking lane _)

/-- After one record is taken, the taking of the next leaves the expected buffer open: at most two were staged (R44). -/
theorem TookRecord.next_curOpen {s t : State} {n : Fin 4} (h : TookRecord s t n) :
    ((takeOne n t).lane n).cur.closed = false := by
  cases hc : (t.lane n).cur.closed with
  | false => rw [takeOne_open _ _ hc, hc]
  | true =>
    rw [(takeOne_took n t hc).place.cur]
    show (t.lane n).nxt.closed = false
    rw [h.place.nxt]; rfl

/-- A lane that takes its held records is left with its expected buffer open (R44). -/
theorem takeHeld_curOpen (lane : Fin 4) (s : State) : ((takeHeld lane s).lane lane).cur.closed = false := by
  cases h : (s.lane lane).cur.closed with
  | false => rw [takeHeld_open _ _ h, h]
  | true => exact (takeOne_took lane s h).next_curOpen

/-- Where the expected record was held, both buffers are open afterwards (R44). -/
theorem takeHeld_nxtOpen (lane : Fin 4) (s : State) (h : (s.lane lane).cur.closed = true) :
    ((takeHeld lane s).lane lane).nxt.closed = false := by
  have first := (takeOne_took lane s h).place
  cases h' : ((takeOne lane s).lane lane).cur.closed with
  | false => rw [takeHeld, takeOne_open _ _ h', first.nxt]; rfl
  | true => rw [takeHeld, (takeOne_took lane _ h').place.nxt]; rfl

/-- Records taken one for each name of a list of lanes (R56; log 7). -/
theorem foldl_takeOne_taking (order : List (Fin 4)) (s : State) :
    Taking s (order.foldl (fun t lane => takeOne lane t) s) := by
  induction order generalizing s with
  | nil => exact .refl s
  | cons lane rest ih => exact (takeOne_taking lane s).trans (ih _)

/-- The lanes of a list take all they hold, and those are left with their expected buffers open (R44, R56). -/
theorem foldl_takeHeld_taking (lanes : List (Fin 4)) (s : State) :
    Taking s (lanes.foldl (fun t lane => takeHeld lane t) s)
      ∧ ∀ n ∈ lanes, ((lanes.foldl (fun t lane => takeHeld lane t) s).lane n).cur.closed = false := by
  induction lanes generalizing s with
  | nil => exact ⟨.refl s, by simp⟩
  | cons lane rest ih =>
    obtain ⟨htaking, hopen⟩ := ih (takeHeld lane s)
    refine ⟨(takeHeld_taking lane s).trans htaking, fun n hn => ?_⟩
    rcases List.mem_cons.mp hn with rfl | hn
    · exact htaking.curOpen _ (takeHeld_curOpen _ _)
    · exact hopen n hn

theorem takeAll_taking (order : List (Fin 4)) (s : State) : Taking s (takeAll order s) :=
  (foldl_takeOne_taking order s).trans (foldl_takeHeld_taking slotList _).1

/-- Where every lane takes what it holds, none is left with its expected buffer closed (R44, R56). -/
theorem takeAll_curOpen (order : List (Fin 4)) (s : State) (n : Fin 4) :
    ((takeAll order s).lane n).cur.closed = false := by
  have listed : n ∈ slotList := by revert n; decide
  unfold takeAll
  exact (foldl_takeHeld_taking slotList _).2 n listed

/-- A lane that took records and is left with its expected buffer open took every one it held (R44, R56). -/
theorem Taking.tookHeld {s t : State} (h : Taking s t) (n : Fin 4) (ho : (t.lane n).cur.closed = false) :
    TookHeld s t n := by
  have rests := h.rests n
  refine ⟨ho, ?_⟩
  simpa [Lane.restsAt, ho] using rests

theorem takeAll_tookHeld (order : List (Fin 4)) (s : State) (n : Fin 4) : TookHeld s (takeAll order s) n :=
  (takeAll_taking order s).tookHeld n (takeAll_curOpen order s n)

end Sys2Proof.Machine
end

section
/-! PROOFS. What a taken record can do to the window table and to the run of an ingest, said once for every handler (R25 to
R28, R74 to R80, R180 to R182). -/

namespace Sys2Proof.Machine

/-! ### Effects that leave both alone -/

/-- The window table and the run of an ingest are kept. -/
structure GuideKept (s t : State) : Prop where
  wd : t.wd = s.wd
  ingest : t.prt.ingest = s.prt.ingest

@[simp] theorem GuideKept.refl (s : State) : GuideKept s s := ⟨rfl, rfl⟩

theorem GuideKept.trans {s t u : State} (a : GuideKept s t) (b : GuideKept t u) : GuideKept s u :=
  ⟨b.wd.trans a.wd, b.ingest.trans a.ingest⟩

theorem OnlySlots.guide {s t : State} (h : OnlySlots s t) : GuideKept s t := ⟨h.wd, by rw [h.prt]⟩

theorem OnlyViewing.guide {s t : State} (h : OnlyViewing s t) : GuideKept s t := ⟨h.wd, by rw [h.prt]⟩

@[simp] theorem guideKept_reevaluateAs (i : Fin 4) (x : Slot) (s : State) : GuideKept s (reevaluateAs i x s) :=
  (onlySlots_reevaluateAs i x s).guide

@[simp] theorem guideKept_setFailures (s : State) (n : Nat) : GuideKept s (s.setFailures n) :=
  ⟨setFailures_wd s n, by rw [setFailures_prt]⟩

theorem guideKept_failCompare (s : State) : GuideKept s (failCompare s) := by
  unfold failCompare
  simp only
  split
  · exact ⟨setFailures_wd s _, by simp⟩
  · exact guideKept_setFailures s _

/-- A new table content whose services are reported (R67, R68, R71). -/
@[simp] theorem guideKept_reportEntries (l : List Nat) (table : List Entry) (s : State) :
    GuideKept s (reportServices l (s.setEntries table)) :=
  (GuideKept.mk (setEntries_wd s table) rfl).trans (onlySlots_reportServices _ _).guide

@[simp] theorem guideKept_applyInsert (e : Entry) (r : InsertResult) (s : State) : GuideKept s (applyInsert e r s) := by
  unfold applyInsert
  split
  · exact guideKept_reportEntries _ _ s
  · exact .refl s
  · exact .refl s

@[simp] theorem guideKept_withdraw (k : Key) (s : State) : GuideKept s (withdraw k s) := guideKept_reportEntries _ _ s

@[simp] theorem guideKept_setSuspended (c : Fin 7) (b : Bool) (s : State) : GuideKept s (setSuspended c b s) := by
  refine GuideKept.trans ?_ (onlySlots_reportProfile _ _).guide
  exact ⟨rfl, rfl⟩

@[simp] theorem guideKept_storeCurfews (c : Fin 7) (cs : List Curfew) (s : State) : GuideKept s (storeCurfews c cs s) := by
  have stored : GuideKept s (s.setChild c { s.child c with curfews := cs }) := ⟨rfl, rfl⟩
  exact ((stored.trans (onlyViewing_recomputeCurfew c _).guide).trans (onlyViewing_markDirty _ _).guide).trans
    (onlySlots_reportProfile _ _).guide

@[simp] theorem guideKept_storeServices (n : Nat) (t : List ServiceEntry) (s : State) :
    GuideKept s (storeServices n t s) := by
  refine GuideKept.trans ?_ (onlySlots_reportServiceEntry _ _).guide
  exact ⟨rfl, rfl⟩

@[simp] theorem guideKept_storeProfile (c : Fin 7) (p : Profile) (s : State) : GuideKept s (storeProfile c p s) := by
  have child : ∀ q, GuideKept s (s.setChild c q) := fun _ => ⟨rfl, rfl⟩
  unfold storeProfile
  refine GuideKept.trans ?_ (onlySlots_reportProfile _ _).guide
  refine GuideKept.trans ?_ (onlyViewing_markDirty _ _).guide
  split
  · exact (child p).trans ((onlyViewing_lowerCarry _ _).trans (onlyViewing_restore _ _)).guide
  · exact (child _).trans
      (((onlyViewing_setUsage _ _ _).trans (onlyViewing_setCurfew _ _ _)).trans (onlyViewing_markDirty _ _)).guide

@[simp] theorem guideKept_bindSlot (i : Fin 4) (p : Fin 8) (s : State) : GuideKept s (bindSlot i p s) := by
  unfold bindSlot
  simp only
  split
  · exact (onlySlots_setSlot s i _).guide
  · exact (onlySlots_setSlot s i _).guide.trans (onlySlots_applyPending _ _).guide

@[simp] theorem guideKept_dropProfile (c : Fin 7) (s : State) : GuideKept s (dropProfile c s) := by
  unfold dropProfile
  simp only
  split <;> exact ⟨by simp, by simp⟩

/-- A grant or a reset of a usage record, restored (R144, R176). -/
@[simp] theorem guideKept_restoreUsage (c : Fin 7) (u : Usage) (s : State) :
    GuideKept s (restore c ((s.setUsage c u).markDirty (.usage c))) :=
  (((onlyViewing_setUsage s _ _).trans (onlyViewing_markDirty _ _)).trans (onlyViewing_restore _ _)).guide

theorem guideKept_forChildren (f : Fin 7 → State → State) (h : ∀ c s, GuideKept s (f c s)) (s : State) :
    GuideKept s (forChildren f s) :=
  forChildren_induct (P := GuideKept s) f (fun c t ht => ht.trans (h c t)) s (.refl s)

theorem guideKept_clockBeforeReports (wall : Nat) (zone : Int) (s : State) :
    GuideKept s (clockBeforeReports wall zone s) := by
  have started : GuideKept s (startClock wall zone s) := by
    refine GuideKept.trans ?_ (guideKept_forChildren _ (fun c t => (onlyViewing_setUsage t c _).guide) _)
    exact ⟨rfl, rfl⟩
  have ended : ∀ t, GuideKept t (endPastExtensions wall t) := fun t =>
    guideKept_forChildren _ (fun c u => by
      split
      · exact (onlyViewing_setUsage u c _).guide
      · exact .refl u) t
  exact (started.trans (ended _)).trans ((onlyViewing_rolloverCheck _).trans (onlyViewing_recomputeCurfews _)).guide

@[simp] theorem guideKept_setClock (wall : Nat) (zone : Int) (s : State) : GuideKept s (setClock wall zone s) := by
  have slots : ∀ t, GuideKept t (clockToSlots wall t) := fun t =>
    ((onlyViewing_forSlots _ (fun i u => (onlySlots_setSlot u i _).viewing) t).trans
      (onlySlots_reevaluateWhere _ _).viewing).guide
  exact ((guideKept_clockBeforeReports wall zone s).trans
    ((onlyViewing_markDirty _ .settings).trans (onlyViewing_reportDiffering s _)).guide).trans (slots _)

/-! ### What the handlers do -/

/-- What a taken record can do to the window table and the run of an ingest. -/
inductive TableEffect (s t : State) : Prop
  /-- Nothing, but that the table is locked or the fill tile written. -/
  | kept (windows : t.wd.windows = s.wd.windows) (strap : t.wd.strapCb = s.wd.strapCb)
      (ingest : t.prt.ingest = s.prt.ingest)
  /-- An ingest begins, with an INGEST window (R74). -/
  | begun (wd : t.wd = s.wd) (idle : s.prt.ingest = none) (window : s.wd.ingestIndex.isSome = true)
  /-- An ingest ends (R79). -/
  | ended (wd : t.wd = s.wd) (idle : t.prt.ingest = none)
  /-- Entry `i` becomes `w`, which passed WINDOW_DEFINE's checks (R180). -/
  | defined (i : Fin 16) (w : Window) (wd : t.wd = s.wd.setWindow i (some w))
      (ingest : t.prt.ingest = s.prt.ingest) (index : 2 ≤ i.val) (lawful : w.Lawful) (busy : defineBusy s i w.kind = false)
      (apart : overlapIndex s.wd i w = none) (room : tableFullFor s.wd i w = false)
  /-- Entry `i`, not that of an ACTIVE ingest, is removed (R181). -/
  | removed (i : Fin 16) (wd : t.wd = s.wd.setWindow i none) (ingest : t.prt.ingest = s.prt.ingest)
      (index : 2 ≤ i.val) (free : s.prt.ingest.isSome = true → s.wd.ingestIndex ≠ some i)

theorem GuideKept.effect {s t : State} (h : GuideKept s t) : TableEffect s t :=
  .kept (by rw [h.wd]) (by rw [h.wd]) h.ingest

theorem TableEffect.refl (s : State) : TableEffect s s := (GuideKept.refl s).effect

theorem changeWindows_tables (wd : WD) (s : State) :
    (changeWindows wd s).wd = wd ∧ (changeWindows wd s).prt.ingest = s.prt.ingest := by
  unfold changeWindows
  refine forSlots_induct (P := fun t => t.wd = wd ∧ t.prt.ingest = s.prt.ingest) _ (fun i t ht => ?_) _ ⟨rfl, rfl⟩
  split
  · rw [reportPicture_wd, reportPicture_prt]; exact ht
  · exact ht

/-- The fields WINDOW_DEFINE accepts give a window that entries 2 to 15 may hold (R24, R25, R180). -/
theorem windowFields_lawful (kind : Byte) (base limit : BitVec 32) (slot guard : Byte) (w : Window)
    (h : windowFields kind base limit slot guard = .ok w) : w.Lawful := by
  unfold windowFields at h
  split at h
  · cases h
  next k hk =>
  have kinds : k ≠ .control ∧ k ≠ .reply := by
    revert hk; unfold definableKind; repeat' split
    all_goals rintro ⟨⟩
    all_goals simp
  split at h
  next range =>
    obtain ⟨aligned, _, ends, wide, top⟩ := of_decide_eq_true range
    split at h
    · split at h
      · cases h
      next size =>
        cases h
        exact ⟨kinds.1, kinds.2, aligned, ends, wide, top, fun _ => by simpa using size⟩
    next notIngest =>
      split at h
      · cases h
      split at h
      · cases h
      cases h
      exact ⟨kinds.1, kinds.2, aligned, ends, wide, top, fun e => absurd e notIngest⟩
  · cases h

theorem definableIndex_le (b : Byte) (i : Fin 16) (h : definableIndex b = some i) : 2 ≤ i.val := by
  unfold definableIndex at h
  split at h
  · next hb => rw [← Option.some.inj h]; exact hb.1
  · simp at h

theorem tableEffect_windowDefine (index kind : Byte) (base limit : BitVec 32) (slot guard : Byte) (x : TakeCtx)
    (s : State) : TableEffect s ((windowDefine index kind base limit slot guard).act x s).state := by
  simp only [windowDefine, Handler.free]
  split
  · exact .refl s
  next i hi =>
  split
  · exact .refl s
  next w hw =>
  split
  · exact .refl s
  split
  · exact .refl s
  next busy =>
  split
  · exact .refl s
  next apart =>
  split
  · exact .refl s
  next room =>
  obtain ⟨hwd, hingest⟩ := changeWindows_tables (s.wd.setWindow i (some w)) s
  exact .defined i w hwd hingest (definableIndex_le _ _ hi) (windowFields_lawful _ _ _ _ _ _ hw) (by simpa using busy)
    apart (by simpa using room)

theorem tableEffect_windowRemove (index : Byte) (x : TakeCtx) (s : State) :
    TableEffect s ((windowRemove index).act x s).state := by
  simp only [windowRemove, Handler.free]
  split
  · exact .refl s
  next i hi =>
  split
  · exact .refl s
  split
  · exact .refl s
  next busy =>
  split
  · exact .refl s
  next w hw =>
  obtain ⟨hwd, hingest⟩ := changeWindows_tables (s.wd.setWindow i none) s
  refine .removed i hwd hingest (definableIndex_le _ _ hi) fun active he => busy ?_
  simp [active, he]

theorem tableEffect_ingestBegin (start : BitVec 32) (count : BitVec 16) (x : TakeCtx) (s : State) :
    TableEffect s ((ingestBegin start count).act x s).state := by
  simp only [ingestBegin, Handler.free]
  repeat' split
  all_goals simp only [refuse_state, accept_state, TableEffect.refl]
  next idle _ _ i w hi hw _ => exact .begun rfl idle (by rw [hi]; rfl)

theorem tableEffect_ingestAbort (x : TakeCtx) (s : State) : TableEffect s (ingestAbort.act x s).state := by
  simp only [ingestAbort, Handler.free]
  split
  · exact .refl s
  · exact .ended rfl rfl

/-- What a record command's own effect can do to the window table and the run of an ingest: WINDOW_DEFINE, WINDOW_REMOVE,
INGEST_BEGIN and INGEST_ABORT alone do anything to either. -/
theorem tableEffect_handlerOf (i : Instr) (H : Handler) (h : handlerOf i = some H) (x : TakeCtx) (s : State) :
    TableEffect s (H.act x s).state := by
  cases i <;> simp only [handlerOf, Option.some.injEq, reduceCtorEq] at h <;> subst h
  case windowDefine => exact tableEffect_windowDefine _ _ _ _ _ _ x s
  case windowRemove => exact tableEffect_windowRemove _ x s
  case ingestBegin => exact tableEffect_ingestBegin _ _ x s
  case ingestAbort => exact tableEffect_ingestAbort x s
  case windowLock => exact .kept rfl rfl rfl
  case fillTileWrite =>
    simp only [fillTileWrite, Handler.free]
    repeat' split
    all_goals exact .kept rfl rfl rfl
  case readEvent | ratingCheck | readProfile | readUsage | readSlot | readService | readCapture | readWindow =>
    simp only [readEvent, ratingCheck, readProfile, readUsage, readSlot, readService, readCapture, readWindow,
      Handler.free]
    repeat' split
    all_goals exact .refl s
  case attentionSet | attentionClear | captureClear | pinSet | settingsWrite | lanePermit =>
    simp only [attentionSet, attentionClear, captureClear, pinSet, settingsWrite, lanePermit, Handler.free,
      Handler.gated]
    repeat' split
    all_goals exact .kept rfl rfl rfl
  all_goals refine GuideKept.effect ?_
  case eventNotice | eventWithdraw | serviceEventsClear | clockSet =>
    simp only [eventNotice, eventWithdraw, serviceEventsClear, clockSet, Handler.free]
    repeat' split
    all_goals simp only [accept_state, refuse_state, GuideKept.refl, guideKept_applyInsert, guideKept_withdraw,
      guideKept_reportEntries, guideKept_setClock]
  case slotTune | slotBind | slotUnlock | slotRelock =>
    simp only [slotTune, tuneSlot, slotBind, slotUnlock, unlockSlot, slotRelock, relockSlot, Handler.free,
      Handler.gated]
    repeat' split
    all_goals simp only [accept_state, refuse_state, GuideKept.refl, guideKept_reevaluateAs, guideKept_bindSlot]
  case profileWrite | profileCurfew | profileSuspend | profileResume | profileRemove =>
    simp only [profileWrite, profileCurfew, profileSuspend, profileResume, profileRemove, Handler.gated]
    repeat' split
    all_goals simp only [accept_state, refuse_state, GuideKept.refl, guideKept_storeProfile, guideKept_storeCurfews,
      guideKept_setSuspended, guideKept_dropProfile]
  case serviceWrite | serviceRemove | allowanceGrant | usageReset =>
    simp only [serviceWrite, serviceRemove, allowanceGrant, usageReset, Handler.gated]
    repeat' split
    all_goals simp only [accept_state, refuse_state, GuideKept.refl, guideKept_storeServices, guideKept_restoreUsage]

/-! ### What the taking of a record does -/

/-- What keeps both before and after an effect leaves the effect what it was. -/
theorem TableEffect.between {s u v t : State} (a : GuideKept s u) (h : TableEffect u v) (b : GuideKept v t) :
    TableEffect s t := by
  obtain ⟨aw, ai⟩ := a
  obtain ⟨bw, bi⟩ := b
  cases h with
  | kept windows strap ingest => exact .kept (by rw [bw, windows, aw]) (by rw [bw, strap, aw]) (by rw [bi, ingest, ai])
  | begun wd idle window => exact .begun (by rw [bw, wd, aw]) (ai ▸ idle) (aw ▸ window)
  | ended wd idle => exact .ended (by rw [bw, wd, aw]) (bi.trans idle)
  | defined i w wd ingest index lawful busy apart room =>
    refine .defined i w (by rw [bw, wd, aw]) (by rw [bi, ingest, ai]) index lawful ?_ (aw ▸ apart) (aw ▸ room)
    simpa [defineBusy, aw, ai] using busy
  | removed i wd ingest index free =>
    exact .removed i (by rw [bw, wd, aw]) (by rw [bi, ingest, ai]) index (by rw [← ai, ← aw]; exact free)

theorem tableEffect_judgePin (H : Handler) (hH : ∀ x s, TableEffect s (H.act x s).state) (x : TakeCtx)
    (pin : Vector Byte 8) (s : State) : TableEffect s (judgePin H x pin s).state := by
  unfold judgePin
  split
  · split
    · exact .refl s
    · split
      · exact .between (guideKept_setFailures s 0) (hH _ _) (.refl _)
      · exact (guideKept_failCompare s).effect
  · exact hH _ _

theorem tableEffect_acceptRecord (i : Instr) (x : TakeCtx) (hd : Header) (s : State) :
    TableEffect s (acceptRecord (handlerOf i) x hd s).state := by
  unfold acceptRecord
  cases h : handlerOf i with
  | none => exact .refl s
  | some H =>
    simp only
    split
    · split
      · exact tableEffect_judgePin H (tableEffect_handlerOf i H h) x hd.pin s
      · exact .refl s
    · exact .refl s

theorem tableEffect_takeRecord (i : Instr) (code : Byte) (hd : Header) (s : State) :
    TableEffect s (takeRecord (handlerOf i) code hd s) :=
  .between (.refl s) (tableEffect_acceptRecord i (takeCtx hd s) hd s) ⟨by simp [takeRecord, advanceLane, replyTo],
    by simp [takeRecord, advanceLane, replyTo]⟩

theorem tableEffect_takeOne (lane : Fin 4) (s : State) : TableEffect s (takeOne lane s) := by
  cases h : (s.lane lane).cur.closed with
  | false => rw [takeOne_open _ _ h]; exact .refl s
  | true =>
    obtain ⟨i, code, hd, -, e⟩ := takeOne_closed lane s h
    exact e ▸ tableEffect_takeRecord i code hd s

end Sys2Proof.Machine
end

section
/-! PROOFS. The laws of the window table and of the INGEST entry under what a taken record can do (R24 to R26, R72). -/

namespace Sys2Proof.Machine

/-! ### Counting and finding windows -/

/-- The number of entries whose window has a property. -/
def WD.countWhere (wd : WD) (p : Window → Bool) : Nat := wd.windows.toList.countP fun o => o.any p

theorem countOf_eq (wd : WD) (kind : WindowKind) (k : Fin 4) :
    wd.countOf kind k = wd.countWhere fun w => w.kind = kind && w.slot = k := by
  unfold WD.countOf WD.valid WD.countWhere
  rw [← List.countP_eq_length_filter, List.countP_filterMap]
  congr 1
  funext o
  cases o <;> rfl

/-- A window put in an entry counts beside those of the other entries. -/
theorem countWhere_some (wd : WD) (p : Window → Bool) (i : Fin 16) (w : Window) :
    (wd.setWindow i (some w)).countWhere p = (wd.setWindow i none).countWhere p + if p w then 1 else 0 := by
  simp [WD.countWhere, WD.setWindow, putAt, Vector.toList_set, List.countP_set]

theorem countWhere_none_le (wd : WD) (p : Window → Bool) (i : Fin 16) :
    (wd.setWindow i none).countWhere p ≤ wd.countWhere p := by
  simp [WD.countWhere, WD.setWindow, putAt, Vector.toList_set, List.countP_set]

theorem toList_eq_indices (wd : WD) : wd.windows.toList = windowIndices.map fun i => wd.windows[i] := by
  have all : windowIndices = List.finRange 16 := by decide
  rw [all]
  exact List.ext_getElem (by simp) (by simp)

/-- The INGEST window is the window of the INGEST entry. -/
theorem ingestWindow_eq (wd : WD) : wd.ingestWindow = wd.ingestIndex.bind fun i => wd.windows[i] := by
  unfold WD.ingestWindow WD.ingestIndex WD.valid
  rw [List.find?_filterMap, toList_eq_indices, List.find?_map]
  simp only [Option.bind_map]
  rfl

theorem setWindow_same (wd : WD) (i : Fin 16) (o : Option Window) : (wd.setWindow i o).windows[i] = o :=
  putAt_same _ _ _

theorem setWindow_other (wd : WD) (i j : Fin 16) (o : Option Window) (h : j ≠ i) :
    (wd.setWindow i o).windows[j] = wd.windows[j] := putAt_other _ _ _ _ h

/-- A search finds the same where one element it does not find stops being found. -/
theorem find?_congr_but {α : Type} (l : List α) (p q : α → Bool) (a : α) (same : ∀ b, b ≠ a → q b = p b)
    (ha : q a = false) (found : l.find? p ≠ some a) : l.find? q = l.find? p := by
  induction l with
  | nil => rfl
  | cons b l ih =>
    by_cases e : b = a
    · subst e
      cases hp : p b with
      | false => simp [hp, ha] at found ⊢; exact ih found
      | true => simp [hp] at found
    · cases hp : p b with
      | false => simp [hp, same b e] at found ⊢; exact ih found
      | true => simp [hp, same b e]

/-- The INGEST entry stands where another entry takes a window of another kind, or none. -/
theorem ingestIndex_setWindow (wd : WD) (i : Fin 16) (o : Option Window) (h : wd.ingestIndex ≠ some i)
    (ho : ∀ w ∈ o, w.kind ≠ .ingest) :
    (wd.setWindow i o).ingestIndex = wd.ingestIndex ∧ (wd.setWindow i o).ingestWindow = wd.ingestWindow := by
  have index : (wd.setWindow i o).ingestIndex = wd.ingestIndex := by
    refine find?_congr_but _ _ _ i (fun j hj => by rw [setWindow_other wd i j o hj]) ?_ h
    rw [setWindow_same]
    cases o with
    | none => rfl
    | some w => simpa using ho w rfl
  refine ⟨index, ?_⟩
  rw [ingestWindow_eq, ingestWindow_eq, index]
  cases hj : wd.ingestIndex with
  | none => rfl
  | some j => exact setWindow_other wd i j o (by rintro rfl; exact h hj)

/-! ### The table's laws -/

theorem intersects_comm (v w : Window) : v.intersects w = w.intersects v := by
  simp [Window.intersects, and_comm]

/-- The laws of a window table (R25, R26). -/
def WD.Lawful (wd : WD) : Prop :=
  wd.windows[0] = (WD.atReset wd.strapCb).windows[0] ∧ wd.windows[1] = (WD.atReset wd.strapCb).windows[1]
    ∧ (∀ i : Fin 16, 2 ≤ i.val → ∀ w ∈ wd.windows[i], w.Lawful)
    ∧ (∀ i j : Fin 16, i ≠ j → ∀ v ∈ wd.windows[i], ∀ w ∈ wd.windows[j], v.intersects w = false)
    ∧ (∀ i j : Fin 16, i ≠ j → ∀ v ∈ wd.windows[i], ∀ w ∈ wd.windows[j], v.kind = .ingest → w.kind ≠ .ingest)
    ∧ ∀ k : Fin 4, wd.countOf .picture k ≤ 4 ∧ wd.countOf .audio k ≤ 2

theorem windowsLawful_iff (s : State) : s.WindowsLawful ↔ s.wd.Lawful := Iff.rfl

theorem WD.Lawful.congr {v w : WD} (h : w.Lawful) (hw : v.windows = w.windows) (hs : v.strapCb = w.strapCb) :
    v.Lawful := by
  have count : ∀ kind k, v.countOf kind k = w.countOf kind k := fun kind k => by simp [WD.countOf, WD.valid, hw]
  simpa only [WD.Lawful, hw, hs, count] using h

/-- A removed entry breaks no law (R181). -/
theorem WD.Lawful.remove {wd : WD} (h : wd.Lawful) (i : Fin 16) (hi : 2 ≤ i.val) : (wd.setWindow i none).Lawful := by
  obtain ⟨zero, one, each, apart, ingest, room⟩ := h
  have held : ∀ j : Fin 16, ∀ w ∈ (wd.setWindow i none).windows[j], w ∈ wd.windows[j] := by
    intro j w hw
    by_cases e : j = i
    · subst e; rw [setWindow_same] at hw; cases hw
    · rwa [setWindow_other wd i j none e] at hw
  refine ⟨?_, ?_, fun j hj w hw => each j hj w (held j w hw), fun j k hjk v hv w hw => apart j k hjk v (held j v hv) w
    (held k w hw), fun j k hjk v hv w hw => ingest j k hjk v (held j v hv) w (held k w hw), fun k => ?_⟩
  · exact (setWindow_other wd i 0 none (by rintro rfl; exact absurd hi (by decide))).trans zero
  · exact (setWindow_other wd i 1 none (by rintro rfl; exact absurd hi (by decide))).trans one
  · simp only [countOf_eq] at room ⊢
    exact ⟨(countWhere_none_le wd _ i).trans (room k).1, (countWhere_none_le wd _ i).trans (room k).2⟩

theorem mem_windowIndices (i : Fin 16) : i ∈ windowIndices := by
  revert i; decide

/-- WINDOW_DEFINE's overlap check: no other entry's window intersects (R180). -/
theorem overlapIndex_none {wd : WD} {i : Fin 16} {w : Window} (h : overlapIndex wd i w = none) (j : Fin 16) (hj : j ≠ i)
    (v : Window) (hv : v ∈ wd.windows[j]) : v.intersects w = false := by
  have := List.find?_eq_none.mp h j (mem_windowIndices j)
  rw [Option.mem_def] at hv
  simpa [hj, hv] using this

/-- WINDOW_DEFINE's check on INGEST windows: no other entry has one (R180). -/
theorem tableFullFor_ingest {wd : WD} {i : Fin 16} {w : Window} (h : tableFullFor wd i w = false)
    (hw : w.kind = .ingest) (j : Fin 16) (hj : j ≠ i) (v : Window) (hv : v ∈ wd.windows[j]) : v.kind ≠ .ingest := by
  intro hk
  have noIngest : (wd.setWindow i none).ingestIndex = none := by
    simp only [tableFullFor, hw, ingestWindow_eq] at h
    rw [← setWindow_other wd i j none hj, Option.mem_def] at hv
    cases hf : (wd.setWindow i none).ingestIndex with
    | none => rfl
    | some k =>
      have found := List.find?_some hf
      cases hk' : (wd.setWindow i none).windows[k] <;> simp_all
  have := List.find?_eq_none.mp noIngest j (mem_windowIndices j)
  rw [setWindow_other wd i j _ hj, Option.mem_def.mp hv] at this
  simp [hk] at this

/-- A window that passed WINDOW_DEFINE's checks breaks no law (R180). -/
theorem WD.Lawful.define {wd : WD} (h : wd.Lawful) (i : Fin 16) (w : Window) (hi : 2 ≤ i.val) (hw : w.Lawful)
    (apart : overlapIndex wd i w = none) (room : tableFullFor wd i w = false) : (wd.setWindow i (some w)).Lawful := by
  have removed := h.remove i hi
  obtain ⟨zero, one, each, disjoint, ingest, counts⟩ := h
  have held : ∀ j : Fin 16, ∀ v ∈ (wd.setWindow i (some w)).windows[j],
      (j = i ∧ v = w) ∨ (j ≠ i ∧ v ∈ wd.windows[j]) := by
    intro j v hv
    by_cases e : j = i
    · subst e; rw [setWindow_same] at hv; exact .inl ⟨rfl, (Option.some.inj hv).symm⟩
    · rw [setWindow_other wd i j _ e] at hv; exact .inr ⟨e, hv⟩
  refine ⟨?_, ?_, fun j hj v hv => ?_, fun j k hjk u hu v hv => ?_, fun j k hjk u hu v hv => ?_, fun k => ?_⟩
  · exact (setWindow_other wd i 0 _ (by rintro rfl; exact absurd hi (by decide))).trans zero
  · exact (setWindow_other wd i 1 _ (by rintro rfl; exact absurd hi (by decide))).trans one
  · rcases held j v hv with ⟨-, rfl⟩ | ⟨-, hv⟩
    · exact hw
    · exact each j hj v hv
  · rcases held j u hu with ⟨rfl, rfl⟩ | ⟨hj, hu⟩ <;> rcases held k v hv with ⟨rfl, rfl⟩ | ⟨hk, hv⟩
    · exact absurd rfl hjk
    · rw [intersects_comm]; exact overlapIndex_none apart k hk v hv
    · exact overlapIndex_none apart j hj u hu
    · exact disjoint j k hjk u hu v hv
  · rcases held j u hu with ⟨rfl, rfl⟩ | ⟨hj, hu⟩ <;> rcases held k v hv with ⟨rfl, rfl⟩ | ⟨hk, hv⟩
    · exact absurd rfl hjk
    · exact fun hu => tableFullFor_ingest room hu k hk v hv
    · exact fun hu' hv' => tableFullFor_ingest room hv' j hj u hu hu'
    · exact ingest j k hjk u hu v hv
  · obtain ⟨-, -, -, -, -, removedCounts⟩ := removed
    have rest := removedCounts k
    simp only [countOf_eq, countWhere_some] at rest ⊢
    simp only [tableFullFor, countOf_eq] at room
    constructor
    · split
      next hp =>
        simp only [Bool.and_eq_true, decide_eq_true_eq] at hp
        obtain ⟨hkind, rfl⟩ := hp
        simp only [hkind, decide_eq_false_iff_not] at room
        omega
      next => exact rest.1
    · split
      next hp =>
        simp only [Bool.and_eq_true, decide_eq_true_eq] at hp
        obtain ⟨hkind, rfl⟩ := hp
        simp only [hkind, decide_eq_false_iff_not] at room
        omega
      next => exact rest.2

theorem TableEffect.windowsLawful {s t : State} (h : TableEffect s t) (hs : s.WindowsLawful) : t.WindowsLawful := by
  rw [windowsLawful_iff] at hs ⊢
  cases h with
  | kept windows strap _ => exact hs.congr windows strap
  | begun wd _ _ => exact wd ▸ hs
  | ended wd _ => exact wd ▸ hs
  | defined i w wd _ index lawful _ apart room => exact wd ▸ hs.define i w index lawful apart room
  | removed i wd _ index _ => exact wd ▸ hs.remove i index

/-! ### The INGEST entry -/

/-- The INGEST entry keeps its index, base and limit. -/
def SameIngestEntry (s t : State) : Prop :=
  t.wd.ingestIndex = s.wd.ingestIndex ∧ t.wd.ingestWindow = s.wd.ingestWindow

theorem SameIngestEntry.of_wd {s t : State} (h : t.wd = s.wd) : SameIngestEntry s t := ⟨by rw [h], by rw [h]⟩

/-- An ACTIVE ingest has its INGEST window (R25, R72). -/
def State.IngestBacked (s : State) : Prop := s.prt.ingest.isSome = true → s.wd.ingestIndex.isSome = true

/-- A record taken while an ingest is ACTIVE before it or after it leaves the INGEST entry as it was. -/
theorem TableEffect.sameIngestEntry {s t : State} (h : TableEffect s t)
    (active : s.prt.ingest.isSome = true ∨ t.prt.ingest.isSome = true) : SameIngestEntry s t := by
  cases h with
  | kept windows _ _ =>
    simp only [SameIngestEntry, WD.ingestIndex, WD.ingestWindow, WD.valid, windows, and_self]
  | begun wd _ _ => exact .of_wd wd
  | ended wd _ => exact .of_wd wd
  | defined i w wd ingest _ _ busy _ _ =>
    rw [ingest, or_self] at active
    simp only [defineBusy, active, Bool.true_and, Bool.or_eq_false_iff, decide_eq_false_iff_not] at busy
    rw [SameIngestEntry, wd]
    exact ingestIndex_setWindow s.wd i _ busy.1 (by rintro _ ⟨⟩; exact busy.2)
  | removed i wd ingest _ free =>
    rw [ingest, or_self] at active
    rw [SameIngestEntry, wd]
    exact ingestIndex_setWindow s.wd i _ (free active) (by rintro _ ⟨⟩)

theorem TableEffect.backed {s t : State} (h : TableEffect s t) (hs : s.IngestBacked) : t.IngestBacked := by
  intro active
  rw [(h.sameIngestEntry (.inr active)).1]
  cases h with
  | kept _ _ ingest => exact hs (ingest ▸ active)
  | begun _ _ window => exact window
  | ended _ idle => simp [idle] at active
  | defined _ _ _ ingest _ _ _ _ _ => exact hs (ingest ▸ active)
  | removed _ _ ingest _ _ => exact hs (ingest ▸ active)

/-! ### Records in succession -/

/-- What every taken record keeps of the two tables. -/
structure TablesKept (s t : State) : Prop where
  lawful : s.WindowsLawful → t.WindowsLawful
  backed : s.IngestBacked → t.IngestBacked

theorem TablesKept.refl (s : State) : TablesKept s s := ⟨id, id⟩

theorem TablesKept.trans {s t u : State} (a : TablesKept s t) (b : TablesKept t u) : TablesKept s u :=
  ⟨fun h => b.lawful (a.lawful h), fun h => b.backed (a.backed h)⟩

theorem TableEffect.tablesKept {s t : State} (h : TableEffect s t) : TablesKept s t := ⟨h.windowsLawful, h.backed⟩

theorem GuideKept.tablesKept {s t : State} (h : GuideKept s t) : TablesKept s t := h.effect.tablesKept

theorem takeOne_tablesKept (lane : Fin 4) (s : State) : TablesKept s (takeOne lane s) :=
  (tableEffect_takeOne lane s).tablesKept

theorem takeHeld_tablesKept (lane : Fin 4) (s : State) : TablesKept s (takeHeld lane s) :=
  (takeOne_tablesKept lane s).trans (takeOne_tablesKept lane _)

theorem foldl_tablesKept (f : Fin 4 → State → State) (hf : ∀ n s, TablesKept s (f n s)) (l : List (Fin 4)) (s : State) :
    TablesKept s (l.foldl (fun t n => f n t) s) := by
  induction l generalizing s with
  | nil => exact .refl s
  | cons n l ih => exact (hf n s).trans (ih _)

theorem takeAll_tablesKept (order : List (Fin 4)) (s : State) : TablesKept s (takeAll order s) :=
  (foldl_tablesKept takeOne takeOne_tablesKept order s).trans
    (foldl_tablesKept takeHeld takeHeld_tablesKept slotList _)

/-- Two effects in succession, an ingest ACTIVE before the first and after the second, leave the INGEST entry: a run that
the first ended the second began, which changes no window. -/
theorem TableEffect.sameIngestEntry_two {s t u : State} (a : TableEffect s t) (b : TableEffect t u)
    (before : s.prt.ingest.isSome = true) (after : u.prt.ingest.isSome = true) : SameIngestEntry s u := by
  obtain ⟨index₁, window₁⟩ := a.sameIngestEntry (.inl before)
  obtain ⟨index₂, window₂⟩ := b.sameIngestEntry (.inr after)
  exact ⟨index₂.trans index₁, window₂.trans window₁⟩

end Sys2Proof.Machine
end

section
/-! PROOFS. Everything a step can do, said once: each command's run is one of ten kinds, and the timers and the store's
completions touch neither the channel, the windows, the lanes nor the guide. -/

namespace Sys2Proof.Machine

/-! ### Timers and store completions -/

/-- The channel, the window table, the lanes and the guide are kept, and of the phase at most a factory clear ends. -/
structure PathKept (s t : State) : Prop where
  ct : t.ct = s.ct
  wd : t.wd = s.wd
  lc : t.lc = s.lc
  prt : t.prt = s.prt
  phase : t.phase = s.phase ∨ (s.phase = .clearing ∧ t.phase = .starting)

theorem PathKept.refl (s : State) : PathKept s s := ⟨rfl, rfl, rfl, rfl, .inl rfl⟩

theorem PathKept.trans {s t u : State} (a : PathKept s t) (b : PathKept t u) : PathKept s u := by
  refine ⟨b.ct.trans a.ct, b.wd.trans a.wd, b.lc.trans a.lc, b.prt.trans a.prt, ?_⟩
  rcases a.phase with ha | ⟨ha, ha'⟩ <;> rcases b.phase with hb | ⟨hb, hb'⟩
  · exact .inl (hb.trans ha)
  · exact .inr ⟨ha ▸ hb, hb'⟩
  · exact .inr ⟨ha, hb.trans ha'⟩
  · rw [ha'] at hb; cases hb

theorem OnlySlots.path {s t : State} (h : OnlySlots s t) : PathKept s t := ⟨h.ct, h.wd, h.lc, h.prt, .inl h.phase⟩

theorem OnlyViewing.path {s t : State} (h : OnlyViewing s t) : PathKept s t := ⟨h.ct, h.wd, h.lc, h.prt, .inl h.phase⟩

theorem OnlyCommit.path {s t : State} (h : OnlyCommit s t) : PathKept s t := ⟨h.ct, h.wd, h.lc, h.prt, .inl h.phase⟩

theorem pathKept_fallCountdown (i : Fin 4) (s : State) : PathKept s (fallCountdown i s) := by
  unfold fallCountdown
  split
  · exact (onlySlots_setSlot s i _).path
  · split
    · exact (onlySlots_applyPending i s).path
    · exact (onlySlots_setSlot s i _).path

theorem pathKept_expireExtension (c : Fin 7) (s : State) : PathKept s (expireExtension c s) :=
  ((onlyViewing_setUsage s c _).trans (onlySlots_reportProfile _ _).viewing).path

theorem pathKept_expireUsageAge (c : Fin 7) (s : State) : PathKept s (expireUsageAge c s) :=
  (onlyViewing_markDirty s _).path.trans (onlyCommit_startCommit _).path

theorem pathKept_expireLockout (s : State) : PathKept s (expireLockout s) := ⟨rfl, rfl, rfl, rfl, .inl rfl⟩

theorem pathKept_whenDue (due : State → Bool) (act : State → State) (h : ∀ s, PathKept s (act s)) (s : State) :
    PathKept s (whenDue due act s) := by
  unfold whenDue
  split
  · exact h s
  · exact .refl s

theorem pathKept_flushSlot (i : Fin 4) (s : State) : PathKept s (flushSlot i s) :=
  ((((pathKept_whenDue _ _ (fun t => (onlySlots_reevaluateAs i _ t).path) s).trans
    (pathKept_whenDue _ _ (fun t => (onlySlots_reevaluateAs i _ t).path) _)).trans
    (pathKept_whenDue _ _ (fun t => (onlySlots_expireUnlock i t).path) _)).trans
    (pathKept_whenDue _ _ (pathKept_fallCountdown i) _)).trans
    (pathKept_whenDue _ _ (fun t => (onlySlots_setSlot t i _).path) _)

theorem pathKept_flushChild (c : Fin 7) (s : State) : PathKept s (flushChild c s) :=
  (pathKept_whenDue _ _ (pathKept_expireExtension c) s).trans (pathKept_whenDue _ _ (pathKept_expireUsageAge c) _)

theorem pathKept_beginSecond (s : State) : PathKept s (beginSecond s) := ⟨rfl, rfl, rfl, rfl, .inl rfl⟩

theorem pathKept_nextSecond (s : State) : PathKept s (nextSecond s) := by
  have lockout := pathKept_whenDue lockoutDue expireLockout pathKept_expireLockout s
  have slots := forSlots_induct (P := PathKept s) flushSlot (fun i t h => h.trans (pathKept_flushSlot i t)) _ lockout
  have flushed : PathKept s (flushSecond s) :=
    forChildren_induct (P := PathKept s) flushChild (fun c t h => h.trans (pathKept_flushChild c t)) _ slots
  exact flushed.trans (pathKept_beginSecond _)

/-- An expiry does its own act, at once or in the next second, or nothing (log 3). -/
theorem pathKept_expiry (due : State → Bool) (act : State → State) (h : ∀ s, PathKept s (act s)) (s : State) :
    PathKept s (expiry due act s) := by
  unfold expiry
  repeat' split
  · exact h s
  · exact .refl s
  · exact (pathKept_nextSecond s).trans (h _)
  · exact .refl s
  · exact .refl s

theorem pathKept_accountingTick (s : State) : PathKept s (accountingTick s) := by
  have ticked : ∀ t, PathKept t (startCommit (tickBody { t with vtu.tickDue := false })) := fun t => by
    have body := (onlyViewing_tickBody { t with vtu.tickDue := false }).path
    have whole := body.trans (onlyCommit_startCommit _).path
    exact ⟨whole.ct, whole.wd, whole.lc, whole.prt, whole.phase⟩
  unfold accountingTick
  simp only
  split
  · split
    · exact ticked s
    · exact (pathKept_nextSecond s).trans (ticked _)
  · exact .refl s

/-- The end of the load: its slots, CLOCK, the start of a commit, and the phase (R189 steps 6 and 7). -/
theorem finishLoad_path (s : State) : (finishLoad s).ct = s.ct ∧ (finishLoad s).wd = s.wd ∧ (finishLoad s).lc = s.lc
    ∧ (finishLoad s).prt = s.prt ∧ (finishLoad s).phase = .starting := by
  have commit := onlyCommit_startCommit { (resetSlots s).raise .clock with phase := .starting }
  exact ⟨commit.ct, commit.wd, commit.lc, commit.prt, commit.phase⟩

theorem pathKept_continueCommit (s : State) : PathKept s (continueCommit s) := by
  unfold continueCommit
  simp only
  split
  · have begun := onlyCommit_beginWrite ‹_› { s with sc.writing := none }
    exact ⟨begun.ct, begun.wd, begun.lc, begun.prt, .inl begun.phase⟩
  · have begun := onlyCommit_startCommit { s with sc.writing := none, sc.failed := Vector.replicate 18 false }
    exact ⟨begun.ct, begun.wd, begun.lc, begun.prt, .inl begun.phase⟩

theorem pathKept_afterWrite (s : State) : PathKept s (afterWrite s) := by
  unfold afterWrite
  split
  next clearing =>
    unfold continueClear
    split
    · exact (onlyCommit_beginWrite _ s).path
    · obtain ⟨ct, wd, lc, prt, phase⟩ := finishLoad_path s
      exact ⟨ct, wd, lc, prt, .inr ⟨clearing, phase⟩⟩
  next => exact pathKept_continueCommit s

theorem pathKept_completeWrite (s : State) : PathKept s (completeWrite s) := by
  unfold completeWrite
  split <;> exact ⟨rfl, rfl, rfl, rfl, .inl rfl⟩

theorem pathKept_failWrite (s : State) : PathKept s (failWrite s) := by
  unfold failWrite
  split <;> exact ⟨rfl, rfl, rfl, rfl, .inl rfl⟩

/-! ### The kinds of step -/

/-- What a command's run can come to. -/
inductive StepCase (s : State) : State → Prop
  /-- A command of R2 is presented while clock enable is high. -/
  | presented (l : Lines) : StepCase s (present l s)
  /-- Clock enable rises. -/
  | rose : StepCase s (riseEnable s)
  /-- Clock enable falls. -/
  | fell (l : Lines) : StepCase s (fallEnable l s)
  /-- The DRAM reset line is asserted. -/
  | lineReset : StepCase s (assertLine (if s.isReleased then resetChannel s else s))
  /-- A data beat passes. -/
  | beat (dir : Dir) (index : Nat) (data : BitVec 32) (mask : BitVec 4) : StepCase s (passBeat dir index data mask s)
  /-- A record is closed whole in its lane (log 5). -/
  | record (i : Instr) (hd : Header) (code : Byte) (body : List Byte) :
      StepCase s (presentRecord (handlerOf i) hd code body s)
  /-- A timer, a store completion, or nothing. -/
  | path (t : State) (kept : PathKept s t) : StepCase s t
  /-- The part reset input is asserted. -/
  | reset : StepCase s (State.inReset s.sc.store s.ct.arr s.wd.strapCb s.ct.toPins s.pending)
  /-- The part reset input is released. -/
  | released (arr : Bool) (cb : Byte) (fclr : Bool) : s.phase = .inReset → StepCase s (release arr cb fclr s)
  /-- Start-up ends. -/
  | started (order : List (Fin 4)) : s.phase = .starting → StepCase s (endStartup order s)

/-- A record command's run is its record closed in its lane, under the handler of the command. -/
theorem exec_record (i : Instr) (h : (handlerOf i).isSome = true) (s : State) :
    exec i s = .next (closeRecord i (handlerOf i) s) := by
  cases i <;> cases h <;> rfl

theorem stepCase_closeRecord (i : Instr) (s : State) : StepCase s (closeRecord i (handlerOf i) s) := by
  unfold closeRecord
  split
  · exact .record i _ _ _
  · exact .path s (.refl s)

theorem stepCase_expiry (due : State → Bool) (act : State → State) (h : ∀ s, PathKept s (act s)) (s : State) :
    StepCase s (expiry due act s) := .path _ (pathKept_expiry due act h s)

/-- Every run of a command is one of the kinds of step. -/
theorem exec_stepCase (i : Instr) (s : State) : ∃ t, exec i s = .next t ∧ StepCase s t := by
  cases record : (handlerOf i).isSome with
  | true => exact ⟨_, exec_record i record s, stepCase_closeRecord i s⟩
  | false =>
    cases i
    case bankOpen | readBurst | writeBurst | bankClose | closeAll | refresh | modeLoad => exact ⟨_, rfl, .presented _⟩
    case restEntry | idleEntry => exact ⟨_, rfl, .fell _⟩
    case restExit | idleExit => exact ⟨_, rfl, .rose⟩
    case channelReset => exact ⟨_, rfl, .lineReset⟩
    case dataBeat => exact ⟨_, rfl, .beat _ _ _ _⟩
    case unknownCommand hd code =>
      refine ⟨_, rfl, ?_⟩
      split
      · exact stepCase_closeRecord (.unknownCommand hd code) s
      · exact .path s (.refl s)
    case lockoutExpiry => exact ⟨_, rfl, stepCase_expiry _ _ pathKept_expireLockout s⟩
    case accountingTick => exact ⟨_, rfl, .path _ (pathKept_accountingTick s)⟩
    case extensionExpiry c => exact ⟨_, rfl, stepCase_expiry _ _ (pathKept_expireExtension c) s⟩
    case boundaryExpiry n | holdExpiry n =>
      exact ⟨_, rfl, stepCase_expiry _ _ (fun t => (onlySlots_reevaluateAs n _ t).path) s⟩
    case unlockExpiry n => exact ⟨_, rfl, stepCase_expiry _ _ (fun t => (onlySlots_expireUnlock n t).path) s⟩
    case pendingCountdown n => exact ⟨_, rfl, stepCase_expiry _ _ (pathKept_fallCountdown n) s⟩
    case countdownExpiry n => exact ⟨_, rfl, stepCase_expiry _ _ (fun t => (onlySlots_applyPending n t).path) s⟩
    case recordingLengthExpiry n =>
      exact ⟨_, rfl, stepCase_expiry _ _ (fun t => (onlySlots_setSlot t n _).path) s⟩
    case usageAgeExpiry c => exact ⟨_, rfl, stepCase_expiry _ _ (pathKept_expireUsageAge c) s⟩
    case storeWriteComplete =>
      refine ⟨_, rfl, .path _ ?_⟩
      split
      · exact (pathKept_completeWrite s).trans (pathKept_afterWrite _)
      · exact .refl s
    case storeWriteFail =>
      refine ⟨_, rfl, .path _ ?_⟩
      split
      · exact (pathKept_failWrite s).trans (pathKept_afterWrite _)
      · exact .refl s
    case partReset => exact ⟨_, rfl, .reset⟩
    case partResetRelease arr cb fclr =>
      refine ⟨_, rfl, ?_⟩
      split
      · exact .path s (.refl s)
      next asserted => exact .released arr cb fclr (by simpa [State.isReleased] using asserted)
    case startupEnd order =>
      refine ⟨_, rfl, ?_⟩
      split
      next starting => exact .started order starting
      next => exact .path s (.refl s)
    case startupSecond =>
      refine ⟨_, rfl, .path _ ?_⟩
      split <;> exact ⟨rfl, rfl, rfl, rfl, .inl rfl⟩
    all_goals exact absurd record.symm Bool.false_ne_true

/-- A step of the machine is a kind of step with another queue, or, with nothing in the queue, none. -/
theorem step_cases {s t : State} (h : step s = .next t) : t = s ∨ ∃ q, StepCase { s with pending := q } t := by
  unfold step at h
  split at h
  · cases h; exact .inl rfl
  next c rest _ =>
    obtain ⟨u, hu, case⟩ := exec_stepCase c { s with pending := rest }
    rw [hu] at h
    cases h
    exact .inr ⟨rest, case⟩

/-- What every kind of step keeps, whatever the queue, a step of the machine keeps. -/
theorem step_keeps {P : State → Prop} (queue : ∀ s q, P s → P { s with pending := q })
    (kept : ∀ s t, StepCase s t → P s → P t) (s t : State) (hs : P s) (h : step s = .next t) : P t := by
  obtain rfl | ⟨q, case⟩ := step_cases h
  · exact hs
  · exact kept _ _ case (queue s q hs)

end Sys2Proof.Machine
end

section
/-! PROOFS. The commands of the channel: what each leaves of the channel's state and of the other blocks, and how bursts join
and leave the outstanding list (R1 to R23). -/

namespace Sys2Proof.Machine

/-! ### Frames of the channel's operations -/

/-- Changing the re-driven side, the banks or the list of bursts alone keeps every other block. -/
theorem onlyChannel_ct (s : State) (c : CT) : OnlyChannel s { s with ct := c } :=
  ⟨rfl, rfl, rfl, rfl, rfl, rfl, rfl, rfl⟩

theorem OnlyChannel.refl (s : State) : OnlyChannel s s := onlyChannel_ct s s.ct

theorem OnlyChannel.trans {s t u : State} (a : OnlyChannel s t) (b : OnlyChannel t u) : OnlyChannel s u :=
  ⟨b.phase.trans a.phase, b.wd.trans a.wd, b.lc.trans a.lc, b.prt.trans a.prt, b.pss.trans a.pss, b.vtu.trans a.vtu,
    b.sc.trans a.sc, b.pending.trans a.pending⟩

theorem HeldKept.refl (s : State) : HeldKept s s := ⟨rfl, rfl, rfl, rfl, rfl, rfl, rfl, rfl, rfl, rfl⟩

theorem HeldKept.trans {s t u : State} (a : HeldKept s t) (b : HeldKept t u) : HeldKept s u :=
  ⟨b.form.trans a.form, b.readLat.trans a.readLat, b.addLat.trans a.addLat, b.writeLat.trans a.writeLat,
    b.unfollowed.trans a.unfollowed, b.channel.trans a.channel, b.arr.trans a.arr, b.cke.trans a.cke,
    b.drst.trans a.drst, b.holds.trans a.holds⟩

theorem heldKept_of_ct {s t : State} (h : t.ct = s.ct) : HeldKept s t := by
  constructor <;> rw [h]

/-- A channel operation that changes neither a held value nor another block than SDU and AU. -/
structure LineKept (s t : State) : Prop where
  held : HeldKept s t
  only : OnlyChannel s t

theorem LineKept.refl (s : State) : LineKept s s := ⟨.refl s, .refl s⟩

theorem LineKept.trans {s t u : State} (a : LineKept s t) (b : LineKept t u) : LineKept s u :=
  ⟨a.held.trans b.held, a.only.trans b.only⟩

theorem lineKept_driveLines (l : Lines) (s : State) : LineKept s (driveLines l s) :=
  ⟨⟨rfl, rfl, rfl, rfl, rfl, rfl, rfl, rfl, rfl, rfl⟩, onlyChannel_ct s _⟩

theorem lineKept_driveBeat (b : BeatOut) (s : State) : LineKept s (driveBeat b s) :=
  ⟨⟨rfl, rfl, rfl, rfl, rfl, rfl, rfl, rfl, rfl, rfl⟩, onlyChannel_ct s _⟩

theorem lineKept_setBank (s : State) (ba : BitVec 3) (x : Option (BitVec 16)) : LineKept s (s.setBank ba x) :=
  ⟨⟨rfl, rfl, rfl, rfl, rfl, rfl, rfl, rfl, rfl, rfl⟩, onlyChannel_ct s _⟩

theorem lineKept_closeBanks (s : State) : LineKept s (closeBanks s) :=
  ⟨⟨rfl, rfl, rfl, rfl, rfl, rfl, rfl, rfl, rfl, rfl⟩, onlyChannel_ct s _⟩

theorem lineKept_pushBurst (b : Burst) (s : State) : LineKept s (pushBurst b s) :=
  ⟨⟨rfl, rfl, rfl, rfl, rfl, rfl, rfl, rfl, rfl, rfl⟩, onlyChannel_ct s _⟩

theorem lineKept_report (s : State) (k : CaptureKind) (block : Nat) (bank : BitVec 3) (row col : Nat) :
    LineKept s (s.report k block bank row col) :=
  ⟨heldKept_of_ct (by simp), by simp, by simp, by simp, by simp, by simp, by simp, by simp, by simp⟩

theorem OnlySlots.line {s t : State} (h : OnlySlots s t) : LineKept s t :=
  ⟨heldKept_of_ct h.ct, h.phase, h.wd, h.lc, h.prt, h.pss, h.vtu, h.sc, h.pending⟩

/-! ### Reports (R197) -/

theorem report_reported (s : State) (k : CaptureKind) (block : Nat) (bank : BitVec 3) (row col : Nat) :
    Reported s (s.report k block bank row col) k block bank row col :=
  ⟨report_empty s k block bank row col, report_filled s k block bank row col⟩

/-- What a report says is told by the attention block alone. -/
theorem Reported.congr {s t s' t' : State} {k : CaptureKind} {block : Nat} {bank : BitVec 3} {row col : Nat}
    (h : Reported s t k block bank row col) (hs : s'.au = s.au) (ht : t'.au = t.au) :
    Reported s' t' k block bank row col := by
  simpa only [Reported, hs, ht] using h

/-! ### The bank table -/

theorem lineKept_openBank (ba : BitVec 3) (row : BitVec 16) (s : State) : LineKept s (openBank ba row s) := by
  unfold openBank
  simp only
  split
  · exact (lineKept_report s _ _ _ _ _).trans (lineKept_setBank _ _ _)
  · exact lineKept_setBank s _ _

theorem openBank_outstanding (ba : BitVec 3) (row : BitVec 16) (s : State) :
    (openBank ba row s).ct.outstanding = s.ct.outstanding ∧ (openBank ba row s).ct.out = s.ct.out := by
  simp only [openBank]
  split <;> simp [State.setBank]

theorem lineKept_refreshBanks (s : State) : LineKept s (refreshBanks s) := by
  unfold refreshBanks
  split
  · exact (lineKept_report s _ _ _ _ _).trans (lineKept_closeBanks _)
  · exact lineKept_closeBanks s

theorem refreshBanks_outstanding (s : State) : (refreshBanks s).ct.outstanding = s.ct.outstanding := by
  unfold refreshBanks
  split <;> simp [closeBanks]

/-! ### Column commands -/

/-- What a classification answers: the state it leaves keeps the channel and every block but SDU and AU (R29). -/
theorem classify_line (dir : Dir) (len block : Nat) (ba : BitVec 3) (row : BitVec 16) (col : Nat) (s : State) :
    LineKept s (classify dir len block ba row col s).state
      ∧ (classify dir len block ba row col s).state.ct = s.ct := by
  have slots : ∀ {t : State}, OnlySlots s t → LineKept s t ∧ t.ct = s.ct := fun h => ⟨h.line, h.ct⟩
  cases dir with
  | read =>
    simp only [classify, classifyRead]
    split
    · exact slots (.refl s)
    · split
      case h_4 w _ _ _ =>
        unfold classifyPictureRead
        split
        · have frame := onlySlots_takeFrameStart w.slot s
          simp only
          split
          · exact slots (frame.trans (onlySlots_setSlot _ _ _))
          · exact slots frame
          · exact slots frame
        · split <;> exact slots (.refl s)
      case h_5 => split <;> exact slots (.refl s)
      all_goals exact slots (.refl s)
  | write =>
    simp only [classify, classifyWrite]
    split
    · exact slots (.refl s)
    · split
      case h_2 => exact ⟨lineKept_report s _ _ _ _ _, report_ct s _ _ _ _ _⟩
      all_goals exact slots (.refl s)

/-- A burst as it joins the list: of 4 or 8 beats, none passed, starting within its block (R11, R12, R14). -/
structure Burst.Fresh (b : Burst) : Prop where
  len : b.len = 4 ∨ b.len = 8
  passed : b.passed = 0
  start : b.start < b.len

theorem burstLength_cases (form : BurstForm) (select : Bool) :
    burstLength form select = 4 ∨ burstLength form select = 8 := by
  cases form <;> cases select <;> simp [burstLength]

theorem closedBurst_fresh (dir : Dir) (form : BurstForm) (select : Bool) (ba : BitVec 3) (col : Nat) :
    (closedBurst dir (burstLength form select) ba col).Fresh := by
  have len := burstLength_cases form select
  exact ⟨len, rfl, Nat.mod_lt _ (by omega)⟩

theorem openBurst_fresh (dir : Dir) (form : BurstForm) (select : Bool) (block : Nat) (ba : BitVec 3) (col : Nat)
    (row : BitVec 16) (c : Classified) : (openBurst dir (burstLength form select) block ba col row c).Fresh := by
  have len := burstLength_cases form select
  exact ⟨len, rfl, Nat.mod_lt _ (by omega)⟩

/-- A list of bursts is kept, or where it has room takes a fresh one at its end (R14). -/
def Joined (s t : State) : Prop :=
  t.ct.outstanding = s.ct.outstanding
    ∨ (s.ct.outstanding.length < 8 ∧ ∃ b : Burst, b.Fresh ∧ t.ct.outstanding = s.ct.outstanding ++ [b])

theorem columnClosed_line (dir : Dir) (ba : BitVec 3) (a : BitVec 16) (s : State) :
    LineKept s (columnClosed dir ba a s) ∧ Joined s (columnClosed dir ba a s) := by
  have reported := lineKept_report s .closedBank 0 ba 0 (columnOf a)
  simp only [columnClosed]
  split
  next room =>
    refine ⟨reported.trans (lineKept_pushBurst _ _), .inr ⟨of_decide_eq_true room, _, closedBurst_fresh dir s.ct.form
      (burstSelect a) ba (columnOf a), ?_⟩⟩
    simp [pushBurst]
  next => exact ⟨reported, .inl (by simp)⟩

theorem columnOpen_line (dir : Dir) (ba : BitVec 3) (row a : BitVec 16) (s : State) :
    LineKept s (columnOpen dir ba row a s) ∧ Joined s (columnOpen dir ba row a s) := by
  simp only [columnOpen]
  generalize hc : classify dir _ _ ba row (columnOf a) s = c
  obtain ⟨line, ct⟩ : LineKept s c.state ∧ c.state.ct = s.ct := hc ▸ classify_line _ _ _ _ _ _ s
  have entered : ∀ b : Burst, b.Fresh →
      LineKept s (if s.hasRoom then pushBurst b c.state else s) ∧ Joined s (if s.hasRoom then pushBurst b c.state else s) := by
    intro b fresh
    split
    next room => exact ⟨line.trans (lineKept_pushBurst _ _), .inr ⟨of_decide_eq_true room, b, fresh, by simp [pushBurst, ct]⟩⟩
    next => exact ⟨.refl s, .inl rfl⟩
  obtain ⟨kept, joined⟩ := entered _ (openBurst_fresh dir s.ct.form (burstSelect a) (columnBlock s ba row a) ba
    (columnOf a) row c)
  split
  · exact ⟨kept.trans (lineKept_setBank _ _ _), joined⟩
  · exact ⟨kept, joined⟩

theorem columnCommand_line (dir : Dir) (ba : BitVec 3) (a : BitVec 16) (s : State) :
    LineKept s (columnCommand dir ba a s) ∧ Joined s (columnCommand dir ba a s) := by
  unfold columnCommand
  split
  · exact columnClosed_line dir ba a s
  · exact columnOpen_line dir ba _ a s

/-- What the lines of a command do where it is no MODE LOAD: no held value and no block but CT, SDU and AU is touched, and
at most one burst joins the list (R2 to R9). -/
theorem commandEffect_line (l : Lines) (s : State) (h : l.group ≠ .mode) :
    LineKept s (commandEffect l s) ∧ Joined s (commandEffect l s) := by
  unfold commandEffect
  split
  · exact ⟨.refl s, .inl rfl⟩
  · exact ⟨.refl s, .inl rfl⟩
  · exact ⟨lineKept_openBank _ _ s, .inl (openBank_outstanding _ _ s).1⟩
  · exact columnCommand_line _ _ _ s
  · split
    · exact ⟨lineKept_closeBanks s, .inl rfl⟩
    · exact ⟨lineKept_setBank s _ _, .inl rfl⟩
  · exact ⟨lineKept_refreshBanks s, .inl (refreshBanks_outstanding s)⟩
  next mode => exact absurd mode h

/-! ### MODE LOAD -/

/-- A load touches the held values and the unfollowed set alone (R18). -/
theorem loadMode_keeps (reg : Nat) (a : BitVec 16) (ct : CT) :
    (loadMode reg a ct).toPins = ct.toPins ∧ (loadMode reg a ct).banks = ct.banks
      ∧ (loadMode reg a ct).channel = ct.channel ∧ (loadMode reg a ct).outstanding = ct.outstanding
      ∧ (loadMode reg a ct).arr = ct.arr := by
  unfold loadMode
  split <;> exact ⟨rfl, rfl, rfl, rfl, rfl⟩

/-- CT after a MODE LOAD: where the unfollowed set goes between empty and non-empty, the channel state moves (R18, R21). -/
def CT.afterMode (ct : CT) (ba : BitVec 3) (a : BitVec 16) : CT :=
  let c := loadMode (ba.toNat % 4) a ct
  if ct.unfollowed.any = c.unfollowed.any then c else { c with channel := c.unfollowed.channelState }

@[simp] theorem afterMode_unfollowed (ct : CT) (ba : BitVec 3) (a : BitVec 16) :
    (ct.afterMode ba a).unfollowed = (loadMode (ba.toNat % 4) a ct).unfollowed := by
  simp only [CT.afterMode]
  split <;> rfl

theorem afterMode_keeps (ct : CT) (ba : BitVec 3) (a : BitVec 16) :
    (ct.afterMode ba a).toPins = ct.toPins ∧ (ct.afterMode ba a).banks = ct.banks
      ∧ (ct.afterMode ba a).outstanding = ct.outstanding := by
  obtain ⟨pins, banks, -, outstanding, -⟩ := loadMode_keeps (ba.toNat % 4) a ct
  simp only [CT.afterMode]
  split <;> exact ⟨pins, banks, outstanding⟩

/-- The channel state after a MODE LOAD follows the unfollowed set where it did before (R21). -/
theorem afterMode_channel (ct : CT) (ba : BitVec 3) (a : BitVec 16) (h : ct.channel = ct.unfollowed.channelState) :
    (ct.afterMode ba a).channel = (ct.afterMode ba a).unfollowed.channelState := by
  rw [afterMode_unfollowed]
  simp only [CT.afterMode]
  split
  next same => rw [(loadMode_keeps _ a ct).2.2.1, h, Unfollowed.channelState, Unfollowed.channelState, same]
  next => rfl

/-- The state in which PASS-ONLY has begun or ended by a MODE LOAD, CHANNEL raised (R18, R21). -/
def movedByMode (ba : BitVec 3) (a : BitVec 16) (s : State) : State :=
  { s with ct := s.ct.afterMode ba a }.raise .channel

/-- The three things a MODE LOAD can be: one that leaves the unfollowed set empty or non-empty as it was, one that begins
PASS-ONLY, and one that ends it, after which lanes take what waits (R18, R21, R44). -/
theorem modeEffect_cases (ba : BitVec 3) (a : BitVec 16) (s : State) :
    (s.ct.unfollowed.any = (s.ct.afterMode ba a).unfollowed.any
        ∧ modeEffect ba a s = { s with ct := s.ct.afterMode ba a })
      ∨ (s.ct.unfollowed.any = false ∧ (s.ct.afterMode ba a).unfollowed.any = true
        ∧ modeEffect ba a s = movedByMode ba a s)
      ∨ (s.ct.unfollowed.any = true ∧ (s.ct.afterMode ba a).unfollowed.any = false
        ∧ modeEffect ba a s = resumeTaking (movedByMode ba a s)) := by
  have unfollowed := afterMode_unfollowed s.ct ba a
  unfold modeEffect movedByMode
  by_cases same : s.ct.unfollowed.any = (loadMode (ba.toNat % 4) a s.ct).unfollowed.any
  · refine .inl ⟨by rw [unfollowed, same], ?_⟩
    simp [CT.afterMode, same]
  · have moved : s.ct.afterMode ba a = { loadMode (ba.toNat % 4) a s.ct with
        channel := (loadMode (ba.toNat % 4) a s.ct).unfollowed.channelState } := by simp [CT.afterMode, same]
    rw [unfollowed, moved]
    cases after : (loadMode (ba.toNat % 4) a s.ct).unfollowed.any <;> simp_all

/-- Taking after PASS-ONLY is taking. -/
theorem resumeTaking_taking (s : State) : Taking s (resumeTaking s) := by
  unfold resumeTaking
  split
  · exact takeAll_taking _ s
  · exact .refl s

theorem modeEffect_ct (ba : BitVec 3) (a : BitVec 16) (s : State) :
    (modeEffect ba a s).ct = s.ct.afterMode ba a ∧ (modeEffect ba a s).phase = s.phase := by
  rcases modeEffect_cases ba a s with ⟨-, h⟩ | ⟨-, -, h⟩ | ⟨-, -, h⟩ <;> rw [h]
  · exact ⟨rfl, rfl⟩
  · exact ⟨rfl, rfl⟩
  · exact ⟨(resumeTaking_taking _).ct, (resumeTaking_taking _).phase⟩

/-! ### Deliveries -/

/-- A lane's records taken after its buffers were changed keep the phase and the channel. -/
theorem laneDelivery_keeps (lane : Fin 4) (ring : Fin 64) (d : Delivery) (s : State) :
    (laneDelivery lane ring d s).ct = s.ct ∧ (laneDelivery lane ring d s).phase = s.phase := by
  simp only [laneDelivery]
  repeat' split
  · exact ⟨(takeHeld_taking _ _).ct, (takeHeld_taking _ _).phase⟩
  · exact ⟨rfl, rfl⟩
  · exact ⟨rfl, rfl⟩
  · exact ⟨report_ct s _ _ _ _ _, report_phase s _ _ _ _ _⟩
  · exact ⟨rfl, rfl⟩

/-- Processing an ingest record touches the guide's entries and slots alone (R77). -/
theorem processRecord_keeps (core : EventCore) (s : State) :
    ActKeeps s (processRecord core s).1 ∧ GuideKept s (processRecord core s).1 := by
  unfold processRecord
  split
  · simp only
    split
    · exact ⟨.refl s, .refl s⟩
    · exact ⟨(actKeeps_setEntries s _).trans (onlySlots_reportServices _ _).keeps, guideKept_withdraw _ s⟩
  · split
    · exact ⟨.refl s, .refl s⟩
    · exact ⟨actKeeps_applyInsert _ _ s, guideKept_applyInsert _ _ s⟩

theorem advanceIngest_keeps (g : Ingest) (s : State) :
    ActKeeps s (advanceIngest g s) ∧ (advanceIngest g s).wd = s.wd := by
  unfold advanceIngest
  simp only
  split
  · exact ⟨actKeeps_endIngest _ _ s, rfl⟩
  · exact ⟨actKeeps_of_lc rfl rfl rfl rfl, rfl⟩

/-- A delivery to the ingest stager keeps the phase, the channel, the lanes' places and the windows (R75 to R79). -/
theorem ingestDelivery_keeps (d : Delivery) (s : State) :
    ActKeeps s (ingestDelivery d s) ∧ (ingestDelivery d s).wd = s.wd := by
  unfold ingestDelivery
  split
  · exact ⟨.refl s, rfl⟩
  next g _ =>
    have staged : ActKeeps s { s with prt.stager := overlayAt s.prt.stager (d.block % 32) d.bytes } :=
      actKeeps_of_lc rfl rfl rfl rfl
    simp only
    split
    · split
      · generalize hr : processRecord _ _ = r
        obtain ⟨kept, guide⟩ := hr ▸ processRecord_keeps _ _
        obtain ⟨advanced, wd⟩ := advanceIngest_keeps (g.count r.2) r.1
        exact ⟨(staged.trans kept).trans advanced, wd.trans guide.wd⟩
      · exact ⟨staged, rfl⟩
    · split
      · have reported : ActKeeps s (s.report .ingestOrder d.block d.bank d.row d.col) :=
          actKeeps_of_lc (by simp) (by simp) (by simp) (by simp)
        exact ⟨reported.trans (actKeeps_endIngest _ _ _), report_wd s _ _ _ _ _⟩
      · exact ⟨.refl s, rfl⟩

/-- It begins no run (R75). -/
theorem ingestDelivery_idle (d : Delivery) (s : State) (h : (ingestDelivery d s).prt.ingest.isSome = true) :
    s.prt.ingest.isSome = true := by
  cases idle : s.prt.ingest with
  | none => simp [ingestDelivery, idle] at h
  | some g => rfl

/-! ### Data beats -/

/-- The state in which a burst's last beat has been driven on and the burst has left the list (R14). -/
def lastBeat (out : BeatOut) (index : Nat) (s : State) : State :=
  { driveBeat out s with ct.outstanding := s.ct.outstanding.eraseIdx index }

theorem lineKept_lastBeat (out : BeatOut) (index : Nat) (s : State) : LineKept s (lastBeat out index s) :=
  ⟨⟨rfl, rfl, rfl, rfl, rfl, rfl, rfl, rfl, rfl, rfl⟩, onlyChannel_ct s _⟩

/-- Everything a data beat can do: it is of no burst listed; its burst has beats to come; or it is the last one, after which a
burst staged throughout is delivered (R14, R16, R17, R21). -/
inductive BeatCase (s : State) : State → Prop
  | unlisted (out : BeatOut) : BeatCase s (driveBeat out s)
  | counted (out : BeatOut) (index : Nat) (b c : Burst) (listed : s.ct.outstanding[index]? = some b)
      (len : c.len = b.len) (start : c.start = b.start) (short : c.passed < b.len) :
      BeatCase s { s with ct.out.beat := some out, ct.outstanding := s.ct.outstanding.set index c }
  | finished (out : BeatOut) (index : Nat) (listed : index < s.ct.outstanding.length) :
      BeatCase s (lastBeat out index s)
  | toLane (out : BeatOut) (index : Nat) (listed : index < s.ct.outstanding.length) (live : s.ct.channel ≠ .passOnly)
      (lane : Fin 4) (ring : Fin 64) (d : Delivery) :
      BeatCase s (laneDelivery lane ring d (lastBeat out index s))
  | toIngest (out : BeatOut) (index : Nat) (listed : index < s.ct.outstanding.length) (live : s.ct.channel ≠ .passOnly)
      (d : Delivery) :
      BeatCase s (ingestDelivery d (lastBeat out index s))

theorem trackedBeat_case (index : Nat) (b : Burst) (data : BitVec 32) (mask : BitVec 4) (s : State)
    (listed : s.ct.outstanding[index]? = some b) : BeatCase s (trackedBeat index b data mask s) := by
  obtain ⟨inside, -⟩ := List.getElem?_eq_some_iff.mp listed
  simp only [trackedBeat, driveBeat]
  split
  next short => exact .counted _ index b _ listed rfl rfl short
  next =>
    unfold deliver
    split
    · exact .finished _ index inside
    next whole =>
      have live : s.ct.channel ≠ .passOnly := by
        intro h
        simp [Burst.afterBeat, h] at whole
      split
      · exact .toLane _ index inside live _ _ _
      · exact .toIngest _ index inside live _
      all_goals exact .finished _ index inside

theorem passBeat_case (dir : Dir) (index : Nat) (data : BitVec 32) (mask : BitVec 4) (s : State) :
    BeatCase s (passBeat dir index data mask s) := by
  unfold passBeat
  split
  next b listed =>
    split
    · exact trackedBeat_case index b data mask s listed
    · exact .unlisted _
  next => exact .unlisted _

/-- A data beat keeps the phase, the held values and the channel state (R21). -/
theorem BeatCase.held {s t : State} (h : BeatCase s t) : HeldKept s t ∧ t.phase = s.phase := by
  cases h with
  | unlisted out => exact ⟨(lineKept_driveBeat out s).held, rfl⟩
  | counted out index b c => exact ⟨⟨rfl, rfl, rfl, rfl, rfl, rfl, rfl, rfl, rfl, rfl⟩, rfl⟩
  | finished out index => exact ⟨(lineKept_lastBeat out index s).held, rfl⟩
  | toLane out index _ _ lane ring d =>
    obtain ⟨ct, phase⟩ := laneDelivery_keeps lane ring d (lastBeat out index s)
    exact ⟨(lineKept_lastBeat out index s).held.trans (heldKept_of_ct ct), phase⟩
  | toIngest out index _ _ d =>
    obtain ⟨keeps, -⟩ := ingestDelivery_keeps d (lastBeat out index s)
    exact ⟨(lineKept_lastBeat out index s).held.trans (heldKept_of_ct keeps.ct), keeps.phase⟩

/-- What a data beat does to the outstanding list (R14). -/
theorem BeatCase.outstanding {s t : State} (h : BeatCase s t) :
    t.ct.outstanding = s.ct.outstanding
      ∨ (∃ index b c, s.ct.outstanding[index]? = some b ∧ Burst.len c = b.len ∧ c.start = b.start ∧ c.passed < b.len
          ∧ t.ct.outstanding = s.ct.outstanding.set index c)
      ∨ ∃ index, index < s.ct.outstanding.length ∧ t.ct.outstanding = s.ct.outstanding.eraseIdx index := by
  cases h with
  | unlisted out => exact .inl rfl
  | counted out index b c listed len start short => exact .inr (.inl ⟨index, b, c, listed, len, start, short, rfl⟩)
  | finished out index inside => exact .inr (.inr ⟨index, inside, rfl⟩)
  | toLane out index inside _ lane ring d =>
    exact .inr (.inr ⟨index, inside, by rw [(laneDelivery_keeps lane ring d _).1]; rfl⟩)
  | toIngest out index inside _ d => exact .inr (.inr ⟨index, inside, by rw [(ingestDelivery_keeps d _).1.ct]; rfl⟩)

/-! ### Records closed whole (log 5) -/

theorem presentRecord_keeps (i : Instr) (hd : Header) (code : Byte) (body : List Byte) (s : State) :
    (presentRecord (handlerOf i) hd code body s).ct = s.ct
      ∧ (presentRecord (handlerOf i) hd code body s).phase = s.phase := by
  simp only [presentRecord]
  repeat' split
  · have first := takeRecord_took i code hd (s.closedIn hd code body)
    have second := takeOne_taking hd.lane (takeRecord (handlerOf i) code hd (s.closedIn hd code body))
    exact ⟨second.ct.trans first.ct, second.phase.trans first.phase⟩
  all_goals exact ⟨rfl, rfl⟩

/-! ### The end of start-up and the release -/

theorem endStartup_keeps (order : List (Fin 4)) (s : State) :
    (endStartup order s).ct = s.ct ∧ (endStartup order s).phase = .running := by
  simp only [endStartup]
  split
  · exact ⟨rfl, rfl⟩
  · exact ⟨(takeAll_taking _ _).ct, (takeAll_taking _ _).phase⟩

end Sys2Proof.Machine
end

section
/-! PROOFS. What the load of the stored records leaves as it was (R189 step 3, R191, R192). -/

namespace Sys2Proof.Machine

/-- Loading a record keeps everything but the record's owner, the marks, FAULT-SEEN and the attention status. -/
structure LoadKept (s t : State) : Prop where
  phase : t.phase = s.phase
  ct : t.ct = s.ct
  wd : t.wd = s.wd
  prt : t.prt = s.prt
  sdu : t.sdu = s.sdu
  pending : t.pending = s.pending
  uptime : t.vtu.uptime = s.vtu.uptime
  clock : t.vtu.clock = s.vtu.clock
  enable : t.au.enable = s.au.enable
  capture : t.au.capture = s.au.capture
  store : t.sc.store = s.sc.store
  writing : t.sc.writing = s.sc.writing
  places : ∀ n, SamePlace (s.lane n) (t.lane n)

theorem LoadKept.refl (s : State) : LoadKept s s :=
  ⟨rfl, rfl, rfl, rfl, rfl, rfl, rfl, rfl, rfl, rfl, rfl, rfl, fun _ => .refl _⟩

theorem LoadKept.trans {s t u : State} (a : LoadKept s t) (b : LoadKept t u) : LoadKept s u :=
  ⟨b.phase.trans a.phase, b.ct.trans a.ct, b.wd.trans a.wd, b.prt.trans a.prt, b.sdu.trans a.sdu,
    b.pending.trans a.pending, b.uptime.trans a.uptime, b.clock.trans a.clock, b.enable.trans a.enable,
    b.capture.trans a.capture, b.store.trans a.store, b.writing.trans a.writing,
    fun n => (a.places n).trans (b.places n)⟩

theorem loadKept_failCheck (r : RecordId) (s : State) : LoadKept s (failCheck r s) :=
  ⟨rfl, rfl, rfl, rfl, rfl, rfl, rfl, rfl, rfl, rfl, rfl, rfl, fun _ => .refl _⟩

theorem loadKept_markDirty (r : RecordId) (s : State) : LoadKept s (s.markDirty r) :=
  ⟨rfl, rfl, rfl, rfl, rfl, rfl, rfl, rfl, rfl, rfl, rfl, rfl, fun _ => .refl _⟩

theorem loadKept_setClasses (s : State) (n : Fin 4) (set : BitVec 7) : LoadKept s (s.setClasses n set) := by
  refine ⟨rfl, rfl, rfl, rfl, rfl, rfl, rfl, rfl, rfl, rfl, rfl, rfl, fun m => ?_⟩
  unfold State.setClasses
  by_cases h : m = n
  · subst h; rw [lane_setLane_same]; exact ⟨rfl, rfl, rfl, rfl⟩
  · rw [lane_setLane_other s n m _ h]; exact .refl _

theorem loadKept_setChild (s : State) (c : Fin 7) (p : Profile) : LoadKept s (s.setChild c p) :=
  ⟨rfl, rfl, rfl, rfl, rfl, rfl, rfl, rfl, rfl, rfl, rfl, rfl, fun _ => .refl _⟩

theorem loadKept_putUsage (s : State) (c : Fin 7) (u : Usage) : LoadKept s (s.putUsage c u) :=
  ⟨rfl, rfl, rfl, rfl, rfl, rfl, rfl, rfl, rfl, rfl, rfl, rfl, fun _ => .refl _⟩

theorem loadKept_pss (s : State) (p : PSS) : LoadKept s { s with pss := p } :=
  ⟨rfl, rfl, rfl, rfl, rfl, rfl, rfl, rfl, rfl, rfl, rfl, rfl, fun _ => .refl _⟩

theorem loadKept_settings (s : State) (x : Settings) : LoadKept s { s with sc.settings := x } :=
  ⟨rfl, rfl, rfl, rfl, rfl, rfl, rfl, rfl, rfl, rfl, rfl, rfl, fun _ => .refl _⟩

theorem loadKept_setAcct (s : State) (a : Option Acct) : LoadKept s { s with vtu.acct := a } :=
  ⟨rfl, rfl, rfl, rfl, rfl, rfl, rfl, rfl, rfl, rfl, rfl, rfl, fun _ => .refl _⟩

theorem loadKept_restartLockout (s : State) : LoadKept s (restartLockout s) := by
  unfold restartLockout
  split
  · exact loadKept_pss s _
  · exact .refl s

theorem loadKept_loadPin (s : State) : LoadKept s (loadPin s) := by
  simp only [loadPin]
  split
  · exact (loadKept_pss s _).trans (loadKept_restartLockout _)
  · exact (loadKept_pss s _).trans (loadKept_failCheck _ _)

theorem loadKept_loadLanes (s : State) : LoadKept s (loadLanes s) := by
  have classes : ∀ a b c, LoadKept s (((s.setClasses 1 a).setClasses 2 b).setClasses 3 c) := fun a b c =>
    ((loadKept_setClasses s 1 a).trans (loadKept_setClasses _ 2 b)).trans (loadKept_setClasses _ 3 c)
  simp only [loadLanes]
  split
  · exact classes _ _ _
  · exact (classes _ _ _).trans (loadKept_failCheck _ _)

theorem loadKept_loadProfile (c : Fin 7) (s : State) : LoadKept s (loadProfile c s) := by
  simp only [loadProfile]
  split
  · exact loadKept_setChild s c _
  · exact (loadKept_setChild s c _).trans (loadKept_failCheck _ _)

theorem loadKept_loadServices (s : State) : LoadKept s (loadServices s) := by
  simp only [loadServices]
  split
  · exact loadKept_pss s _
  · exact (loadKept_pss s _).trans (loadKept_failCheck _ _)

theorem loadKept_loadSettings (s : State) : LoadKept s (loadSettings s) := by
  simp only [loadSettings]
  split
  · split
    · exact loadKept_settings s _
    · exact (loadKept_settings s _).trans (loadKept_markDirty _ _)
  · exact (loadKept_settings s _).trans (loadKept_failCheck _ _)

theorem loadKept_loadUsage (a : Option Acct) (c : Fin 7) (s : State) : LoadKept s (loadUsage a c s) := by
  simp only [loadUsage]
  split
  · split
    · exact (loadKept_putUsage s c _).trans (loadKept_markDirty _ _)
    · exact loadKept_putUsage s c _
  · exact (loadKept_putUsage s c _).trans (loadKept_failCheck _ _)

theorem loadKept_forChildren (f : Fin 7 → State → State) (h : ∀ c s, LoadKept s (f c s)) (s : State) :
    LoadKept s (forChildren f s) :=
  forChildren_induct (P := LoadKept s) f (fun c t ht => ht.trans (h c t)) s (.refl s)

theorem loadKept_loadUsages (s : State) : LoadKept s (loadUsages s) := by
  exact (loadKept_forChildren _ (loadKept_loadUsage (loadedAcct s)) s).trans (loadKept_setAcct _ _)

theorem loadKept_loadStore (s : State) : LoadKept s (loadStore s) :=
  (((((loadKept_loadPin s).trans (loadKept_loadLanes _)).trans (loadKept_forChildren _ loadKept_loadProfile _)).trans
    (loadKept_loadServices _)).trans (loadKept_loadSettings _)).trans (loadKept_loadUsages _)

/-- The state the release sets out from: the part-reset values with the straps sampled (R189 step 1). -/
def State.sampled (s : State) (arr : Bool) (cb : Byte) : State :=
  State.inReset s.sc.store (if arr then .brc else .rbc) cb s.ct.toPins s.pending

theorem release_clear (arr : Bool) (cb : Byte) (s : State) : release arr cb true s = beginClear (s.sampled arr cb) := by
  simp only [release, State.sampled, if_true]

theorem release_load (arr : Bool) (cb : Byte) (s : State) :
    release arr cb false s = finishLoad (loadStore (s.sampled arr cb)) := by
  simp only [release, State.sampled, Bool.false_eq_true, if_false]

/-- The factory clear begins: only SC and the phase move (R190). -/
theorem beginClear_frame (s : State) : OnlyCommit (markAll { s with phase := .clearing }) (beginClear s) :=
  onlyCommit_startCommit _

/-- What the release makes of the blocks that the load and the factory clear do not reach (R189). -/
theorem release_blocks (arr : Bool) (cb : Byte) (fclr : Bool) (s : State) :
    (release arr cb fclr s).ct = CT.atReset (if arr then .brc else .rbc) s.ct.toPins
      ∧ (release arr cb fclr s).wd = WD.atReset cb ∧ (release arr cb fclr s).prt = PRT.atReset
      ∧ (release arr cb fclr s).phase = (if fclr then .clearing else .starting) := by
  cases fclr with
  | true =>
    have frame := beginClear_frame (s.sampled arr cb)
    rw [release_clear]
    exact ⟨frame.ct, frame.wd, frame.prt, frame.phase⟩
  | false =>
    have load := loadKept_loadStore (s.sampled arr cb)
    obtain ⟨ct, wd, lc, prt, phase⟩ := finishLoad_path (loadStore (s.sampled arr cb))
    rw [release_load]
    exact ⟨ct.trans load.ct, wd.trans load.wd, prt.trans load.prt, phase⟩

end Sys2Proof.Machine
end

section
/-! PROOFS. The standing laws of the channel: the channel state follows its inputs, the outstanding list stays lawful, and no
burst is outstanding in IDLE-DOWN and REST (R14, R19 to R23). -/

namespace Sys2Proof.Machine

/-! ### When CT decodes -/

theorem tracks_iff (s : State) : s.tracks = true ↔ s.phase ≠ .inReset ∧ s.ct.drst = 0 := by
  simp [State.tracks, State.isReleased]

theorem decodes_iff (s : State) : s.decodes = true ↔ s.phase ≠ .inReset ∧ s.ct.drst = 0 ∧ s.ct.cke = true := by
  simp [State.decodes, tracks_iff, and_assoc]

/-- Where CT does not follow the channel, a reset is asserted (R2, R22). -/
theorem untracked_iff (s : State) : s.tracks = false ↔ s.phase = .inReset ∨ 0 < s.ct.drst := by
  rw [← Bool.not_eq_true, tracks_iff, not_and_or, not_not, Nat.pos_iff_ne_zero]

/-! ### The channel state -/

/-- What keeps the held values and does not assert the part reset keeps the law of the channel state. -/
theorem State.ChannelAgrees.congr {s t : State} (hs : s.ChannelAgrees) (held : HeldKept s t)
    (phase : t.phase = .inReset → s.phase = .inReset) : t.ChannelAgrees := by
  simp only [State.ChannelAgrees, held.unfollowed, held.channel, held.cke, held.drst]
  exact ⟨fun h => hs.1 (h.imp_left phase), hs.2⟩

/-- While CT decodes the channel state is ACTIVE or PASS-ONLY, by the unfollowed set. -/
theorem State.ChannelAgrees.decoding {s : State} (hs : s.ChannelAgrees) (h : s.decodes = true) :
    s.ct.channel = s.ct.unfollowed.channelState := hs.2.1 ((decodes_iff s).mp h).2.2

theorem channelState_of_empty {u : Unfollowed} (h : u.any = false) : u.channelState = .active := by
  simp [Unfollowed.channelState, h]

theorem channelState_cases (u : Unfollowed) : u.channelState = .passOnly ∨ u.channelState = .active := by
  unfold Unfollowed.channelState
  split
  · exact .inl rfl
  · exact .inr rfl

/-- Under a reset the channel state is the reset state's, whatever clock enable does (R22, R23). -/
theorem State.ChannelAgrees.of_reset {t : State} (empty : t.ct.unfollowed.any = false) (active : t.ct.channel = .active) :
    t.ChannelAgrees :=
  ⟨fun _ => ⟨empty, active⟩, fun _ => active.trans (channelState_of_empty empty).symm, fun _ => .inr (.inr ⟨active, empty⟩)⟩

/-- With no reset asserted and clock enable high, the channel state need only follow the unfollowed set (R19 to R21). -/
theorem State.ChannelAgrees.of_high {t : State} (released : t.phase ≠ .inReset) (line : t.ct.drst = 0)
    (cke : t.ct.cke = true) (follows : t.ct.channel = t.ct.unfollowed.channelState) : t.ChannelAgrees := by
  refine ⟨fun reset => ?_, fun _ => follows, fun low => ?_⟩
  · rcases reset with asserted | pos
    · exact absurd asserted released
    · simp [line] at pos
  · simp [cke] at low

/-- With no reset asserted and clock enable low, one of three channel states stands (R19, R20). -/
theorem State.ChannelAgrees.of_low {t : State} (released : t.phase ≠ .inReset) (line : t.ct.drst = 0)
    (cke : t.ct.cke = false) (stands : t.ct.channel = .idleDown ∨ t.ct.channel = .rest
      ∨ (t.ct.channel = .active ∧ t.ct.unfollowed.any = false)) : t.ChannelAgrees := by
  refine ⟨fun reset => ?_, fun high => ?_, fun _ => stands⟩
  · rcases reset with asserted | pos
    · exact absurd asserted released
    · simp [line] at pos
  · simp [cke] at high

/-- A command presented or passed (R2, R18 to R23). -/
theorem present_channelAgrees (l : Lines) (s : State) (hs : s.ChannelAgrees) : (present l s).ChannelAgrees := by
  cases h : s.decodes with
  | false =>
    rw [present_passed l s h]
    obtain ⟨reset, high, low⟩ := hs
    exact ⟨fun hr => reset (hr.imp_right fun (pos : 0 < s.ct.drst - 1) => by omega), high, low⟩
  | true =>
    rw [present_decoded l s h]
    obtain ⟨released, line, cke⟩ := (decodes_iff s).mp h
    by_cases mode : l.group = .mode
    · obtain ⟨ct, phase⟩ := modeEffect_ct l.ba l.a (driveLines l s)
      obtain ⟨pins, -, -⟩ := afterMode_keeps (driveLines l s).ct l.ba l.a
      have effect : commandEffect l (driveLines l s) = modeEffect l.ba l.a (driveLines l s) := by
        simp [commandEffect, mode]
      have drst : ((driveLines l s).ct.afterMode l.ba l.a).drst = 0 := (congrArg Pins.drst pins).trans line
      have high : ((driveLines l s).ct.afterMode l.ba l.a).cke = true := (congrArg Pins.cke pins).trans cke
      have follows := afterMode_channel (driveLines l s).ct l.ba l.a (hs.decoding h)
      rw [effect]
      exact .of_high (phase ▸ released) (ct ▸ drst) (ct ▸ high) (ct ▸ follows)
    · obtain ⟨line, -⟩ := commandEffect_line l (driveLines l s) mode
      have whole := (lineKept_driveLines l s).trans line
      exact State.ChannelAgrees.congr hs whole.held fun hr => whole.only.phase ▸ hr

/-- Clock enable rises (R19, R20). -/
theorem riseEnable_channelAgrees (s : State) (hs : s.ChannelAgrees) : (riseEnable s).ChannelAgrees := by
  unfold riseEnable
  split
  · exact hs
  next idle =>
    split
    next tracks =>
      obtain ⟨released, line⟩ := (tracks_iff s).mp tracks
      have low : s.ct.cke = false := by simpa [State.decodes, tracks] using idle
      have follows : s.ct.afterRise = s.ct.unfollowed.channelState := by
        rcases hs.2.2 low with h | h | ⟨h, empty⟩ <;> simp only [CT.afterRise, h]
        exact (channelState_of_empty empty).symm
      exact .of_high released line rfl follows
    next untracked =>
      obtain ⟨empty, active⟩ := hs.1 ((untracked_iff s).mp (by simpa using untracked))
      exact .of_reset empty active

/-- Clock enable falls (R19, R20). -/
theorem fallEnable_channelAgrees (l : Lines) (s : State) (hs : s.ChannelAgrees) : (fallEnable l s).ChannelAgrees := by
  simp only [fallEnable]
  split
  next decodes =>
    obtain ⟨released, line, -⟩ := (decodes_iff s).mp decodes
    unfold fallingEffect
    split
    · have kept := lineKept_refreshBanks (driveLines l s)
      exact .of_low (kept.only.phase ▸ released) (kept.held.drst.trans line) rfl (.inr (.inl rfl))
    · exact .of_low released line rfl (.inl rfl)
  next idle =>
    cases tracks : s.tracks with
    | true =>
      obtain ⟨released, line⟩ := (tracks_iff s).mp tracks
      have low : s.ct.cke = false := by simpa [State.decodes, tracks] using idle
      exact .of_low released (by simp [passUntracked, driveLines, line]) rfl (hs.2.2 low)
    | false =>
      obtain ⟨empty, active⟩ := hs.1 ((untracked_iff s).mp tracks)
      exact .of_reset empty active

@[simp] theorem zeroFrames_blocks (s : State) : (zeroFrames s).ct = s.ct ∧ (zeroFrames s).wd = s.wd
    ∧ (zeroFrames s).lc = s.lc ∧ (zeroFrames s).prt = s.prt ∧ (zeroFrames s).phase = s.phase :=
  have frame := onlyViewing_zeroFrames s
  ⟨frame.ct, frame.wd, frame.lc, frame.prt, frame.phase⟩

/-- What a channel reset makes of CT (R22). -/
theorem resetChannel_ct (s : State) : (resetChannel s).ct = CT.atReset s.ct.arr s.ct.toPins := by
  refine (zeroFrames_blocks _).1.trans ?_
  show (ite _ _ _ : State).ct = _
  split <;> rfl

theorem lineReset_channelAgrees (s : State) (hs : s.ChannelAgrees) :
    (assertLine (if s.isReleased then resetChannel s else s)).ChannelAgrees := by
  split
  next => exact .of_reset (by simp [resetChannel_ct]; rfl) (by simp [resetChannel_ct]; rfl)
  next asserted =>
    obtain ⟨empty, active⟩ := hs.1 (.inl (by simpa [State.isReleased] using asserted))
    exact .of_reset empty active

theorem StepCase.channelAgrees {s t : State} (h : StepCase s t) (hs : s.ChannelAgrees) : t.ChannelAgrees := by
  cases h with
  | presented l => exact present_channelAgrees l s hs
  | rose => exact riseEnable_channelAgrees s hs
  | fell l => exact fallEnable_channelAgrees l s hs
  | lineReset => exact lineReset_channelAgrees s hs
  | beat dir index data mask =>
    obtain ⟨held, phase⟩ := (passBeat_case dir index data mask s).held
    exact hs.congr held fun h => phase ▸ h
  | record i hd code body =>
    obtain ⟨ct, phase⟩ := presentRecord_keeps i hd code body s
    exact hs.congr (heldKept_of_ct ct) fun h => phase ▸ h
  | path t kept =>
    refine hs.congr (heldKept_of_ct kept.ct) fun h => ?_
    rcases kept.phase with same | ⟨-, starting⟩
    · exact same ▸ h
    · rw [starting] at h; cases h
  | reset => exact .of_reset rfl rfl
  | released arr cb fclr _ =>
    obtain ⟨ct, -⟩ := release_blocks arr cb fclr s
    exact .of_reset (by rw [ct]; rfl) (by rw [ct]; rfl)
  | started order _ =>
    obtain ⟨ct, phase⟩ := endStartup_keeps order s
    exact hs.congr (heldKept_of_ct ct) fun h => by rw [phase] at h; cases h

/-! ### The outstanding list -/

/-- What a step does to the outstanding list: a fresh burst joins it where it has room, a burst's entry counts a beat short
of its last, a burst leaves it, every burst is abandoned, or nothing (R14). -/
def ListMoved (s t : State) : Prop :=
  Joined s t
    ∨ (∃ index b c, s.ct.outstanding[index]? = some b ∧ Burst.len c = b.len ∧ c.start = b.start ∧ c.passed < b.len
        ∧ t.ct.outstanding = s.ct.outstanding.set index c)
    ∨ (∃ index, index < s.ct.outstanding.length ∧ t.ct.outstanding = s.ct.outstanding.eraseIdx index)
    ∨ t.ct.outstanding = []

theorem ListMoved.kept {s t : State} (h : t.ct.outstanding = s.ct.outstanding) : ListMoved s t := .inl (.inl h)

theorem ListMoved.emptied {s t : State} (h : t.ct.outstanding = []) : ListMoved s t := .inr (.inr (.inr h))

theorem present_listMoved (l : Lines) (s : State) : ListMoved s (present l s) := by
  cases h : s.decodes with
  | false => rw [present_passed l s h]; exact .kept rfl
  | true =>
    rw [present_decoded l s h]
    by_cases mode : l.group = .mode
    · obtain ⟨ct, -⟩ := modeEffect_ct l.ba l.a (driveLines l s)
      obtain ⟨-, -, outstanding⟩ := afterMode_keeps (driveLines l s).ct l.ba l.a
      refine .kept ?_
      rw [show commandEffect l (driveLines l s) = modeEffect l.ba l.a (driveLines l s) by simp [commandEffect, mode], ct,
        outstanding]
      rfl
    · exact .inl (commandEffect_line l (driveLines l s) mode).2

theorem riseEnable_outstanding (s : State) : (riseEnable s).ct.outstanding = s.ct.outstanding := by
  unfold riseEnable
  split
  · rfl
  · split <;> rfl

theorem fallEnable_outstanding (l : Lines) (s : State) :
    (fallEnable l s).ct.outstanding = if s.decodes then [] else s.ct.outstanding := by
  simp only [fallEnable, fallingEffect]
  split
  · split <;> rfl
  · rfl

theorem StepCase.listMoved {s t : State} (h : StepCase s t) : ListMoved s t := by
  cases h with
  | presented l => exact present_listMoved l s
  | rose => exact .kept (riseEnable_outstanding s)
  | fell l =>
    have fallen := fallEnable_outstanding l s
    split at fallen
    · exact .emptied fallen
    · exact .kept fallen
  | lineReset =>
    split
    · exact .emptied (by rw [assertLine_ct_outstanding, resetChannel_ct]; rfl)
    · exact .kept rfl
  | beat dir index data mask =>
    rcases (passBeat_case dir index data mask s).outstanding with kept | counted | erased
    · exact .kept kept
    · exact .inr (.inl counted)
    · exact .inr (.inr (.inl erased))
  | record i hd code body => exact .kept (by rw [(presentRecord_keeps i hd code body s).1])
  | path t kept => exact .kept (by rw [kept.ct])
  | reset => exact .emptied rfl
  | released arr cb fclr _ => exact .emptied (by rw [(release_blocks arr cb fclr s).1]; rfl)
  | started order _ => exact .kept (by rw [(endStartup_keeps order s).1])

/-- An entry of the list short of its length (R14). -/
def Burst.Short (b : Burst) : Prop := (b.len = 4 ∨ b.len = 8) ∧ b.passed < b.len ∧ b.start < b.len

theorem Burst.Fresh.short {b : Burst} (h : b.Fresh) : b.Short := by
  obtain ⟨len, passed, start⟩ := h
  exact ⟨len, by omega, start⟩

theorem StepCase.outstandingLawful {s t : State} (h : StepCase s t) (hs : s.OutstandingLawful) :
    t.OutstandingLawful := by
  obtain ⟨length, short⟩ := hs
  rcases h.listMoved with (kept | ⟨room, b, fresh, joined⟩) | ⟨index, b, c, listed, len, start, passed, counted⟩
    | ⟨index, inside, erased⟩ | emptied
  · rw [State.OutstandingLawful, kept]
    exact ⟨length, short⟩
  · rw [State.OutstandingLawful, joined]
    refine ⟨by simp; omega, fun x hx => ?_⟩
    rcases List.mem_append.mp hx with hx | hx
    · exact short x hx
    · rw [List.mem_singleton.mp hx]; exact fresh.short
  · rw [State.OutstandingLawful, counted]
    obtain ⟨lenB, -, startB⟩ := short b (List.mem_of_getElem? listed)
    refine ⟨by simpa using length, fun x hx => ?_⟩
    rcases List.mem_or_eq_of_mem_set hx with hx | rfl
    · exact short x hx
    · rw [len, start]; exact ⟨lenB, passed, startB⟩
  · rw [State.OutstandingLawful, erased]
    refine ⟨(List.eraseIdx_sublist _ _).length_le.trans length, fun x hx => short x (List.mem_of_mem_eraseIdx hx)⟩
  · rw [State.OutstandingLawful, emptied]
    exact ⟨by simp, by simp⟩

/-! ### Abandoned bursts -/

/-- A channel state that clock enable low alone can bring (1.8). -/
theorem burstsAbandoned_of_up {t : State} (h : t.ct.channel = .active ∨ t.ct.channel = .passOnly) :
    t.BurstsAbandoned := by
  intro down
  rcases h with h | h <;> rcases down with hd | hd <;> rw [h] at hd <;> cases hd

theorem State.BurstsAbandoned.congr {s t : State} (hs : s.BurstsAbandoned) (channel : t.ct.channel = s.ct.channel)
    (outstanding : s.ct.outstanding = [] → t.ct.outstanding = []) : t.BurstsAbandoned := by
  intro down
  rw [channel] at down
  exact outstanding (hs down)

theorem channel_up_of_follows {t : State} (h : t.ct.channel = t.ct.unfollowed.channelState) :
    t.ct.channel = .active ∨ t.ct.channel = .passOnly := by
  rw [h]
  exact (channelState_cases _).symm

theorem StepCase.burstsAbandoned {s t : State} (h : StepCase s t) (agrees : s.ChannelAgrees) (hs : s.BurstsAbandoned) :
    t.BurstsAbandoned := by
  have agreesAfter := h.channelAgrees agrees
  cases h with
  | presented l =>
    cases decodes : s.decodes with
    | false => rw [present_passed l s decodes]; exact hs.congr rfl id
    | true =>
      have high : (present l s).ct.cke = true := by
        rw [present_decoded l s decodes]
        have cke := ((decodes_iff s).mp decodes).2.2
        by_cases mode : l.group = .mode
        · rw [show commandEffect l (driveLines l s) = modeEffect l.ba l.a (driveLines l s) by
            simp [commandEffect, mode], (modeEffect_ct _ _ _).1]
          exact (congrArg Pins.cke (afterMode_keeps _ _ _).1).trans cke
        · exact (commandEffect_line l (driveLines l s) mode).1.held.cke.trans cke
      exact burstsAbandoned_of_up (channel_up_of_follows (agreesAfter.2.1 high))
  | rose =>
    cases decodes : s.decodes with
    | true => simpa [riseEnable, decodes] using hs
    | false =>
      refine burstsAbandoned_of_up (channel_up_of_follows (agreesAfter.2.1 ?_))
      simp only [riseEnable, decodes, Bool.false_eq_true, if_false]
      split <;> rfl
  | fell l =>
    cases decodes : s.decodes with
    | true =>
      intro _
      rw [fallEnable_outstanding, decodes, if_pos rfl]
    | false =>
      refine hs.congr ?_ fun empty => by rw [fallEnable_outstanding, decodes]; exact empty
      simp [fallEnable, decodes, passUntracked, driveLines]
  | lineReset =>
    split
    · exact burstsAbandoned_of_up (.inl (by rw [assertLine_ct_channel, resetChannel_ct]; rfl))
    · exact hs.congr rfl id
  | beat dir index data mask =>
    have beat := passBeat_case dir index data mask s
    refine hs.congr beat.held.1.channel fun empty => ?_
    rcases beat.outstanding with kept | ⟨index, b, c, listed, -⟩ | ⟨index, inside, -⟩
    · exact kept.trans empty
    · simp [empty] at listed
    · simp [empty] at inside
  | record i hd code body =>
    obtain ⟨ct, -⟩ := presentRecord_keeps i hd code body s
    exact hs.congr (by rw [ct]) fun empty => by rw [ct, empty]
  | path t kept => exact hs.congr (by rw [kept.ct]) fun empty => by rw [kept.ct, empty]
  | reset => exact burstsAbandoned_of_up (.inl rfl)
  | released arr cb fclr _ => exact burstsAbandoned_of_up (.inl (by rw [(release_blocks arr cb fclr s).1]; rfl))
  | started order _ =>
    obtain ⟨ct, -⟩ := endStartup_keeps order s
    exact hs.congr (by rw [ct]) fun empty => by rw [ct, empty]

end Sys2Proof.Machine
end

section
open Sys2Proof Sys2Proof.Machine

/-- Settles O51, by cases on the kind of step. -/
theorem channelAgreesKept : Obligations.ChannelAgreesKept := fun s t =>
  step_keeps (P := State.ChannelAgrees) (fun _ _ h => h) (fun _ _ case h => case.channelAgrees h) s t

/-- Settles O52, by what each kind of step does to the list. -/
theorem outstandingLawfulKept : Obligations.OutstandingLawfulKept := fun s t =>
  step_keeps (P := State.OutstandingLawful) (fun _ _ h => h) (fun _ _ case h => case.outstandingLawful h) s t

end

section
/-! PROOFS. The window table and a running ingest under every kind of step (R14, R24 to R28, R72). -/

namespace Sys2Proof.Machine

/-! ### A lane that is written -/

/-- What writing a lane's buffers comes to: the lane alone changes, its expected buffer closing only until start-up has
ended; its records are then taken, at most two; or a misuse is reported (R41 to R44). -/
inductive LaneCase (lane : Fin 4) (s : State) : State → Prop
  | written (x : Lane) (quiet : s.phase = .running → x.cur.closed = (s.lane lane).cur.closed) :
      LaneCase lane s (s.setLane lane x)
  | taken (x : Lane) (u t : State) (running : s.phase = .running) (first : TableEffect (s.setLane lane x) u)
      (second : TableEffect u t) (taking : Taking (s.setLane lane x) t) (opened : (t.lane lane).cur.closed = false) :
      LaneCase lane s t
  | apart (t : State) (wd : t.wd = s.wd) (prt : t.prt = s.prt) (lc : t.lc = s.lc) (phase : t.phase = s.phase) :
      LaneCase lane s t

theorem laneDelivery_case (lane : Fin 4) (ring : Fin 64) (d : Delivery) (s : State) :
    LaneCase lane s (laneDelivery lane ring d s) := by
  simp only [laneDelivery]
  split
  · split
    next listens =>
      rw [Bool.and_eq_true] at listens
      exact .taken _ _ _ (of_decide_eq_true listens.1) (tableEffect_takeOne lane _) (tableEffect_takeOne lane _)
        (takeHeld_taking lane _) (takeHeld_curOpen lane _)
    next waits =>
      refine .written _ fun running => ?_
      have closed : (s.lane lane).cur.closed = true := by simpa [State.isRunning, running] using waits
      simp [Buffer.stage, closed]
  · split
    · exact .written _ fun _ => rfl
    · split
      · exact .apart _ (by simp) (by simp) (by simp) (by simp)
      · exact .apart _ rfl rfl rfl rfl

theorem presentRecord_case (i : Instr) (hd : Header) (code : Byte) (body : List Byte) (s : State) :
    LaneCase hd.lane s (presentRecord (handlerOf i) hd code body s) := by
  simp only [presentRecord]
  split
  · split
    · split
      next running =>
        have first := takeRecord_took i code hd (s.closedIn hd code body)
        refine .taken _ _ _ (of_decide_eq_true running) (tableEffect_takeRecord i code hd (s.closedIn hd code body))
          (tableEffect_takeOne hd.lane _) ?_ first.next_curOpen
        exact (first.taking (by rw [closedIn_lane])).trans (takeOne_taking _ _)
      next starting => exact .written _ fun running => absurd (decide_eq_true running) starting
    · split
      · exact .written _ fun _ => rfl
      · exact .apart _ rfl rfl rfl rfl
  · exact .apart _ rfl rfl rfl rfl

theorem guideKept_setLane (s : State) (lane : Fin 4) (x : Lane) : GuideKept s (s.setLane lane x) := ⟨rfl, rfl⟩

theorem LaneCase.tablesKept {lane : Fin 4} {s t : State} (h : LaneCase lane s t) : TablesKept s t := by
  cases h with
  | written x _ => exact (guideKept_setLane s lane x).tablesKept
  | taken x u _ _ first second _ _ =>
    exact ((guideKept_setLane s lane x).tablesKept.trans first.tablesKept).trans second.tablesKept
  | apart _ wd prt _ _ => exact GuideKept.tablesKept ⟨wd, by rw [prt]⟩

theorem LaneCase.sameIngestEntry {lane : Fin 4} {s t : State} (h : LaneCase lane s t)
    (before : s.prt.ingest.isSome = true) (after : t.prt.ingest.isSome = true) : SameIngestEntry s t := by
  cases h with
  | written x _ => exact .of_wd rfl
  | taken x u _ _ first second _ _ => exact first.sameIngestEntry_two second before after
  | apart _ wd _ _ _ => exact .of_wd wd

/-- Where no lane held its expected record, none does once a lane has been written and its records are taken. -/
theorem LaneCase.curOpen {lane : Fin 4} {s t : State} (h : LaneCase lane s t) (running : s.phase = .running)
    (hs : ∀ n, (s.lane n).cur.closed = false) (n : Fin 4) : (t.lane n).cur.closed = false := by
  cases h with
  | written x quiet =>
    by_cases e : n = lane
    · subst e; rw [lane_setLane_same, quiet running, hs]
    · rw [lane_setLane_other s lane n x e, hs]
  | taken x u _ _ _ _ taking opened =>
    by_cases e : n = lane
    · subst e; exact opened
    · refine taking.curOpen n ?_
      rw [lane_setLane_other s lane n x e, hs]
  | apart _ _ _ lc _ => rw [lane_of_lc s t lc, hs]

theorem LaneCase.ingest_of_starting {lane : Fin 4} {s t : State} (h : LaneCase lane s t) (starting : s.phase ≠ .running) :
    t.prt.ingest = s.prt.ingest := by
  cases h with
  | written x _ => rfl
  | taken x u _ running => exact absurd running starting
  | apart _ _ prt _ _ => rw [prt]

/-! ### The window table -/

/-- The strap windows are lawful (R26). -/
theorem atReset_lawful (cb : Byte) : (WD.atReset cb).Lawful := by
  have unused : ∀ i : Fin 16, 2 ≤ i.val → (WD.atReset cb).windows[i] = none := by
    intro i hi
    fin_cases i <;> simp_all [WD.atReset]
  have held : ∀ (i : Fin 16) (w : Window), w ∈ (WD.atReset cb).windows[i] →
      (i = 0 ∧ some w = (WD.atReset cb).windows[0]) ∨ (i = 1 ∧ some w = (WD.atReset cb).windows[1]) := by
    intro i w hw
    rcases Nat.lt_or_ge i.val 2 with h | h
    · rcases (by omega : i.val = 0 ∨ i.val = 1) with h | h
      · obtain rfl : i = 0 := Fin.ext h
        exact .inl ⟨rfl, hw.symm⟩
      · obtain rfl : i = 1 := Fin.ext h
        exact .inr ⟨rfl, hw.symm⟩
    · rw [unused i h] at hw; cases hw
  refine ⟨rfl, rfl, fun i hi w hw => ?_, fun i j hij v hv w hw => ?_, fun i j _ v hv w hw => ?_, fun k => ?_⟩
  · rw [unused i hi] at hw; cases hw
  · rcases held i v hv with ⟨rfl, ev⟩ | ⟨rfl, ev⟩ <;> rcases held j w hw with ⟨rfl, ew⟩ | ⟨rfl, ew⟩
    · exact absurd rfl hij
    · cases ev; cases ew
      simp [Window.intersects]
    · cases ev; cases ew
      simp [Window.intersects]
    · exact absurd rfl hij
  · rcases held i v hv with ⟨rfl, ev⟩ | ⟨rfl, ev⟩ <;> cases ev <;> simp
  · simp [WD.countOf, WD.valid, WD.atReset]

/-! ### Clock enable, reset and beats -/

theorem riseEnable_only (s : State) : OnlyChannel s (riseEnable s) := by
  unfold riseEnable
  split
  · exact .refl s
  · split <;> exact onlyChannel_ct s _

theorem fallEnable_only (l : Lines) (s : State) : OnlyChannel s (fallEnable l s) := by
  have driven := (lineKept_driveLines l s).only
  simp only [fallEnable, fallingEffect]
  split
  · split
    · have refreshed := driven.trans (lineKept_refreshBanks (driveLines l s)).only
      exact ⟨refreshed.phase, refreshed.wd, refreshed.lc, refreshed.prt, refreshed.pss, refreshed.vtu, refreshed.sc,
        refreshed.pending⟩
    · exact onlyChannel_ct s _
  · exact onlyChannel_ct s _

/-- A channel reset keeps the windows and drops an ingest (R22, R80). -/
theorem resetChannel_tables (s : State) : (resetChannel s).wd = s.wd ∧ (resetChannel s).prt.ingest = none := by
  obtain ⟨-, wd, -, prt, -⟩ := zeroFrames_blocks
    (dropIngest (resetLanes (if s.ct.unfollowed.any then
      { s with ct := CT.atReset s.ct.arr s.ct.toPins }.raise .channel
      else { s with ct := CT.atReset s.ct.arr s.ct.toPins })))
  refine ⟨wd.trans ?_, by rw [resetChannel, prt]; rfl⟩
  show (ite _ _ _ : State).wd = _
  split <;> rfl

/-- A beat touches the window table and the run of an ingest by a delivery alone. -/
theorem BeatCase.tablesKept {s t : State} (h : BeatCase s t) : TablesKept s t := by
  have moved : ∀ c, TablesKept s { s with ct := c } := fun c => GuideKept.tablesKept ⟨rfl, rfl⟩
  cases h with
  | unlisted out => exact moved _
  | counted out index b c => exact moved _
  | finished out index => exact moved _
  | toLane out index _ _ lane ring d => exact (moved _).trans (laneDelivery_case lane ring d _).tablesKept
  | toIngest out index _ _ d =>
    have wd := (ingestDelivery_keeps d (lastBeat out index s)).2
    refine ⟨fun hs => ?_, fun hs active => ?_⟩
    · rw [windowsLawful_iff, wd]; exact hs
    · rw [wd]; exact hs (ingestDelivery_idle d (lastBeat out index s) active)

theorem resumeTaking_tablesKept (s : State) : TablesKept s (resumeTaking s) := by
  unfold resumeTaking
  split
  · exact takeAll_tablesKept _ s
  · exact .refl s

/-- A presented command: it ends PASS-ONLY and records are taken, or windows, guide, lanes and phase are kept. -/
theorem present_tables (l : Lines) (s : State) :
    (∃ u, OnlyChannel s u ∧ s.ct.unfollowed.any = true ∧ present l s = resumeTaking u) ∨ OnlyChannel s (present l s) := by
  cases h : s.decodes with
  | false => rw [present_passed l s h]; exact .inr (onlyChannel_ct s _)
  | true =>
    rw [present_decoded l s h]
    by_cases mode : l.group = .mode
    · rw [show commandEffect l (driveLines l s) = modeEffect l.ba l.a (driveLines l s) by simp [commandEffect, mode]]
      have moved : OnlyChannel s (movedByMode l.ba l.a (driveLines l s)) := ⟨rfl, rfl, rfl, rfl, rfl, rfl, rfl, rfl⟩
      rcases modeEffect_cases l.ba l.a (driveLines l s) with ⟨-, e⟩ | ⟨-, -, e⟩ | ⟨some, -, e⟩
      · exact .inr (e ▸ onlyChannel_ct s _)
      · exact .inr (e ▸ moved)
      · exact .inl ⟨_, moved, some, e⟩
    · exact .inr ((lineKept_driveLines l s).trans (commandEffect_line l _ mode).1).only

theorem OnlyChannel.guide {s t : State} (h : OnlyChannel s t) : GuideKept s t := ⟨h.wd, by rw [h.prt]⟩

theorem endStartup_tablesKept (order : List (Fin 4)) (s : State) : TablesKept s (endStartup order s) := by
  simp only [endStartup]
  split
  · exact GuideKept.tablesKept ⟨rfl, rfl⟩
  · refine TablesKept.trans (GuideKept.tablesKept ?_) (takeAll_tablesKept order _)
    exact ⟨rfl, rfl⟩

/-- Every kind of step keeps the laws of the window table, and an ACTIVE ingest its INGEST window. -/
theorem StepCase.tablesKept {s t : State} (h : StepCase s t) : TablesKept s t := by
  cases h with
  | presented l =>
    rcases present_tables l s with ⟨u, only, -, e⟩ | only
    · exact e ▸ only.guide.tablesKept.trans (resumeTaking_tablesKept u)
    · exact only.guide.tablesKept
  | rose => exact (riseEnable_only s).guide.tablesKept
  | fell l => exact (fallEnable_only l s).guide.tablesKept
  | lineReset =>
    split
    · obtain ⟨wd, idle⟩ := resetChannel_tables s
      exact TableEffect.tablesKept (.ended wd idle)
    · exact GuideKept.tablesKept ⟨rfl, rfl⟩
  | beat dir index data mask => exact (passBeat_case dir index data mask s).tablesKept
  | record i hd code body => exact (presentRecord_case i hd code body s).tablesKept
  | path t kept => exact GuideKept.tablesKept ⟨kept.wd, by rw [kept.prt]⟩
  | reset => exact ⟨fun _ => (windowsLawful_iff _).mpr (atReset_lawful _), fun _ active => by cases active⟩
  | released arr cb fclr _ =>
    obtain ⟨-, wd, prt, -⟩ := release_blocks arr cb fclr s
    refine ⟨fun _ => ?_, fun _ active => ?_⟩
    · rw [windowsLawful_iff, wd]; exact atReset_lawful cb
    · rw [prt] at active; cases active
  | started order _ => exact endStartup_tablesKept order s

/-! ### A running ingest -/

/-- What an ACTIVE ingest asks of the state besides its window: start-up has ended and no lane holds its expected record
(R44, R73). -/
def State.IngestQuiet (s : State) : Prop :=
  s.prt.ingest.isSome = true → s.phase = .running ∧ ∀ n, (s.lane n).cur.closed = false

theorem ingestLawful_iff (s : State) : s.IngestLawful ↔ s.IngestBacked ∧ s.IngestQuiet := by
  constructor
  · exact fun h => ⟨fun a => (h a).2.1, fun a => ⟨(h a).1, (h a).2.2⟩⟩
  · exact fun ⟨b, q⟩ a => ⟨(q a).1, b a, (q a).2⟩

theorem State.IngestQuiet.congr {s t : State} (hs : s.IngestQuiet) (phase : t.phase = s.phase) (lc : t.lc = s.lc)
    (prt : t.prt = s.prt) : t.IngestQuiet := by
  intro active
  obtain ⟨running, opened⟩ := hs (prt ▸ active)
  exact ⟨phase.trans running, fun n => by rw [lane_of_lc s t lc, opened]⟩

/-- A lane written while no lane could hold its expected record (R44). -/
theorem LaneCase.ingestQuiet {lane : Fin 4} {s t : State} (h : LaneCase lane s t) (hs : s.IngestQuiet)
    (phase : t.phase = s.phase) (held : s.phase = .running → ∀ n, (s.lane n).cur.closed = false) : t.IngestQuiet := by
  intro active
  by_cases running : s.phase = .running
  · exact ⟨phase.trans running, h.curOpen running (held running)⟩
  · rw [h.ingest_of_starting running] at active
    exact absurd (hs active).1 running

/-- Where bursts can be delivered or records closed, the unfollowed set is empty, so that no lane holds its expected record
once start-up has ended (R21, R44). -/
theorem nothingHeld {s : State} (agrees : s.ChannelAgrees) (held : s.HeldLawful) (abandoned : s.BurstsAbandoned)
    (inside : s.ct.outstanding ≠ []) (live : s.ct.channel ≠ .passOnly) (running : s.phase = .running) (n : Fin 4) :
    (s.lane n).cur.closed = false := by
  refine held running ?_ n
  cases cke : s.ct.cke with
  | true =>
    have follows := agrees.2.1 cke
    rw [follows] at live
    simpa [Unfollowed.channelState] using live
  | false =>
    rcases agrees.2.2 cke with down | down | ⟨-, empty⟩
    · exact absurd (abandoned (.inl down)) inside
    · exact absurd (abandoned (.inr down)) inside
    · exact empty

theorem BeatCase.ingest {s t : State} (h : BeatCase s t) (agrees : s.ChannelAgrees) (held : s.HeldLawful)
    (abandoned : s.BurstsAbandoned) (quiet : s.IngestQuiet) :
    t.IngestQuiet ∧ (s.prt.ingest.isSome = true → t.prt.ingest.isSome = true → SameIngestEntry s t) := by
  have moved : ∀ c, ({ s with ct := c } : State).IngestQuiet := fun c => quiet
  cases h with
  | unlisted out => exact ⟨moved _, fun _ _ => .of_wd rfl⟩
  | counted out index b c => exact ⟨moved _, fun _ _ => .of_wd rfl⟩
  | finished out index => exact ⟨moved _, fun _ _ => .of_wd rfl⟩
  | toLane out index inside live lane ring d =>
    have lane_case := laneDelivery_case lane ring d (lastBeat out index s)
    have listed : s.ct.outstanding ≠ [] := List.ne_nil_of_length_pos (by omega)
    exact ⟨lane_case.ingestQuiet (moved _) (laneDelivery_keeps _ _ _ _).2 fun running =>
      nothingHeld (s := s) agrees held abandoned listed live running, lane_case.sameIngestEntry⟩
  | toIngest out index _ _ d =>
    obtain ⟨keeps, wd⟩ := ingestDelivery_keeps d (lastBeat out index s)
    refine ⟨fun active => ?_, fun _ _ => .of_wd wd⟩
    obtain ⟨running, opened⟩ := quiet (ingestDelivery_idle d (lastBeat out index s) active)
    exact ⟨keeps.phase.trans running, fun n => by rw [(keeps.places n).cur]; exact opened n⟩

/-- Every kind of step keeps an ACTIVE ingest to the running part with no record held, and the INGEST entry where the run
stays ACTIVE. -/
theorem StepCase.ingest {s t : State} (h : StepCase s t) (agrees : s.ChannelAgrees) (held : s.HeldLawful)
    (abandoned : s.BurstsAbandoned) (quiet : s.IngestQuiet) :
    t.IngestQuiet ∧ (s.prt.ingest.isSome = true → t.prt.ingest.isSome = true → SameIngestEntry s t) := by
  have apart : ∀ {u : State}, OnlyChannel s u →
      u.IngestQuiet ∧ (s.prt.ingest.isSome = true → u.prt.ingest.isSome = true → SameIngestEntry s u) := fun only =>
    ⟨quiet.congr only.phase only.lc only.prt, fun _ _ => .of_wd only.wd⟩
  cases h with
  | presented l =>
    rcases present_tables l s with ⟨u, only, -, e⟩ | only
    · rw [e, resumeTaking]
      split
      next running =>
        refine ⟨fun _ => ⟨(takeAll_taking _ u).phase.trans (of_decide_eq_true running), takeAll_curOpen _ u⟩,
          fun active _ => ?_⟩
        rw [takeAll_open _ u fun n => by rw [lane_of_lc s u only.lc]; exact (quiet active).2 n]
        exact .of_wd only.wd
      next => exact apart only
    · exact apart only
  | rose => exact apart (riseEnable_only s)
  | fell l => exact apart (fallEnable_only l s)
  | lineReset =>
    split
    · obtain ⟨wd, idle⟩ := resetChannel_tables s
      exact ⟨fun active => by simp [idle] at active, fun _ _ => .of_wd wd⟩
    · exact apart (onlyChannel_ct s _)
  | beat dir index data mask => exact (passBeat_case dir index data mask s).ingest agrees held abandoned quiet
  | record i hd code body =>
    have lane_case := presentRecord_case i hd code body s
    refine ⟨?_, lane_case.sameIngestEntry⟩
    cases reaches : s.trafficReaches with
    | false => simpa [presentRecord, reaches] using quiet
    | true =>
      refine lane_case.ingestQuiet quiet (presentRecord_keeps i hd code body s).2 fun running => held running ?_
      simp only [State.trafficReaches, Bool.and_eq_true, decide_eq_true_eq] at reaches
      have follows := agrees.decoding reaches.1
      rw [reaches.2] at follows
      cases empty : s.ct.unfollowed.any with
      | false => rfl
      | true => simp [Unfollowed.channelState, empty] at follows
  | path t kept =>
    refine ⟨fun active => ?_, fun _ _ => .of_wd kept.wd⟩
    obtain ⟨running, opened⟩ := quiet (kept.prt ▸ active)
    rcases kept.phase with same | ⟨clearing, -⟩
    · exact ⟨same.trans running, fun n => by rw [lane_of_lc s t kept.lc, opened]⟩
    · rw [running] at clearing; cases clearing
  | reset => exact ⟨fun active => absurd active Bool.false_ne_true, fun _ active => absurd active Bool.false_ne_true⟩
  | released arr cb fclr _ =>
    obtain ⟨-, -, prt, -⟩ := release_blocks arr cb fclr s
    have idle : (release arr cb fclr s).prt.ingest.isSome ≠ true := by rw [prt]; exact Bool.false_ne_true
    exact ⟨fun active => absurd active idle, fun _ active => absurd active idle⟩
  | started order starting =>
    have idle : s.prt.ingest.isSome ≠ true := fun active => by
      have running := (quiet active).1
      rw [starting] at running; cases running
    refine ⟨?_, fun active => absurd active idle⟩
    simp only [endStartup]
    split
    · exact fun active => absurd active idle
    · exact fun _ => ⟨(takeAll_taking order _).phase, takeAll_curOpen order _⟩

end Sys2Proof.Machine
end

section
open Sys2Proof Sys2Proof.Machine

/-- Settles O58, by what each kind of step does to the window table, to the outstanding list and to the run of an ingest. -/
theorem windowsLawfulKept : Obligations.WindowsLawfulKept := by
  refine ⟨fun s t => ?_, fun s t agrees abandoned h => ?_, fun s t agrees held abandoned ingest h => ?_⟩
  · exact step_keeps (P := State.WindowsLawful) (fun _ _ h => h) (fun _ _ case => case.tablesKept.lawful) s t
  · obtain rfl | ⟨q, case⟩ := step_cases h
    · exact abandoned
    · exact case.burstsAbandoned agrees abandoned
  · obtain rfl | ⟨q, case⟩ := step_cases h
    · exact ⟨ingest, fun _ _ => ⟨rfl, rfl⟩⟩
    · obtain ⟨backed, quiet⟩ := (ingestLawful_iff s).mp ingest
      obtain ⟨quietAfter, same⟩ := case.ingest agrees held abandoned quiet
      exact ⟨(ingestLawful_iff t).mpr ⟨case.tablesKept.backed backed, quietAfter⟩, same⟩

end

section
/-! PROOFS. Part reset, addresses, and what each command of the channel does (R3 to R9, R18 to R23). -/

namespace Sys2Proof.Machine

/-! ### Presented commands -/

/-- The lines a column command drives (R2). -/
def columnLines : Dir → BitVec 3 → BitVec 16 → Lines
  | .read, ba, a => commandLines true false true ba a
  | .write, ba, a => commandLines true false false ba a

/-- A column command that CT decodes (R6, R7). -/
theorem runs_columnInstr (dir : Dir) (ba : BitVec 3) (a : BitVec 16) (s : State) (h : s.decodes = true) :
    Runs (columnInstr dir ba a) s (columnCommand dir ba a (driveLines (columnLines dir ba a) s)) := by
  cases dir <;> exact congrArg Host.Outcome.next (present_decoded _ s h)

theorem LineKept.decodes {s t : State} (h : LineKept s t) : t.decodes = s.decodes := by
  simp only [State.decodes, State.tracks, State.isReleased, h.only.phase, h.held.drst, h.held.cke]

theorem bank_of_banks {s t : State} (h : t.ct.banks = s.ct.banks) (ba : BitVec 3) : t.bank ba = s.bank ba := by
  simp [State.bank, h]

@[simp] theorem driveLines_bank (l : Lines) (s : State) (ba : BitVec 3) : (driveLines l s).bank ba = s.bank ba := rfl

@[simp] theorem closeBanks_bank (s : State) (ba : BitVec 3) : (closeBanks s).bank ba = none := by
  simp [State.bank, closeBanks]

/-! ### OPEN -/

theorem openBank_bank (ba : BitVec 3) (row : BitVec 16) (s : State) : (openBank ba row s).bank ba = some row :=
  bank_setBank_same _ ba _

theorem openBank_bank_other (ba bb : BitVec 3) (row : BitVec 16) (s : State) (h : bb ≠ ba) :
    (openBank ba row s).bank bb = s.bank bb := by
  refine (bank_setBank_other _ ba bb _ h).trans ?_
  split
  · exact bank_of_banks (by simp) bb
  · rfl

/-- REOPEN is reported exactly on an open bank (R5). -/
theorem openBank_report (ba : BitVec 3) (row : BitVec 16) (s : State) :
    (s.bank ba = none → (openBank ba row s).au = s.au)
      ∧ ((s.bank ba).isSome = true → Reported s (openBank ba row s) .reopen 0 ba row.toNat 0) := by
  constructor
  · intro closed
    simp [openBank, closed]
  · intro opened
    exact (report_reported s .reopen 0 ba row.toNat 0).congr rfl (by simp [openBank, opened])

theorem openBank_sdu (ba : BitVec 3) (row : BitVec 16) (s : State) : (openBank ba row s).sdu = s.sdu := by
  simp only [openBank, setBank_sdu]
  split <;> simp

/-! ### Column commands -/

theorem columnClosed_spec (dir : Dir) (ba : BitVec 3) (a : BitVec 16) (s : State) :
    Reported s (columnClosed dir ba a s) .closedBank 0 ba 0 (columnOf a)
      ∧ (columnClosed dir ba a s).ct.banks = s.ct.banks ∧ (columnClosed dir ba a s).sdu = s.sdu
      ∧ (columnClosed dir ba a s).ct.outstanding =
          if s.hasRoom then
            s.ct.outstanding ++ [closedBurst dir (burstLength s.ct.form (burstSelect a)) ba (columnOf a)]
          else s.ct.outstanding := by
  have reported := report_reported s .closedBank 0 ba 0 (columnOf a)
  simp only [columnClosed]
  split
  · exact ⟨reported.congr rfl rfl, by simp [pushBurst], by simp [pushBurst], by simp [pushBurst]⟩
  · exact ⟨reported, by simp, by simp, by simp⟩

/-- The burst a column command to an open bank enters (R6, R14). -/
def enteredBurst (dir : Dir) (ba : BitVec 3) (row a : BitVec 16) (s : State) : Burst :=
  openBurst dir (burstLength s.ct.form (burstSelect a)) (columnBlock s ba row a) ba (columnOf a) row
    (classify dir (burstLength s.ct.form (burstSelect a)) (columnBlock s ba row a) ba row (columnOf a) s)

theorem columnOpen_outstanding (dir : Dir) (ba : BitVec 3) (row a : BitVec 16) (s : State)
    (room : s.ct.outstanding.length < 8) :
    (columnOpen dir ba row a s).ct.outstanding = s.ct.outstanding ++ [enteredBurst dir ba row a s] := by
  have ct := (classify_line dir (burstLength s.ct.form (burstSelect a)) (columnBlock s ba row a) ba row (columnOf a) s).2
  have hasRoom : s.hasRoom = true := decide_eq_true room
  simp only [columnOpen, hasRoom, if_true]
  split <;> simp [State.setBank, pushBurst, ct, enteredBurst]

/-- With a full list the burst is not entered, and the auto-close flag alone acts (R6, R14). -/
theorem columnOpen_full (dir : Dir) (ba : BitVec 3) (row a : BitVec 16) (s : State)
    (full : 8 ≤ s.ct.outstanding.length) :
    columnOpen dir ba row a s = if autoClose a then s.setBank ba none else s := by
  have hasRoom : s.hasRoom = false := decide_eq_false (by omega)
  simp [columnOpen, hasRoom]

theorem columnOpen_banks (dir : Dir) (ba : BitVec 3) (row a : BitVec 16) (s : State) :
    (columnOpen dir ba row a s).ct.banks = if autoClose a then (s.setBank ba none).ct.banks else s.ct.banks := by
  have ct := (classify_line dir (burstLength s.ct.form (burstSelect a)) (columnBlock s ba row a) ba row (columnOf a) s).2
  simp only [columnOpen]
  cases s.hasRoom <;> cases autoClose a <;> simp [State.setBank, pushBurst, ct]

/-- A column command to an open bank with room enters a burst at the address its row gives (R3, R6, R12). -/
theorem columnInstr_enters (dir : Dir) (ba : BitVec 3) (row a : BitVec 16) (s : State) (decodes : s.decodes = true)
    (opened : s.bank ba = some row) (room : s.ct.outstanding.length < 8) :
    ∃ u b, Runs (columnInstr dir ba a) s u ∧ u.ct.outstanding = s.ct.outstanding ++ [b] ∧ b.row = row.toNat
      ∧ b.block = some (channelAddress s.ct.arr ba row (columnOf a)
          - channelAddress s.ct.arr ba row (columnOf a) % (b.len * 4)) := by
  refine ⟨_, enteredBurst dir ba row a (driveLines (columnLines dir ba a) s), runs_columnInstr dir ba a s decodes, ?_, rfl,
    rfl⟩
  rw [columnCommand, driveLines_bank, opened]
  exact columnOpen_outstanding dir ba row a (driveLines (columnLines dir ba a) s) room

/-! ### REFRESH -/

theorem bankList_split (ba : BitVec 3) :
    bankList = bankList.take ba.toNat ++ ba :: bankList.drop (ba.toNat + 1)
      ∧ ∀ bc ∈ bankList.take ba.toNat, bc.toNat < ba.toNat := by
  revert ba; decide

/-- The lowest-numbered open bank is found (R9). -/
theorem lowestOpen_some (s : State) (ba : BitVec 3) (row : BitVec 16) (opened : s.bank ba = some row)
    (lowest : ∀ bc : BitVec 3, bc.toNat < ba.toNat → s.bank bc = none) : s.lowestOpen = some (ba, row) := by
  obtain ⟨split, below⟩ := bankList_split ba
  refine List.findSome?_eq_some_iff.mpr ⟨_, ba, _, split, by simp [opened], fun bc hbc => ?_⟩
  simp [lowest bc (below bc hbc)]

theorem lowestOpen_none (s : State) (closed : ∀ bb, s.bank bb = none) : s.lowestOpen = none :=
  List.findSome?_eq_none_iff.mpr fun bb _ => by simp [closed bb]

/-- A refresh closes every bank, reporting the lowest open one where one is open, and touches no slot (R9). -/
theorem refreshBanks_spec (s : State) :
    (∀ bb, (refreshBanks s).bank bb = none)
      ∧ ((∀ bb, s.bank bb = none) → (refreshBanks s).au = s.au)
      ∧ (∀ bb row, s.bank bb = some row → (∀ bc : BitVec 3, bc.toNat < bb.toNat → s.bank bc = none) →
          Reported s (refreshBanks s) .refreshOpen 0 bb row.toNat 0)
      ∧ (refreshBanks s).sdu = s.sdu := by
  refine ⟨fun bb => ?_, fun closed => ?_, fun bb row opened lowest => ?_, ?_⟩
  · unfold refreshBanks
    split <;> exact closeBanks_bank _ bb
  · rw [refreshBanks, lowestOpen_none s closed]; rfl
  · refine (report_reported s .refreshOpen 0 bb row.toNat 0).congr rfl ?_
    rw [refreshBanks, lowestOpen_some s bb row opened lowest]; rfl
  · unfold refreshBanks
    split <;> simp [closeBanks]

/-! ### Clock enable -/

theorem fallEnable_decoded (l : Lines) (s : State) (h : s.decodes = true) :
    fallEnable l s = { fallingEffect l (driveLines l s) with ct.cke := false } := by
  simp [fallEnable, h]

theorem fallEnable_passed (l : Lines) (s : State) (h : s.decodes = false) :
    fallEnable l s = { s with ct.out.lines := some l, ct.cke := false, ct.drst := s.ct.drst - 1 } := by
  simp [fallEnable, h, passUntracked, driveLines]

/-- Clock enable rises where CT follows the channel (R19, R20). -/
theorem riseEnable_tracked (s : State) (h : s.tracks = true) (low : s.ct.cke = false) :
    riseEnable s = { s with ct.cke := true, ct.channel := s.ct.afterRise } := by
  simp [riseEnable, State.decodes, h, low]

theorem riseEnable_untracked (s : State) (h : s.tracks = false) :
    riseEnable s = { s with ct.cke := true, ct.drst := s.ct.drst - 1 } := by
  simp [riseEnable, State.decodes, h, passUntracked]

/-! ### The lines of a command -/

/-- A command that lines spell presents those lines (R2). -/
theorem exec_of_command (l : Lines) (i : Instr) (s : State) (h : l.command = some i) : exec i s = .next (present l s) := by
  obtain ⟨csN, rasN, casN, weN, ba, a⟩ := l
  cases csN
  · cases rasN <;> cases casN <;> cases weN <;> simp [Lines.command, Lines.group] at h <;> subst h <;>
      (repeat' split) <;> rfl
  · simp [Lines.command, Lines.group] at h

/-- A command that lines spell as clock enable falls (R2). -/
theorem exec_fallingCommand (l : Lines) (s : State) : exec l.fallingCommand s = .next (fallEnable l s) := by
  unfold Lines.fallingCommand
  split
  next refresh =>
    obtain ⟨csN, rasN, casN, weN, ba, a⟩ := l
    cases csN <;> cases rasN <;> cases casN <;> cases weN <;> simp [Lines.group] at refresh
    rfl
  next => rfl

/-! ### The channel reset -/

/-- Zeroing the frame counts touches the slots alone (R103). -/
theorem zeroFrames_only (s : State) : zeroFrames s = { s with sdu := (zeroFrames s).sdu } := by
  refine forSlots_induct (P := fun t => t = { s with sdu := t.sdu }) _ (fun i t ht => ?_) s rfl
  rw [ht]; rfl

/-- A fold that sets each slot of a list from itself. -/
theorem foldl_setSlot_slot (g : Slot → Slot) (l : List (Fin 4)) (hl : l.Nodup) (s : State) (i : Fin 4) :
    (l.foldl (fun t j => t.setSlot j (g (t.slot j))) s).slot i = if i ∈ l then g (s.slot i) else s.slot i := by
  induction l generalizing s with
  | nil => rfl
  | cons j l ih =>
    obtain ⟨fresh, rest⟩ := List.nodup_cons.mp hl
    rw [List.foldl_cons, ih rest]
    by_cases e : i = j
    · subst e; simp [fresh]
    · simp [slot_setSlot_other s j i _ e, e]

theorem zeroFrames_slot (s : State) (i : Fin 4) : (zeroFrames s).slot i = { s.slot i with frames := 0 } := by
  have listed : i ∈ slotList := by revert i; decide
  refine (foldl_setSlot_slot (fun x => { x with frames := 0 }) slotList (by decide) s i).trans ?_
  rw [if_pos listed]

/-- What a channel reset starts the zeroing of frame counts from (R22). -/
def resetBeforeFrames (s : State) : State :=
  dropIngest (resetLanes (if s.ct.unfollowed.any then { s with ct := CT.atReset s.ct.arr s.ct.toPins }.raise .channel
    else { s with ct := CT.atReset s.ct.arr s.ct.toPins }))

theorem resetChannel_eq (s : State) : resetChannel s = zeroFrames (resetBeforeFrames s) := rfl

/-- All that stands of a state in which a channel reset has acted, but for its slots (R22, R57, R80). -/
theorem resetBeforeFrames_eq (s : State) : resetBeforeFrames s =
    { s with
      ct := CT.atReset s.ct.arr s.ct.toPins
      lc.lanes := s.lc.lanes.map fun l => Lane.atReset l.classes
      prt.ingest := none
      prt.stager := List.replicate 32 0
      au.status := if s.ct.unfollowed.any then s.au.status ||| Cause.channel.bit else s.au.status } := by
  unfold resetBeforeFrames
  cases s.ct.unfollowed.any <;> rfl

/-! ### MODE LOAD -/

theorem afterMode_values (ct : CT) (ba : BitVec 3) (a : BitVec 16) :
    (ct.afterMode ba a).form = (loadMode (ba.toNat % 4) a ct).form
      ∧ (ct.afterMode ba a).readLat = (loadMode (ba.toNat % 4) a ct).readLat
      ∧ (ct.afterMode ba a).addLat = (loadMode (ba.toNat % 4) a ct).addLat
      ∧ (ct.afterMode ba a).writeLat = (loadMode (ba.toNat % 4) a ct).writeLat := by
  simp only [CT.afterMode]
  split <;> exact ⟨rfl, rfl, rfl, rfl⟩

/-- The channel state after a MODE LOAD: kept where the unfollowed set is empty or non-empty as before, and else by it. -/
theorem afterMode_channel_cases (ct : CT) (ba : BitVec 3) (a : BitVec 16) :
    (ct.unfollowed.any = (ct.afterMode ba a).unfollowed.any → (ct.afterMode ba a).channel = ct.channel)
      ∧ (ct.unfollowed.any ≠ (ct.afterMode ba a).unfollowed.any →
          (ct.afterMode ba a).channel = (ct.afterMode ba a).unfollowed.channelState) := by
  rw [afterMode_unfollowed]
  simp only [CT.afterMode]
  constructor <;> intro h
  · rw [if_pos h]; exact (loadMode_keeps _ a ct).2.2.1
  · rw [if_neg h]

/-- Register 0 carries the read latency, in lines 0 to 4, and the burst form, in lines 8 and 9 (R203). -/
theorem loadMode_zero (a : BitVec 16) (ct : CT) :
    (5 ≤ a.toNat % 32 ∧ a.toNat % 32 ≤ 16 →
        (loadMode 0 a ct).readLat = a.toNat % 32 ∧ (loadMode 0 a ct).unfollowed.readLat = false)
      ∧ (a.toNat % 32 < 5 ∨ 16 < a.toNat % 32 →
        (loadMode 0 a ct).readLat = ct.readLat ∧ (loadMode 0 a ct).unfollowed.readLat = true)
      ∧ (a.toNat / 256 % 4 = 0 → (loadMode 0 a ct).form = ct.form ∧ (loadMode 0 a ct).unfollowed.form = true)
      ∧ (a.toNat / 256 % 4 = 1 → (loadMode 0 a ct).form = .fixed8 ∧ (loadMode 0 a ct).unfollowed.form = false)
      ∧ (a.toNat / 256 % 4 = 2 → (loadMode 0 a ct).form = .fixed4 ∧ (loadMode 0 a ct).unfollowed.form = false)
      ∧ (a.toNat / 256 % 4 = 3 → (loadMode 0 a ct).form = .selectable ∧ (loadMode 0 a ct).unfollowed.form = false) := by
  have read : readLatField a = if 5 ≤ a.toNat % 32 ∧ a.toNat % 32 ≤ 16 then some (a.toNat % 32) else none := by
    simp [readLatField, BitVec.extractLsb'_toNat]
  have form : (a.extractLsb' 8 2).toNat = a.toNat / 256 % 4 := by
    simp [BitVec.extractLsb'_toNat, Nat.shiftRight_eq_div_pow]
  refine ⟨fun h => ?_, fun h => ?_, fun h => ?_, fun h => ?_, fun h => ?_, fun h => ?_⟩
  · simp [loadMode, read, h]
  · have : ¬ (5 ≤ a.toNat % 32 ∧ a.toNat % 32 ≤ 16) := by omega
    simp [loadMode, read, this]
  all_goals simp [loadMode, formField, form, h]

/-- Register 1 carries the additive latency, in lines 10 to 12 (R203). -/
theorem loadMode_one (a : BitVec 16) (ct : CT) :
    (a.toNat / 1024 % 8 ≤ 4 →
        (loadMode 1 a ct).addLat = a.toNat / 1024 % 8 ∧ (loadMode 1 a ct).unfollowed.addLat = false)
      ∧ (4 < a.toNat / 1024 % 8 →
        (loadMode 1 a ct).addLat = ct.addLat ∧ (loadMode 1 a ct).unfollowed.addLat = true) := by
  have add : addLatField a = if a.toNat / 1024 % 8 ≤ 4 then some (a.toNat / 1024 % 8) else none := by
    simp [addLatField, BitVec.extractLsb'_toNat, Nat.shiftRight_eq_div_pow]
  constructor <;> intro h
  · simp [loadMode, add, h]
  · simp [loadMode, add, Nat.not_le.mpr h]

/-- Register 2 carries the write latency, in lines 0 to 3 (R203). -/
theorem loadMode_two (a : BitVec 16) (ct : CT) :
    (a.toNat % 16 ≤ 7 →
        (loadMode 2 a ct).writeLat = a.toNat % 16 + 5 ∧ (loadMode 2 a ct).unfollowed.writeLat = false)
      ∧ (7 < a.toNat % 16 →
        (loadMode 2 a ct).writeLat = ct.writeLat ∧ (loadMode 2 a ct).unfollowed.writeLat = true) := by
  have write : writeLatField a = if a.toNat % 16 ≤ 7 then some (a.toNat % 16 + 5) else none := by
    simp [writeLatField, BitVec.extractLsb'_toNat]
  constructor <;> intro h
  · simp [loadMode, write, h]
  · simp [loadMode, write, Nat.not_le.mpr h]

/-- A register leaves the fields of the others (R18, R203). -/
theorem loadMode_others (reg : Nat) (a : BitVec 16) (ct : CT) :
    (reg ≠ 0 → (loadMode reg a ct).form = ct.form ∧ (loadMode reg a ct).readLat = ct.readLat
        ∧ (loadMode reg a ct).unfollowed.form = ct.unfollowed.form
        ∧ (loadMode reg a ct).unfollowed.readLat = ct.unfollowed.readLat)
      ∧ (reg ≠ 1 → (loadMode reg a ct).addLat = ct.addLat
        ∧ (loadMode reg a ct).unfollowed.addLat = ct.unfollowed.addLat)
      ∧ (reg ≠ 2 → (loadMode reg a ct).writeLat = ct.writeLat
        ∧ (loadMode reg a ct).unfollowed.writeLat = ct.unfollowed.writeLat) := by
  unfold loadMode
  split
  · exact ⟨fun h => absurd rfl h, fun _ => ⟨rfl, rfl⟩, fun _ => ⟨rfl, rfl⟩⟩
  · exact ⟨fun _ => ⟨rfl, rfl, rfl, rfl⟩, fun h => absurd rfl h, fun _ => ⟨rfl, rfl⟩⟩
  · exact ⟨fun _ => ⟨rfl, rfl, rfl, rfl⟩, fun _ => ⟨rfl, rfl⟩, fun h => absurd rfl h⟩
  · exact ⟨fun _ => ⟨rfl, rfl, rfl, rfl⟩, fun _ => ⟨rfl, rfl⟩, fun _ => ⟨rfl, rfl⟩⟩

/-- PASS-ONLY begun or ended under the lines that a MODE LOAD drives. -/
theorem movedByMode_driven (ba : BitVec 3) (a : BitVec 16) (l : Lines) (s : State) :
    movedByMode ba a (driveLines l s) =
      { s with ct := (driveLines l s).ct.afterMode ba a, au.status := s.au.status ||| Cause.channel.bit } := rfl

/-! What a MODE LOAD of each register makes of CT, by the fields the register carries. -/

theorem afterMode_zero (ct : CT) (ba : BitVec 3) (a : BitVec 16) (h : ba.toNat % 4 = 0) :
    (5 ≤ a.toNat % 32 ∧ a.toNat % 32 ≤ 16 →
        (ct.afterMode ba a).readLat = a.toNat % 32 ∧ (ct.afterMode ba a).unfollowed.readLat = false)
      ∧ (a.toNat % 32 < 5 ∨ 16 < a.toNat % 32 →
        (ct.afterMode ba a).readLat = ct.readLat ∧ (ct.afterMode ba a).unfollowed.readLat = true)
      ∧ (a.toNat / 256 % 4 = 0 → (ct.afterMode ba a).form = ct.form ∧ (ct.afterMode ba a).unfollowed.form = true)
      ∧ (a.toNat / 256 % 4 = 1 → (ct.afterMode ba a).form = .fixed8 ∧ (ct.afterMode ba a).unfollowed.form = false)
      ∧ (a.toNat / 256 % 4 = 2 → (ct.afterMode ba a).form = .fixed4 ∧ (ct.afterMode ba a).unfollowed.form = false)
      ∧ (a.toNat / 256 % 4 = 3 →
        (ct.afterMode ba a).form = .selectable ∧ (ct.afterMode ba a).unfollowed.form = false) := by
  obtain ⟨form, readLat, -, -⟩ := afterMode_values ct ba a
  rw [afterMode_unfollowed, form, readLat, h]
  exact loadMode_zero a ct

theorem afterMode_one (ct : CT) (ba : BitVec 3) (a : BitVec 16) (h : ba.toNat % 4 = 1) :
    (a.toNat / 1024 % 8 ≤ 4 →
        (ct.afterMode ba a).addLat = a.toNat / 1024 % 8 ∧ (ct.afterMode ba a).unfollowed.addLat = false)
      ∧ (4 < a.toNat / 1024 % 8 →
        (ct.afterMode ba a).addLat = ct.addLat ∧ (ct.afterMode ba a).unfollowed.addLat = true) := by
  obtain ⟨-, -, addLat, -⟩ := afterMode_values ct ba a
  rw [afterMode_unfollowed, addLat, h]
  exact loadMode_one a ct

theorem afterMode_two (ct : CT) (ba : BitVec 3) (a : BitVec 16) (h : ba.toNat % 4 = 2) :
    (a.toNat % 16 ≤ 7 →
        (ct.afterMode ba a).writeLat = a.toNat % 16 + 5 ∧ (ct.afterMode ba a).unfollowed.writeLat = false)
      ∧ (7 < a.toNat % 16 →
        (ct.afterMode ba a).writeLat = ct.writeLat ∧ (ct.afterMode ba a).unfollowed.writeLat = true) := by
  obtain ⟨-, -, -, writeLat⟩ := afterMode_values ct ba a
  rw [afterMode_unfollowed, writeLat, h]
  exact loadMode_two a ct

theorem afterMode_others (ct : CT) (ba : BitVec 3) (a : BitVec 16) :
    (ba.toNat % 4 ≠ 0 → (ct.afterMode ba a).form = ct.form ∧ (ct.afterMode ba a).readLat = ct.readLat
        ∧ (ct.afterMode ba a).unfollowed.form = ct.unfollowed.form
        ∧ (ct.afterMode ba a).unfollowed.readLat = ct.unfollowed.readLat)
      ∧ (ba.toNat % 4 ≠ 1 → (ct.afterMode ba a).addLat = ct.addLat
        ∧ (ct.afterMode ba a).unfollowed.addLat = ct.unfollowed.addLat)
      ∧ (ba.toNat % 4 ≠ 2 → (ct.afterMode ba a).writeLat = ct.writeLat
        ∧ (ct.afterMode ba a).unfollowed.writeLat = ct.unfollowed.writeLat) := by
  obtain ⟨form, readLat, addLat, writeLat⟩ := afterMode_values ct ba a
  rw [afterMode_unfollowed, form, readLat, addLat, writeLat]
  exact loadMode_others (ba.toNat % 4) a ct

end Sys2Proof.Machine
end

section
open Sys2Proof Sys2Proof.Machine

/-- Settles O3: the state at part reset, field by field. -/
theorem partResetValues : Obligations.PartResetValues := by
  intro s
  refine ⟨_, rfl, rfl, fun ba => ?_, rfl, rfl, rfl, rfl, rfl, rfl, rfl, fun n => ?_, rfl, rfl, rfl, rfl, rfl, rfl, fun i => ?_,
    rfl, rfl, rfl, rfl, (by decide : AU.atReset.asserted = false), rfl, rfl, rfl, rfl, rfl, rfl, rfl, rfl⟩
  · simp [State.bank, State.inReset, CT.atReset]
  · have lane : ∀ s : State, ∃ classes, (State.inReset s.sc.store s.ct.arr s.wd.strapCb s.ct.toPins s.pending).lane n
        = Lane.atReset classes := fun s => ⟨_, by simp [State.lane, State.inReset]; rfl⟩
    obtain ⟨classes, e⟩ := lane s
    rw [e]
    exact ⟨rfl, rfl, rfl, rfl, rfl, fun k => by simp [Lane.atReset]⟩
  · simp [State.slot, State.inReset, Slot.atReset]

/-- Settles O4: under each arrangement an address is the column in base 8, 65536 and 1024, four bytes to each. -/
theorem addressesInjective : Obligations.AddressesInjective := by
  intro arr b b' r r' c c' hc hc'
  have hb := b.isLt; have hb' := b'.isLt; have hr := r.isLt; have hr' := r'.isLt
  cases arr <;> simp only [channelAddress] <;> refine ⟨by omega, by omega, fun h => ⟨?_, ?_, by omega⟩⟩
  all_goals exact BitVec.eq_of_toNat_eq (by omega)

/-- Settles O5. -/
theorem openTakesRow : Obligations.OpenTakesRow := by
  intro s ba a decodes
  have driven := lineKept_driveLines (commandLines false true true ba a) s
  generalize hu : driveLines (commandLines false true true ba a) s = u at driven
  obtain ⟨outstanding, out⟩ := openBank_outstanding ba a u
  obtain ⟨silent, reported⟩ := openBank_report ba a u
  have kept := driven.trans (lineKept_openBank ba a u)
  have runs : Runs (.bankOpen ba a) s (openBank ba a u) :=
    congrArg Host.Outcome.next (hu ▸ present_decoded (commandLines false true true ba a) s decodes)
  subst hu
  refine ⟨_, runs, openBank_bank ba a _, fun bb h => openBank_bank_other ba bb a _ h, silent, fun h => (reported h).congr
    rfl rfl, outstanding, by rw [out]; rfl, kept.held, kept.only, openBank_sdu ba a _, fun room dir col => ?_⟩
  have list := outstanding.trans (rfl : _ = s.ct.outstanding)
  obtain ⟨v, b, next, entered, row, block⟩ := columnInstr_enters dir ba a col _ (kept.decodes.trans decodes)
    (openBank_bank ba a _) (list ▸ room)
  exact ⟨v, b, next, list ▸ entered, row, kept.held.arr ▸ block⟩

/-- Settles O6. -/
theorem columnToClosedBank : Obligations.ColumnToClosedBank := by
  intro s dir ba a decodes closed
  have driven := lineKept_driveLines (columnLines dir ba a) s
  obtain ⟨reported, banks, sdu, outstanding⟩ := columnClosed_spec dir ba a (driveLines (columnLines dir ba a) s)
  have kept := driven.trans (columnClosed_line dir ba a (driveLines (columnLines dir ba a) s)).1
  have command : columnCommand dir ba a (driveLines (columnLines dir ba a) s)
      = columnClosed dir ba a (driveLines (columnLines dir ba a) s) := by
    rw [columnCommand, driveLines_bank, closed]
  refine ⟨_, command ▸ runs_columnInstr dir ba a s decodes, reported.congr rfl rfl, banks, fun room => ?_, fun full => ?_,
    kept.held, kept.only, sdu⟩
  · have hasRoom : (driveLines (columnLines dir ba a) s).hasRoom = true := decide_eq_true room
    rw [hasRoom, if_pos rfl] at outstanding
    exact ⟨_, outstanding, rfl, rfl, rfl, rfl, rfl, rfl, rfl, rfl, rfl⟩
  · have hasRoom : (driveLines (columnLines dir ba a) s).hasRoom = false := decide_eq_false (Nat.not_lt.mpr full)
    rw [hasRoom] at outstanding
    exact outstanding

/-- Settles O7. -/
theorem columnToOpenBank : Obligations.ColumnToOpenBank := by
  intro s dir ba a row decodes opened
  have driven := lineKept_driveLines (columnLines dir ba a) s
  have banks := columnOpen_banks dir ba row a (driveLines (columnLines dir ba a) s)
  have kept := driven.trans (columnOpen_line dir ba row a (driveLines (columnLines dir ba a) s)).1
  have command : columnCommand dir ba a (driveLines (columnLines dir ba a) s)
      = columnOpen dir ba row a (driveLines (columnLines dir ba a) s) := by
    rw [columnCommand, driveLines_bank, opened]
  refine ⟨_, command ▸ runs_columnInstr dir ba a s decodes, ?_, fun bb other => ?_, fun room => ?_, fun full => ?_,
    kept.held, kept.only⟩
  · cases closes : autoClose a <;> rw [closes] at banks
    · exact (bank_of_banks banks ba).trans opened
    · exact (bank_of_banks banks ba).trans (bank_setBank_same _ ba none)
  · cases closes : autoClose a <;> rw [closes] at banks
    · exact bank_of_banks banks bb
    · exact (bank_of_banks banks bb).trans (bank_setBank_other _ ba bb none other)
  · exact ⟨_, columnOpen_outstanding dir ba row a _ room, rfl, rfl, rfl, rfl, rfl, rfl, rfl, rfl⟩
  · rw [columnOpen_full dir ba row a (driveLines (columnLines dir ba a) s) full]
    split <;> exact ⟨rfl, rfl, rfl⟩

/-- Settles O11. -/
theorem closeCommands : Obligations.CloseCommands := by
  intro s ba a decodes
  have driven := lineKept_driveLines (commandLines false true false ba a) s
  constructor
  · intro low
    have line : a.getLsbD 10 = false := by simpa [Instr.wellFormed] using low
    have kept := driven.trans (lineKept_setBank (driveLines (commandLines false true false ba a) s) ba none)
    refine ⟨(driveLines (commandLines false true false ba a) s).setBank ba none, ?_, bank_setBank_same _ ba none,
      fun bb other => bank_setBank_other _ ba bb none other, rfl, rfl, kept.held, kept.only, rfl⟩
    exact congrArg Host.Outcome.next ((present_decoded _ s decodes).trans (by rw [commandEffect_close, line]; rfl))
  · intro high
    have line : a.getLsbD 10 = true := by simpa [Instr.wellFormed] using high
    have kept := driven.trans (lineKept_closeBanks (driveLines (commandLines false true false ba a) s))
    refine ⟨closeBanks (driveLines (commandLines false true false ba a) s), ?_, closeBanks_bank _, rfl, rfl, kept.held,
      kept.only, rfl⟩
    exact congrArg Host.Outcome.next ((present_decoded _ s decodes).trans (by rw [commandEffect_close, line]; rfl))

/-- Settles O12. -/
theorem refreshCommands : Obligations.RefreshCommands := by
  intro s ba a decodes
  have driven := lineKept_driveLines (commandLines false false true ba a) s
  obtain ⟨closed, silent, reported, sdu⟩ := refreshBanks_spec (driveLines (commandLines false false true ba a) s)
  have kept := driven.trans (lineKept_refreshBanks (driveLines (commandLines false false true ba a) s))
  constructor
  · refine ⟨_, congrArg Host.Outcome.next ((present_decoded _ s decodes).trans (commandEffect_refresh ba a _)), closed,
      silent, fun bb row h low => (reported bb row h low).congr rfl rfl, refreshBanks_outstanding _, kept.held, kept.only,
      sdu⟩
  · have rest : fallingEffect (commandLines false false true ba a) (driveLines (commandLines false false true ba a) s)
        = enterRest (driveLines (commandLines false false true ba a) s) := if_pos rfl
    have runs : Runs (.restEntry ba a) s
        { enterRest (driveLines (commandLines false false true ba a) s) with ct.cke := false } :=
      congrArg Host.Outcome.next (rest ▸ fallEnable_decoded _ s decodes)
    obtain ⟨held, only⟩ := kept
    exact ⟨_, runs, closed, silent, fun bb row h low => (reported bb row h low).congr rfl rfl, rfl, rfl, rfl, held.form,
      held.readLat, held.addLat, held.writeLat, held.unfollowed,
      ⟨only.phase, only.wd, only.lc, only.prt, only.pss, only.vtu, only.sc, only.pending⟩, sdu⟩

/-- Settles O13, register by register and by the three things a MODE LOAD can be. -/
theorem modeLoadFields : Obligations.ModeLoadFields := by
  intro s ba a decodes
  have runs : Runs (.modeLoad ba a) s (modeEffect ba a (driveLines (commandLines false false false ba a) s)) :=
    congrArg Host.Outcome.next ((present_decoded _ s decodes).trans (commandEffect_mode ba a _))
  generalize hu : driveLines (commandLines false false false ba a) s = u at runs
  obtain ⟨ct, phase⟩ := modeEffect_ct ba a u
  have cases := modeEffect_cases ba a u
  generalize modeEffect ba a u = t at *
  subst hu
  obtain ⟨-, banks, outstanding⟩ := afterMode_keeps (driveLines (commandLines false false false ba a) s).ct ba a
  obtain ⟨stays, moves⟩ := afterMode_channel_cases (driveLines (commandLines false false false ba a) s).ct ba a
  obtain ⟨zero, one, two⟩ := afterMode_others (driveLines (commandLines false false false ba a) s).ct ba a
  refine ⟨t, runs, fun reg => ?_, fun reg => ?_, fun reg => ?_, ct ▸ zero, ct ▸ one, ct ▸ two, fun same => ?_,
    fun moved => ?_, fun moved quiet => ?_, fun occupied empty running => ?_, by rw [ct, banks]; rfl,
    by rw [ct, outstanding]; rfl, phase⟩
  · rw [ct]; exact afterMode_zero _ ba a reg
  · rw [ct]; exact afterMode_one _ ba a reg
  · rw [ct]; exact afterMode_two _ ba a reg
  · rw [ct] at same ⊢
    rcases cases with ⟨-, rfl⟩ | ⟨h, h', -⟩ | ⟨h, h', -⟩
    · exact ⟨stays same, rfl, ⟨rfl, rfl, rfl, rfl, rfl, rfl, rfl, rfl⟩, rfl⟩
    · exact absurd (h.symm.trans (same.trans h')) Bool.false_ne_true
    · exact absurd (h'.symm.trans (same.symm.trans h)) Bool.false_ne_true
  · rw [ct] at moved ⊢
    exact moves moved
  · rw [ct] at moved quiet
    rcases cases with ⟨h, -⟩ | ⟨-, -, rfl⟩ | ⟨-, h', e⟩
    · exact absurd h moved
    · exact ⟨rfl, ⟨rfl, rfl, rfl, rfl, rfl, rfl, rfl, rfl⟩, rfl⟩
    · rw [h'] at quiet
      have waits : s.NothingWaits := quiet.resolve_left Bool.false_ne_true
      obtain rfl := e.trans (resumeTaking_open (movedByMode ba a _) waits)
      exact ⟨rfl, ⟨rfl, rfl, rfl, rfl, rfl, rfl, rfl, rfl⟩, rfl⟩
  · rw [ct] at empty
    rcases cases with ⟨h, -⟩ | ⟨h, -, -⟩ | ⟨-, -, e⟩
    · exact absurd (empty.symm.trans (h.symm.trans occupied)) Bool.false_ne_true
    · exact absurd (h.symm.trans occupied) Bool.false_ne_true
    · have isRunning : (movedByMode ba a (driveLines (commandLines false false false ba a) s)).isRunning = true :=
        decide_eq_true running
      rw [resumeTaking, if_pos isRunning] at e
      have took := takeAll_tookHeld s.lc.order (movedByMode ba a (driveLines (commandLines false false false ba a) s))
      rw [← show t = takeAll s.lc.order _ from e] at took
      rw [movedByMode_driven] at e
      exact ⟨by rw [ct]; exact e, fun n => ⟨(took n).curOpen, (took n).expected⟩⟩

/-- Settles O14. -/
theorem clockEnableEdges : Obligations.ClockEnableEdges := by
  refine ⟨fun s l decodes wellFormed => ?_, fun s tracks low rest => ?_, fun s tracks low idle => ?_⟩
  · have group : l.group ≠ .refresh := of_decide_eq_true wellFormed
    have runs : Runs (.idleEntry l) s { enterIdle (driveLines l s) with ct.cke := false } := by
      refine congrArg Host.Outcome.next ((fallEnable_decoded l s decodes).trans ?_)
      rw [fallingEffect, if_neg group]
    exact ⟨_, runs, rfl, rfl, rfl, rfl, rfl, rfl, rfl, rfl, rfl, rfl, rfl, ⟨rfl, rfl, rfl, rfl, rfl, rfl, rfl, rfl⟩, rfl⟩
  · refine ⟨_, congrArg Host.Outcome.next (riseEnable_tracked s tracks low), ?_⟩
    simp only [CT.afterRise, rest, Unfollowed.channelState]
  · refine ⟨_, congrArg Host.Outcome.next (riseEnable_tracked s tracks low), ?_⟩
    simp only [CT.afterRise, idle, Unfollowed.channelState]

/-- Settles O15. -/
theorem channelResetEffect : Obligations.ChannelResetEffect := by
  refine ⟨fun s released => ?_, fun s l i cke untracked command => ?_, fun s l untracked => ?_⟩
  · have runs : Runs .channelReset s (assertLine (zeroFrames (resetBeforeFrames s))) := by
      refine congrArg Host.Outcome.next ?_
      rw [if_pos released, resetChannel_eq]
    have slots := zeroFrames_slot (resetBeforeFrames s)
    have rest := zeroFrames_only (resetBeforeFrames s)
    generalize zeroFrames (resetBeforeFrames s) = u at *
    rw [resetBeforeFrames_eq] at rest slots
    generalize u.sdu = slotRecords at rest
    subst rest
    refine ⟨_, runs, rfl, rfl, rfl, rfl, fun ba => ?_, rfl, rfl, rfl, rfl, rfl, rfl, rfl, rfl, fun n => ?_, rfl, rfl, rfl,
      slots, fun empty => ?_, fun occupied => ?_, rfl, rfl, rfl, rfl, rfl, rfl⟩
    · simp [State.bank, CT.atReset]
    · simp [State.lane]
    · simp [empty]
    · simp [occupied]
  · rw [Runs, exec_of_command l i s command, present_passed l s (decodes_of_untracked s untracked)]
  · refine ⟨?_, congrArg Host.Outcome.next (riseEnable_untracked s untracked),
      congrArg Host.Outcome.next (riseEnable_untracked s untracked)⟩
    rw [Runs, exec_fallingCommand, fallEnable_passed l s (decodes_of_untracked s untracked)]

end

section
/-! PROOFS. Deliveries to a lane's staging buffers, and data beats (R16, R17, R41 to R44). -/

namespace Sys2Proof.Machine

/-! ### Staging buffers -/

theorem stage_closed (b : Buffer) (d : Delivery) (toggle : Bool) (h : b.closed = true) : b.stage d toggle = b :=
  if_pos h

theorem stage_open (b : Buffer) (d : Delivery) (toggle : Bool) (h : b.closed = false) :
    b.stage d toggle = { bytes := overlayAt b.bytes (d.block % 64) d.bytes
                         closed := decide (d.closingToggle = some (flagByte toggle)) } := by
  simp [Buffer.stage, h]

theorem setLane_self (s : State) (n : Fin 4) : s.setLane n (s.lane n) = s := by
  simp [State.setLane, State.lane]

/-! ### The places a delivery can have (R41, R42, R56) -/

/-- The state in which a delivery has been staged in the lane's expected buffer (R41). -/
def stagedCur (lane : Fin 4) (d : Delivery) (s : State) : State :=
  s.setLane lane { s.lane lane with cur := (s.lane lane).cur.stage d (s.lane lane).toggle }

theorem stagedCur_closed (lane : Fin 4) (d : Delivery) (s : State) (h : (s.lane lane).cur.closed = true) :
    stagedCur lane d s = s := by
  rw [stagedCur, stage_closed _ _ _ h]
  exact setLane_self s lane

theorem stagedCur_open (lane : Fin 4) (d : Delivery) (s : State) (h : (s.lane lane).cur.closed = false) :
    stagedCur lane d s = s.setLane lane
      { s.lane lane with cur := { bytes := overlayAt (s.lane lane).cur.bytes (d.block % 64) d.bytes
                                  closed := decide (d.closingToggle = some (flagByte (s.lane lane).toggle)) } } := by
  rw [stagedCur, stage_open _ _ _ h]

theorem laneDelivery_expected (lane : Fin 4) (d : Delivery) (s : State) :
    laneDelivery lane (s.lane lane).expected d s =
      if s.isRunning && !(s.lane lane).cur.closed then takeHeld lane (stagedCur lane d s) else stagedCur lane d s :=
  if_pos rfl

theorem laneDelivery_next (lane : Fin 4) (d : Delivery) (s : State) :
    laneDelivery lane ((s.lane lane).expected + 1) d s =
      s.setLane lane { s.lane lane with nxt := (s.lane lane).nxt.stage d (s.lane lane).nextToggle } := by
  simp [laneDelivery]

theorem laneDelivery_elsewhere (lane : Fin 4) (ring : Fin 64) (d : Delivery) (s : State)
    (h : ring ≠ (s.lane lane).expected) (h' : ring ≠ (s.lane lane).expected + 1) :
    laneDelivery lane ring d s =
      if d.closingToggle.isSome then s.report .laneSequence d.block d.bank d.row d.col else s := by
  simp [laneDelivery, h, h']

end Sys2Proof.Machine
end

section

open Sys2Proof Sys2Proof.Machine

/-- Settles O17, by the ring slot the delivery names and by what it closes. -/
theorem laneDeliveryRules : Obligations.LaneDeliveryRules := by
  intro s lane ring d
  refine ⟨fun h h' => ?_, ?_, ?_, ?_, ?_, ?_, ?_⟩
  · rw [laneDelivery_elsewhere lane ring d s h h']
    refine ⟨fun silent => by simp [silent], fun closing => ?_⟩
    rw [if_pos (Option.isSome_iff_ne_none.mpr closing)]
    exact ⟨report_lc s _ _ _ _ _, report_reported s _ _ _ _ _⟩
  · rintro rfl closed
    simp [laneDelivery_expected, stagedCur_closed, closed]
  · rintro rfl closed
    rw [laneDelivery_next, stage_closed _ _ _ closed]
    exact setLane_self s lane
  · rintro rfl opened closes rising
    have held : s.isRunning = false := decide_eq_false rising
    simp [laneDelivery_expected, held, stagedCur_open lane d s opened, closes]
  · rintro rfl opened closes running
    have takes : s.isRunning = true := decide_eq_true running
    have staged : (stagedCur lane d s).lane lane = { s.lane lane with
        cur := { bytes := overlayAt (s.lane lane).cur.bytes (d.block % 64) d.bytes, closed := true } } := by
      simp [stagedCur_open lane d s opened, closes]
    have closed : ((stagedCur lane d s).lane lane).cur.closed = true := by rw [staged]
    rw [laneDelivery_expected, takes, opened, Bool.not_false, Bool.and_true, if_pos rfl]
    obtain ⟨-, moved⟩ := (takeHeld_taking lane (stagedCur lane d s)).tookHeld lane (takeHeld_curOpen lane _)
    refine ⟨?_, takeHeld_curOpen lane _, takeHeld_nxtOpen lane _ closed⟩
    simpa [staged] using moved
  · rintro rfl opened short
    have staged : stagedCur lane d s = _ := stagedCur_open lane d s opened
    simp only [short, decide_false] at staged
    have stillOpen : ((stagedCur lane d s).lane lane).cur.closed = false := by simp [staged]
    rw [laneDelivery_expected, takeHeld_open _ _ stillOpen, ite_self, staged]
  · rintro rfl opened
    rw [laneDelivery_next, stage_open _ _ _ opened]

end

section
/-! PROOFS. Data beats: what each is driven on with, what its burst gathers, and what the last one delivers (R14, R16, R17,
R21). -/

namespace Sys2Proof.Machine

/-! ### What a beat is driven on with -/

/-- The beat of a burst as the part drives it on (R16, R17, R21). -/
def Burst.beatOut (b : Burst) (passOnly : Bool) (data : BitVec 32) (mask : BitVec 4) : BeatOut :=
  if passOnly then { dir := b.dir, data := data, mask := mask }
  else { dir := b.dir, data := b.dataOut data, mask := b.maskOut mask }

theorem beatOut_dir (b : Burst) (passOnly : Bool) (data : BitVec 32) (mask : BitVec 4) :
    (b.beatOut passOnly data mask).dir = b.dir := by
  cases passOnly <;> rfl

theorem dataOut_substituted (b : Burst) (data : BitVec 32)
    (h : b.treatment = .fill ∨ b.treatment = .zeros ∨ b.treatment = .reply) :
    b.dataOut data = wordAt b.repl ((b.start + b.passed) % b.len * 4) := by
  rcases h with h | h | h <;> simp only [Burst.dataOut, h] <;> rfl

theorem maskOut_substituted (b : Burst) (mask : BitVec 4)
    (h : b.treatment = .fill ∨ b.treatment = .zeros ∨ b.treatment = .reply) : b.maskOut mask = mask := by
  rcases h with h | h | h <;> simp only [Burst.maskOut, h]

theorem dataOut_mask (b : Burst) (data : BitVec 32) (h : b.treatment = .mask) : b.dataOut data = data := by
  simp only [Burst.dataOut, h]

theorem maskOut_mask (b : Burst) (mask : BitVec 4) (h : b.treatment = .mask) : b.maskOut mask = 15 := by
  simp only [Burst.maskOut, h]

/-- A burst that is passed or staged has its beats driven on as they come (R16, R17). -/
theorem driven_asGiven (b : Burst) (data : BitVec 32) (mask : BitVec 4)
    (h : b.treatment = .pass ∨ b.treatment.staged = true) : b.dataOut data = data ∧ b.maskOut mask = mask := by
  cases kind : b.treatment <;> simp_all [Treatment.staged, Burst.dataOut, Burst.maskOut]

/-! ### What a burst gathers -/

theorem beatBytes_length (data : BitVec 32) (mask : BitVec 4) : (beatBytes data mask).length = 4 := rfl

theorem beatBytes_getElem? (data : BitVec 32) (mask : BitVec 4) (i : Nat) (h : i < 4) :
    (beatBytes data mask)[i]? = some (if mask.getLsbD i then none else some (data.extractLsb' (8 * i) 8)) := by
  obtain rfl | rfl | rfl | rfl : i = 0 ∨ i = 1 ∨ i = 2 ∨ i = 3 := by omega
  all_goals rfl

theorem gather_unstaged (b : Burst) (data : BitVec 32) (mask : BitVec 4) (h : b.treatment.staged = false) :
    b.gather data mask = b.gathered := by
  simp [Burst.gather, h]

/-- The bytes of one beat laid over word `w` of a list of whole words. -/
theorem overlaidWord (old : List (Option Byte)) (w len : Nat) (data : BitVec 32) (mask : BitVec 4)
    (whole : old.length = len * 4) (inside : w < len) :
    (old.take (w * 4) ++ beatBytes data mask ++ old.drop (w * 4 + 4)).length = len * 4
      ∧ ∀ k, k < len * 4 → (old.take (w * 4) ++ beatBytes data mask ++ old.drop (w * 4 + 4))[k]? =
          if k / 4 = w then some (if mask.getLsbD (k % 4) then none else some (data.extractLsb' (8 * (k % 4)) 8))
          else old[k]? := by
  have front : (old.take (w * 4)).length = w * 4 := by rw [List.length_take]; omega
  have word := beatBytes_length data mask
  refine ⟨by simp only [List.length_append, List.length_drop, front, word]; omega, fun k _ => ?_⟩
  rw [List.append_assoc]
  rcases Nat.lt_trichotomy (k / 4) w with before | here | behind
  · rw [List.getElem?_append_left (by omega), List.getElem?_take_of_lt (by omega), if_neg (by omega)]
  · rw [List.getElem?_append_right (by omega), List.getElem?_append_left (by omega), if_pos here, front,
      beatBytes_getElem? _ _ _ (by omega), show k - w * 4 = k % 4 by omega]
  · rw [List.getElem?_append_right (by omega), List.getElem?_append_right (by omega), if_neg (by omega),
      List.getElem?_drop]
    congr 1
    omega

/-- A beat of a staged burst puts its bytes at its place in the wrap order and keeps the others (R12, R17). -/
theorem gather_staged (b : Burst) (data : BitVec 32) (mask : BitVec 4) (staged : b.treatment.staged = true)
    (whole : b.gathered.length = b.len * 4) (positive : 0 < b.len) :
    (b.gather data mask).length = b.len * 4
      ∧ ∀ k, k < b.len * 4 → (b.gather data mask)[k]? =
          if k / 4 = (b.start + b.passed) % b.len then
            some (if mask.getLsbD (k % 4) then none else some (data.extractLsb' (8 * (k % 4)) 8))
          else b.gathered[k]? := by
  have laid := overlaidWord b.gathered ((b.start + b.passed) % b.len) b.len data mask whole (Nat.mod_lt _ positive)
  simpa only [Burst.gather, staged, if_true, beatOffset] using laid

/-! ### The beat of a listed burst -/

theorem trackedBeat_eq (index : Nat) (b : Burst) (data : BitVec 32) (mask : BitVec 4) (s : State) :
    trackedBeat index b data mask s =
      if b.passed + 1 < b.len then
        { s with ct.out.beat := some (b.beatOut (decide (s.ct.channel = .passOnly)) data mask)
                 ct.outstanding :=
                   s.ct.outstanding.set index (b.afterBeat (decide (s.ct.channel = .passOnly)) data mask) }
      else
        deliver (b.afterBeat (decide (s.ct.channel = .passOnly)) data mask)
          (lastBeat (b.beatOut (decide (s.ct.channel = .passOnly)) data mask) index s) := rfl

theorem passBeat_listed (index : Nat) (b : Burst) (data : BitVec 32) (mask : BitVec 4) (s : State)
    (listed : s.ct.outstanding[index]? = some b) : passBeat b.dir index data mask s = trackedBeat index b data mask s := by
  simp only [passBeat, listed, if_true]

theorem passBeat_unlisted (dir : Dir) (index : Nat) (data : BitVec 32) (mask : BitVec 4) (s : State)
    (h : ∀ b, s.ct.outstanding[index]? = some b → b.dir ≠ dir) :
    passBeat dir index data mask s = driveBeat { dir := dir, data := data, mask := mask } s := by
  unfold passBeat
  split
  next b listed => exact if_neg (h b listed)
  next => rfl

theorem deliver_ct (b : Burst) (s : State) : (deliver b s).ct = s.ct := by
  unfold deliver
  repeat' split
  · rfl
  · exact (laneDelivery_keeps _ _ _ s).1
  · exact (ingestDelivery_keeps _ s).1.ct
  all_goals rfl

/-- Whatever its burst, a beat is driven on in its own direction (R1). -/
theorem passBeat_driven (dir : Dir) (index : Nat) (data : BitVec 32) (mask : BitVec 4) (s : State) :
    ∃ out, (passBeat dir index data mask s).ct.out.beat = some out ∧ out.dir = dir := by
  by_cases h : ∃ b, s.ct.outstanding[index]? = some b ∧ b.dir = dir
  · obtain ⟨b, listed, rfl⟩ := h
    refine ⟨_, ?_, beatOut_dir b (decide (s.ct.channel = .passOnly)) data mask⟩
    rw [passBeat_listed index b data mask s listed, trackedBeat_eq]
    split
    · rfl
    · rw [deliver_ct]; rfl
  · push Not at h
    exact ⟨_, by rw [passBeat_unlisted dir index data mask s h]; rfl, rfl⟩

/-! ### The last beat -/

theorem deliver_nothing (b : Burst) (s : State) (h : b.treatment.staged = false ∨ b.spoiled = true) :
    deliver b s = s := by
  unfold deliver
  split
  · rfl
  next whole =>
    have unstaged := h.resolve_right whole
    split <;> simp_all [Treatment.staged]

theorem deliver_lane (b : Burst) (s : State) (lane : Fin 4) (ring : Fin 64) (whole : b.spoiled = false)
    (h : b.treatment = .stageLane lane ring) : deliver b s = laneDelivery lane ring b.delivery s := by
  simp [deliver, whole, h]

theorem deliver_ingest (b : Burst) (s : State) (whole : b.spoiled = false) (h : b.treatment = .stageIngest) :
    deliver b s = ingestDelivery b.delivery s := by
  simp [deliver, whole, h]

/-- The last beat of a burst staged and, before it, unspoiled, outside PASS-ONLY (R17). -/
theorem trackedBeat_whole (index : Nat) (b : Burst) (data : BitVec 32) (mask : BitVec 4) (s : State)
    (last : b.len ≤ b.passed + 1) (live : s.ct.channel ≠ .passOnly) (staged : b.treatment.staged = true) :
    trackedBeat index b data mask s =
      deliver (b.afterBeat false data mask) (lastBeat { dir := b.dir, data := data, mask := mask } index s) := by
  obtain ⟨dataOut, maskOut⟩ := driven_asGiven b data mask (.inr staged)
  rw [trackedBeat_eq, if_neg (by omega), decide_eq_false live, Burst.beatOut, if_neg Bool.false_ne_true, dataOut, maskOut]

end Sys2Proof.Machine
end

section

open Sys2Proof Sys2Proof.Machine

/-- Settles O16, by whether the beat's burst is listed, has beats to come, or ends with it. -/
theorem beatTreatments : Obligations.BeatTreatments := by
  refine ⟨fun s dir index data mask => ?_, fun s index b data mask listed short => ?_, fun s dir index data mask h => ?_,
    fun s index b data mask listed last undelivered => ?_, fun s index b data mask lawful listed last whole live => ?_⟩
  · obtain ⟨out, driven, same⟩ := passBeat_driven dir index data mask s
    exact ⟨_, out, rfl, driven, same⟩
  · have runs : Runs (.dataBeat b.dir index data mask) s _ :=
      congrArg Host.Outcome.next ((passBeat_listed index b data mask s listed).trans
        ((trackedBeat_eq index b data mask s).trans (if_pos short)))
    refine ⟨_, _, _, runs, rfl, beatOut_dir b _ data mask, rfl, fun passOnly => ?_, fun live => ?_⟩
    · simp [passOnly, Burst.beatOut, Burst.afterBeat]
    · rw [decide_eq_false live]
      refine ⟨Bool.or_false _, fun h => ⟨dataOut_substituted b data h, maskOut_substituted b mask h⟩,
        fun h => ⟨dataOut_mask b data h, maskOut_mask b mask h⟩, driven_asGiven b data mask,
        fun staged gathered => gather_staged b data mask staged gathered (by omega), gather_unstaged b data mask⟩
  · exact ⟨_, congrArg Host.Outcome.next (passBeat_unlisted dir index data mask s h), rfl⟩
  · have silent : (b.afterBeat (decide (s.ct.channel = .passOnly)) data mask).treatment.staged = false
        ∨ (b.afterBeat (decide (s.ct.channel = .passOnly)) data mask).spoiled = true :=
      undelivered.imp_right (fun h => by simpa [Burst.afterBeat] using h)
    have runs : Runs (.dataBeat b.dir index data mask) s _ :=
      congrArg Host.Outcome.next ((passBeat_listed index b data mask s listed).trans
        ((trackedBeat_eq index b data mask s).trans ((if_neg (by omega)).trans (deliver_nothing _ _ silent))))
    refine ⟨_, _, runs, rfl, beatOut_dir b _ data mask, fun passOnly => ?_, fun live => ?_⟩
    · simp [passOnly, Burst.beatOut]
    · rw [decide_eq_false live]
      exact ⟨fun h => ⟨dataOut_substituted b data h, maskOut_substituted b mask h⟩,
        fun h => ⟨dataOut_mask b data h, maskOut_mask b mask h⟩, fun h => driven_asGiven b data mask (.inl h)⟩
  · obtain ⟨-, short, -⟩ := lawful.2 b (List.mem_of_getElem? listed)
    have delivered := trackedBeat_whole index b data mask s last live
    rw [← passBeat_listed index b data mask s listed] at delivered
    have unspoiled : (b.afterBeat false data mask).spoiled = false := by simp [Burst.afterBeat, whole]
    refine ⟨lastBeat { dir := b.dir, data := data, mask := mask } index s, b.gather data mask, rfl,
      fun gathered staged => gather_staged b data mask staged gathered (by omega), fun lane ring h => ?_, fun h => ?_⟩
    · exact congrArg Host.Outcome.next
        ((delivered (by rw [h]; rfl)).trans (deliver_lane _ _ lane ring unspoiled h))
    · exact congrArg Host.Outcome.next ((delivered (by rw [h]; rfl)).trans (deliver_ingest _ _ unspoiled h))

end

section
/-! PROOFS. What each part of the load makes of the state, record by record (R189 step 3, R191, R192). -/

namespace Sys2Proof.Machine

/-! ### Marks and causes only accumulate while records load -/

/-- Between `s` and `t` no dirty mark, no cause and no FAULT-SEEN was cleared. -/
structure MarksGrow (s t : State) : Prop where
  dirty : ∀ r, s.isDirty r = true → t.isDirty r = true
  status : ∀ b, s.au.status &&& b = b → t.au.status &&& b = b
  fault : s.sc.faultSeen = true → t.sc.faultSeen = true

theorem MarksGrow.refl (s : State) : MarksGrow s s := ⟨fun _ => id, fun _ => id, id⟩

theorem MarksGrow.trans {s t u : State} (a : MarksGrow s t) (b : MarksGrow t u) : MarksGrow s u :=
  ⟨fun r h => b.dirty r (a.dirty r h), fun x h => b.status x (a.status x h), fun h => b.fault (a.fault h)⟩

theorem marksGrow_of_same {s t : State} (dirty : t.sc.dirty = s.sc.dirty) (au : t.au = s.au)
    (fault : t.sc.faultSeen = s.sc.faultSeen) : MarksGrow s t :=
  ⟨fun r h => by rwa [State.isDirty, dirty], fun b h => by rwa [au], fun h => by rwa [fault]⟩

theorem marksGrow_markDirty (s : State) (r : RecordId) : MarksGrow s (s.markDirty r) := by
  refine ⟨fun q h => ?_, fun _ => id, id⟩
  have read := putAt_read s.sc.dirty r.place q.place true
  simp only [State.isDirty, State.markDirty] at h ⊢
  rw [read, h, ite_self]

theorem and_or_of_and {n : Nat} (x y b : BitVec n) (h : x &&& b = b) : (x ||| y) &&& b = b := by
  ext i inside
  have bit : (x &&& b)[i] = b[i] := by rw [h]
  simp only [BitVec.getElem_and, BitVec.getElem_or] at bit ⊢
  rw [Bool.and_or_distrib_right, bit, Bool.or_eq_left_iff_imp]
  exact fun both => ((Bool.and_eq_true _ _).mp both).2

theorem raised_bit {n : Nat} (x b : BitVec n) : (x ||| b) &&& b = b := by
  ext i inside
  simp only [BitVec.getElem_and, BitVec.getElem_or]
  cases b[i] <;> simp

theorem marksGrow_raise (s : State) (c : Cause) : MarksGrow s (s.raise c) :=
  ⟨fun _ => id, fun b h => and_or_of_and _ _ b h, id⟩

theorem marksGrow_failCheck (r : RecordId) (s : State) : MarksGrow s (failCheck r s) :=
  ((marksGrow_markDirty s r).trans (marksGrow_raise _ .store)).trans ⟨fun _ => id, fun _ => id, fun _ => rfl⟩

/-- What a record that failed its check leaves behind: its dirty mark, FAULT-SEEN and STORE (R191). -/
structure Faulted (t : State) (r : RecordId) : Prop where
  dirty : t.isDirty r = true
  fault : t.sc.faultSeen = true
  status : t.au.status &&& Cause.store.bit = Cause.store.bit

theorem Faulted.grow {s t : State} {r : RecordId} (h : Faulted s r) (g : MarksGrow s t) : Faulted t r :=
  ⟨g.dirty r h.dirty, g.fault h.fault, g.status _ h.status⟩

theorem failCheck_faulted (r : RecordId) (s : State) : Faulted (failCheck r s) r :=
  ⟨isDirty_markDirty_same s r, rfl, raised_bit _ _⟩

/-! ### The PIN record (R100, R102) -/

theorem restartLockout_pss (s : State) :
    (restartLockout s).pss.pin = s.pss.pin ∧ (restartLockout s).pss.failures = s.pss.failures
      ∧ (restartLockout s).pss.lockout = (if 5 ≤ s.pss.failures then some (lockoutSeconds s.pss.failures) else s.pss.lockout)
      ∧ (restartLockout s).lc = s.lc := by
  unfold restartLockout
  split <;> exact ⟨rfl, rfl, rfl, rfl⟩

theorem marksGrow_pss (s : State) (p : PSS) : MarksGrow s { s with pss := p } := marksGrow_of_same rfl rfl rfl

theorem loadPin_lc (s : State) : (loadPin s).lc = s.lc := by
  simp only [loadPin]
  split
  · exact (restartLockout_pss _).2.2.2
  · rfl

theorem loadPin_sound (s : State) (whole : s.sc.store.pin.complete = true)
    (fits : s.sc.store.pin.content.inRange = true) :
    (loadPin s).pss.pin = s.sc.store.pin.content.pin ∧ (loadPin s).pss.failures = s.sc.store.pin.content.failures
      ∧ (loadPin s).pss.lockout = (if 5 ≤ s.sc.store.pin.content.failures then
          some (lockoutSeconds s.sc.store.pin.content.failures) else s.pss.lockout) := by
  simp only [loadPin, whole, fits, Bool.and_self, if_true]
  obtain ⟨pin, failures, lockout, -⟩ := restartLockout_pss
    { s with pss.pin := s.sc.store.pin.content.pin, pss.failures := s.sc.store.pin.content.failures }
  exact ⟨pin, failures, lockout⟩

theorem loadPin_failed (s : State)
    (h : s.sc.store.pin.complete = false ∨ s.sc.store.pin.content.inRange = false) :
    (loadPin s).pss.pin = .unknown ∧ (loadPin s).pss.failures = 0 ∧ (loadPin s).pss.lockout = s.pss.lockout
      ∧ Faulted (loadPin s) .pin := by
  have unsound := (Bool.and_eq_false_iff).mpr h
  simp only [loadPin, unsound, Bool.false_eq_true, if_false]
  exact ⟨rfl, rfl, rfl, failCheck_faulted _ _⟩

/-! ### The lane record (R45) -/

theorem classes_setClasses (s : State) (n m : Fin 4) (set : BitVec 7) :
    ((s.setClasses n set).lane m).classes = if m = n then set else (s.lane m).classes := by
  unfold State.setClasses
  by_cases h : m = n
  · subst h; simp
  · simp [lane_setLane_other s n m _ h, h]

theorem marksGrow_setClasses (s : State) (n : Fin 4) (set : BitVec 7) : MarksGrow s (s.setClasses n set) :=
  marksGrow_of_same rfl rfl rfl

theorem marksGrow_loadLanes (s : State) : MarksGrow s (loadLanes s) := by
  have classes : ∀ a b c, MarksGrow s (((s.setClasses 1 a).setClasses 2 b).setClasses 3 c) := fun a b c =>
    ((marksGrow_setClasses s 1 a).trans (marksGrow_setClasses _ 2 b)).trans (marksGrow_setClasses _ 3 c)
  simp only [loadLanes]
  split
  · exact classes _ _ _
  · exact (classes _ _ _).trans (marksGrow_failCheck _ _)

theorem loadLanes_pss (s : State) : (loadLanes s).pss = s.pss := by
  simp only [loadLanes]
  split <;> rfl

theorem loadLanes_zero (s : State) : ((loadLanes s).lane 0).classes = (s.lane 0).classes := by
  have kept : ∀ a b c, ((((s.setClasses 1 a).setClasses 2 b).setClasses 3 c).lane 0).classes = (s.lane 0).classes :=
    fun a b c => by simp [classes_setClasses]
  simp only [loadLanes]
  split
  · exact kept _ _ _
  · exact kept _ _ _

theorem loadLanes_whole (s : State) (whole : s.sc.store.lane.complete = true) :
    ((loadLanes s).lane 1).classes = s.sc.store.lane.content[0]
      ∧ ((loadLanes s).lane 2).classes = s.sc.store.lane.content[1]
      ∧ ((loadLanes s).lane 3).classes = s.sc.store.lane.content[2] := by
  simp [loadLanes, whole, classes_setClasses]

theorem loadLanes_failed (s : State) (h : s.sc.store.lane.complete = false) :
    (∀ n : Fin 4, n ≠ 0 → ((loadLanes s).lane n).classes = defaultClasses[n]) ∧ Faulted (loadLanes s) .lane := by
  simp only [loadLanes, h, Bool.false_eq_true, if_false]
  refine ⟨fun n positive => ?_, failCheck_faulted _ _⟩
  refine (?_ : (State.lane (((s.setClasses 1 _).setClasses 2 _).setClasses 3 _) n).classes = _)
  obtain rfl | rfl | rfl : n = 1 ∨ n = 2 ∨ n = 3 := by omega
  all_goals simp [classes_setClasses]

/-! ### Loading child by child -/

theorem mem_childList : ∀ c, c ∈ childList := by decide

/-- What the application for child `c` brings about, and no other application undoes, the fold brings about. -/
theorem forChildren_each {I Q : State → Prop} (f : Fin 7 → State → State) (c : Fin 7) (keep : ∀ d t, I t → I (f d t))
    (make : ∀ t, I t → Q (f c t)) (stay : ∀ d t, d ≠ c → I t → Q t → Q (f d t)) (s : State) (hs : I s) :
    Q (forChildren f s) := by
  have holds : ∀ (l : List (Fin 7)) (t : State), I t → (Q t ∨ c ∈ l) → Q (l.foldl (fun u d => f d u) t) := by
    intro l
    induction l with
    | nil => exact fun t _ h => h.resolve_right (List.not_mem_nil)
    | cons d rest ih =>
      refine fun t ht h => ih (f d t) (keep d t ht) ?_
      by_cases same : d = c
      · exact .inl (same ▸ make t ht)
      · exact h.imp (stay d t same ht) (fun h => (List.mem_cons.mp h).resolve_left (Ne.symm same))
  exact holds childList s hs (.inr (mem_childList c))

/-! ### The profile records -/

/-- Loading a profile record changes that profile, and otherwise marks and causes alone. -/
theorem loadProfile_only (c : Fin 7) (s : State) :
    (loadProfile c s).lc = s.lc ∧ (loadProfile c s).pss = { s.pss with profiles := (loadProfile c s).pss.profiles }
      ∧ ∀ d, d ≠ c → (loadProfile c s).child d = s.child d := by
  have other : ∀ p d, d ≠ c → (s.setChild c p).child d = s.child d := fun p d h => putAt_other _ _ _ _ h
  simp only [loadProfile]
  split
  · exact ⟨rfl, rfl, other _⟩
  · exact ⟨rfl, rfl, other _⟩

theorem marksGrow_setChild (s : State) (c : Fin 7) (p : Profile) : MarksGrow s (s.setChild c p) :=
  marksGrow_of_same rfl rfl rfl

theorem marksGrow_loadProfile (c : Fin 7) (s : State) : MarksGrow s (loadProfile c s) := by
  simp only [loadProfile]
  split
  · exact marksGrow_setChild s c _
  · exact (marksGrow_setChild s c _).trans (marksGrow_failCheck _ _)

theorem marksGrow_forChildren (f : Fin 7 → State → State) (h : ∀ c s, MarksGrow s (f c s)) (s : State) :
    MarksGrow s (forChildren f s) :=
  forChildren_induct (P := MarksGrow s) f (fun c t ht => ht.trans (h c t)) s (.refl s)

theorem loadProfiles_only (s : State) :
    (forChildren loadProfile s).lc = s.lc
      ∧ (forChildren loadProfile s).pss = { s.pss with profiles := (forChildren loadProfile s).pss.profiles } := by
  refine forChildren_induct (P := fun t => t.lc = s.lc ∧ t.pss = { s.pss with profiles := t.pss.profiles }) loadProfile
    (fun c t ⟨lc, pss⟩ => ?_) s ⟨rfl, rfl⟩
  obtain ⟨lc', pss', -⟩ := loadProfile_only c t
  exact ⟨lc'.trans lc, by rw [pss', pss]⟩

theorem loadProfiles_sound (c : Fin 7) (s : State) (whole : s.sc.store.profiles[c].complete = true)
    (fits : s.sc.store.profiles[c].content.inRange = true) :
    (forChildren loadProfile s).child c = s.sc.store.profiles[c].content := by
  refine forChildren_each (I := fun t => t.sc.store = s.sc.store)
    (Q := fun t => t.child c = s.sc.store.profiles[c].content) loadProfile c (fun d t h => ?_) (fun t h => ?_)
    (fun d t other _ q => ?_) s rfl
  · exact (loadKept_loadProfile d t).store.trans h
  · simp only [loadProfile, h, whole, fits, Bool.and_self, if_true]
    exact child_setChild_same t c _
  · exact ((loadProfile_only d t).2.2 c other.symm).trans q

theorem loadProfiles_failed (c : Fin 7) (s : State)
    (bad : s.sc.store.profiles[c].complete = false ∨ s.sc.store.profiles[c].content.inRange = false) :
    (forChildren loadProfile s).child c = .failSafe ∧ Faulted (forChildren loadProfile s) (.profile c) := by
  have unsound := (Bool.and_eq_false_iff).mpr bad
  refine forChildren_each (I := fun t => t.sc.store = s.sc.store)
    (Q := fun t => t.child c = .failSafe ∧ Faulted t (.profile c)) loadProfile c (fun d t h => ?_) (fun t h => ?_)
    (fun d t other _ q => ?_) s rfl
  · exact (loadKept_loadProfile d t).store.trans h
  · simp only [loadProfile, h, unsound, Bool.false_eq_true, if_false]
    exact ⟨child_setChild_same t c _, failCheck_faulted _ _⟩
  · exact ⟨((loadProfile_only d t).2.2 c other.symm).trans q.1, q.2.grow (marksGrow_loadProfile d t)⟩

/-! ### The service table (R92 to R94) -/

theorem goodRatings_iff (rs : List Rating) :
    goodRatings rs = true ↔ rs.length ≤ 2 ∧ rs.Pairwise (fun a b => a.scheme < b.scheme) ∧ ∀ r ∈ rs, r.value < 15 := by
  match rs with
  | [] => simp [goodRatings]
  | [a] => simp [goodRatings]
  | [a, b] => simp [goodRatings, and_comm]
  | _ :: _ :: _ :: _ => simp [goodRatings]

theorem serviceEntry_inRange_iff (e : ServiceEntry) :
    e.inRange = true ↔ e.service ≤ 65535 ∧ e.ratings.length ≤ 2 ∧ e.ratings.Pairwise (fun a b => a.scheme < b.scheme)
      ∧ (∀ r ∈ e.ratings, r.value < 15) ∧ inSet e.allow 0 = false ∧ inSet e.block 0 = false ∧ e.allow &&& e.block = 0 := by
  simp only [ServiceEntry.inRange, Bool.and_eq_true, decide_eq_true_eq, goodRatings_iff, Bool.not_eq_true', inSet, and_assoc]

theorem risingServices_iff (t : List ServiceEntry) :
    risingServices t = true ↔ t.Pairwise fun e f => e.service < f.service := by
  induction t with
  | nil => simp [risingServices]
  | cons a rest ih =>
    cases rest with
    | nil => simp [risingServices]
    | cons b es =>
      rw [risingServices, Bool.and_eq_true, decide_eq_true_eq, ih, List.pairwise_cons (a := a)]
      refine and_congr_left fun rising => ⟨fun first e member => ?_, fun h => h b List.mem_cons_self⟩
      rcases List.mem_cons.mp member with rfl | later
      · exact first
      · exact first.trans (List.rel_of_pairwise_cons rising later)

theorem goodServices_iff (t : List ServiceEntry) : goodServices t = true ↔ ServicesLawful t := by
  simp only [goodServices, Bool.and_eq_true, decide_eq_true_eq, risingServices_iff, List.all_eq_true,
    serviceEntry_inRange_iff, ServicesLawful]
  tauto

theorem loadServices_only (s : State) :
    (loadServices s).lc = s.lc ∧ (loadServices s).pss = { s.pss with services := (loadServices s).pss.services } := by
  simp only [loadServices]
  split <;> exact ⟨rfl, rfl⟩

theorem marksGrow_loadServices (s : State) : MarksGrow s (loadServices s) := by
  simp only [loadServices]
  split
  · exact marksGrow_of_same rfl rfl rfl
  · exact (marksGrow_pss s _).trans (marksGrow_failCheck _ _)

theorem loadServices_sound (s : State) (whole : s.sc.store.services.complete = true)
    (lawful : ServicesLawful s.sc.store.services.content) :
    (loadServices s).pss.services = s.sc.store.services.content := by
  simp only [loadServices, whole, (goodServices_iff _).mpr lawful, Bool.and_self, if_true]

theorem loadServices_failed (s : State)
    (bad : s.sc.store.services.complete = false ∨ ¬ ServicesLawful s.sc.store.services.content) :
    (loadServices s).pss.services = [] ∧ Faulted (loadServices s) .services := by
  have unsound : (s.sc.store.services.complete && goodServices s.sc.store.services.content) = false :=
    Bool.and_eq_false_iff.mpr (bad.imp_right fun h => Bool.eq_false_iff.mpr (mt (goodServices_iff _).mp h))
  simp only [loadServices, unsound, Bool.false_eq_true, if_false]
  exact ⟨rfl, failCheck_faulted _ _⟩

/-! ### The settings record (R105, R191) -/

theorem profileValid_of_pss {s t : State} (h : t.pss = s.pss) (p : Fin 8) : t.profileValid p = s.profileValid p := by
  simp only [State.profileValid, child_of_pss s t h]

theorem lowestValid_of_pss {s t : State} (h : t.pss = s.pss) : lowestValid t = lowestValid s := by
  simp only [lowestValid, child_of_pss s t h]

theorem soundDefaults_read (s : State) (d : Vector (Fin 8) 4) (i : Fin 4) :
    (soundDefaults s d)[i] = if s.profileValid d[i] then d[i] else lowestValid s := by
  simp [soundDefaults]

theorem loadSettings_only (s : State) : (loadSettings s).lc = s.lc ∧ (loadSettings s).pss = s.pss := by
  simp only [loadSettings]
  split
  · split <;> exact ⟨rfl, rfl⟩
  · exact ⟨rfl, rfl⟩

theorem marksGrow_settings (s : State) (x : Settings) : MarksGrow s { s with sc.settings := x } :=
  marksGrow_of_same rfl rfl rfl

theorem marksGrow_loadSettings (s : State) : MarksGrow s (loadSettings s) := by
  simp only [loadSettings]
  split
  · split
    · exact marksGrow_settings s _
    · exact (marksGrow_settings s _).trans (marksGrow_markDirty _ _)
  · exact (marksGrow_settings s _).trans (marksGrow_failCheck _ _)

theorem loadSettings_sound (s : State) (whole : s.sc.store.settings.complete = true)
    (fits : s.sc.store.settings.content.inRange = true) :
    (loadSettings s).sc.settings =
        { s.sc.store.settings.content with defaults := soundDefaults s s.sc.store.settings.content.defaults }
      ∧ ((loadSettings s).sc.settings ≠ s.sc.store.settings.content → (loadSettings s).isDirty .settings = true) := by
  simp only [loadSettings, whole, fits, Bool.and_self, if_true]
  split
  next same => exact ⟨rfl, fun changed => absurd (by rw [same]) changed⟩
  next => exact ⟨rfl, fun _ => isDirty_markDirty_same _ _⟩

theorem loadSettings_failed (s : State)
    (bad : s.sc.store.settings.complete = false ∨ s.sc.store.settings.content.inRange = false) :
    (loadSettings s).sc.settings = { Settings.factory with defaults := Vector.replicate 4 (lowestValid s) }
      ∧ Faulted (loadSettings s) .settings := by
  have unsound := (Bool.and_eq_false_iff).mpr bad
  simp only [loadSettings, unsound, Bool.false_eq_true, if_false]
  exact ⟨rfl, failCheck_faulted _ _⟩

/-- Each slot default after the load stands as it is or is the lowest valid profile, and is the latter where the profile it
names is INVALID (R105, R191). -/
theorem loadSettings_defaults (s : State) (i : Fin 4) :
    (if s.profileValid (loadSettings s).sc.settings.defaults[i] then (loadSettings s).sc.settings.defaults[i]
      else lowestValid s) = (loadSettings s).sc.settings.defaults[i] := by
  by_cases sound : s.sc.store.settings.complete = true ∧ s.sc.store.settings.content.inRange = true
  · rw [(loadSettings_sound s sound.1 sound.2).1]
    simp only [soundDefaults_read]
    cases valid : s.profileValid s.sc.store.settings.content.defaults[i] with
    | false => simp only [Bool.false_eq_true, if_false, ite_self]
    | true => simp only [if_true, valid]
  · have bad : s.sc.store.settings.complete = false ∨ s.sc.store.settings.content.inRange = false := by
      simpa only [not_and_or, Bool.not_eq_true] using sound
    rw [(loadSettings_failed s bad).1]
    simp

end Sys2Proof.Machine
end

section
/-! PROOFS. The usage records with the accounting day, and the end of the load: slots, CLOCK, and the commit that the marks
start (R105, R189, R191, R192). -/

namespace Sys2Proof.Machine

/-! ### A sound usage record (R133, R191, R192) -/

theorem loadedUsage_eq (p : Profile) (u : Usage) :
    loadedUsage p u = { u.withoutUptimeEnd with carry := min u.carry (p.carryCap * 60) } := by
  obtain ⟨today, acc, week, carry, bonus, weekBonus, ext, extUsed, warned, exhausted⟩ := u
  match ext with
  | none => rfl
  | some { key := _, expiry := .wall _ } => rfl
  | some { key := _, expiry := .uptime _ } => rfl

/-- The record as taken, its carry brought within the cap (R133, R191). -/
theorem withinCap_eq (p : Profile) (u : Usage) :
    (if p.carryCap * 60 < u.carry then { u.withoutUptimeEnd with carry := p.carryCap * 60 } else u.withoutUptimeEnd)
      = loadedUsage p u := by
  rw [loadedUsage_eq]
  split
  next above => rw [Nat.min_eq_right (Nat.le_of_lt above)]
  next within => rw [Nat.min_eq_left (Nat.le_of_not_lt within)]; rfl

theorem soundUsage_dayless (p : Profile) (weekend : BitVec 7) (loaded : Option Acct) (u : Usage) :
    soundUsage p weekend none loaded u = (loadedUsage p u, true) := by
  rw [← withinCap_eq]
  rfl

theorem soundUsage_dated (p : Profile) (weekend : BitVec 7) (a b : Acct) (u : Usage) :
    soundUsage p weekend (some a) (some b) u =
      if a.day < b.day then (caughtUp p weekend a b (loadedUsage p u), true)
      else (loadedUsage p u, decide (p.carryCap * 60 < u.carry)) := by
  rw [← withinCap_eq]
  rfl

/-- A record rolled forward keeps, of what it held, a carry from its last day and, within its week, the weekly figures
(R149, R150, R192). -/
theorem caughtUp_loaded (p : Profile) (weekend : BitVec 7) (a b : Acct) (u : Usage) :
    caughtUp p weekend a b (loadedUsage p u) =
      { Usage.zero with
        carry := if b.day = a.day + 1 ∧ p.allowance (weekendDay weekend a.day) ≠ 1440 then
            min (p.carryCap * 60) (p.allowance (weekendDay weekend a.day) * 60 - u.today) else 0
        week := if a.week < b.week then 0 else u.week
        weekBonus := if a.week < b.week then 0 else u.weekBonus } := by
  have adjacent : (((b.day == a.day + 1) && decide (p.allowance (weekendDay weekend a.day) ≠ 1440)) = true)
      = (b.day = a.day + 1 ∧ p.allowance (weekendDay weekend a.day) ≠ 1440) := by simp
  simp only [caughtUp, rolledUsage, loadedUsage, adjacent]
  by_cases behind : a.week < b.week
  · simp only [behind, if_true]; rfl
  · simp only [behind, if_false]; rfl

/-! ### The usage records (R132, R191, R192) -/

/-- Loading usage records reaches VTU's records, the marks and the causes alone. -/
structure OnlyUsage (s t : State) : Prop where
  lc : t.lc = s.lc
  pss : t.pss = s.pss
  settings : t.sc.settings = s.sc.settings
  store : t.sc.store = s.sc.store
  marks : MarksGrow s t

theorem OnlyUsage.refl (s : State) : OnlyUsage s s := ⟨rfl, rfl, rfl, rfl, .refl s⟩

theorem OnlyUsage.trans {s t u : State} (a : OnlyUsage s t) (b : OnlyUsage t u) : OnlyUsage s u :=
  ⟨b.lc.trans a.lc, b.pss.trans a.pss, b.settings.trans a.settings, b.store.trans a.store, a.marks.trans b.marks⟩

theorem onlyUsage_putUsage (s : State) (c : Fin 7) (u : Usage) : OnlyUsage s (s.putUsage c u) :=
  ⟨rfl, rfl, rfl, rfl, marksGrow_of_same rfl rfl rfl⟩

theorem onlyUsage_markDirty (s : State) (r : RecordId) : OnlyUsage s (s.markDirty r) :=
  ⟨rfl, rfl, rfl, rfl, marksGrow_markDirty s r⟩

theorem onlyUsage_failCheck (r : RecordId) (s : State) : OnlyUsage s (failCheck r s) :=
  ⟨rfl, rfl, rfl, rfl, marksGrow_failCheck r s⟩

theorem onlyUsage_setAcct (s : State) (a : Option Acct) : OnlyUsage s { s with vtu.acct := a } :=
  ⟨rfl, rfl, rfl, rfl, marksGrow_of_same rfl rfl rfl⟩

theorem onlyUsage_loadUsage (acct : Option Acct) (c : Fin 7) (s : State) : OnlyUsage s (loadUsage acct c s) := by
  simp only [loadUsage]
  split
  · split
    · exact (onlyUsage_putUsage s c _).trans (onlyUsage_markDirty _ _)
    · exact onlyUsage_putUsage s c _
  · exact (onlyUsage_putUsage s c _).trans (onlyUsage_failCheck _ _)

theorem onlyUsage_loadUsages (s : State) : OnlyUsage s (loadUsages s) :=
  (forChildren_induct (P := OnlyUsage s) _ (fun c _ ht => ht.trans (onlyUsage_loadUsage (loadedAcct s) c _)) s
    (.refl s)).trans (onlyUsage_setAcct _ _)

/-- A sound record of child `c` as taken, with whether it is marked dirty (R191, R192). -/
def soundRecord (s : State) (acct : Option Acct) (c : Fin 7) : Usage × Bool :=
  soundUsage (s.child c) s.sc.settings.weekend s.sc.store.usage[c].content.acct acct s.sc.store.usage[c].content.usage

/-- What is taken for child `c`'s usage record (R132, R191, R192). -/
def usageTaken (s : State) (acct : Option Acct) (c : Fin 7) : Usage :=
  if (s.child c).valid then if usageSound s c then (soundRecord s acct c).1 else .failSafe else .zero

theorem usage_putUsage_same (s : State) (c : Fin 7) (u : Usage) : (s.putUsage c u).usage c = u := by
  simp [State.usage, State.putUsage]

theorem usage_putUsage_other (s : State) (c d : Fin 7) (u : Usage) (h : d ≠ c) :
    (s.putUsage c u).usage d = s.usage d := putAt_other _ _ _ _ h

theorem loadUsage_usage (acct : Option Acct) (c : Fin 7) (s : State) :
    (loadUsage acct c s).usage c = usageTaken s acct c := by
  simp only [loadUsage, usageTaken]
  cases sound : usageSound s c with
  | false =>
    simp only [Bool.false_eq_true, if_false]
    exact usage_putUsage_same s c _
  | true =>
    simp only [if_true]
    split <;> exact usage_putUsage_same s c _

theorem loadUsage_usage_other (acct : Option Acct) (c d : Fin 7) (s : State) (h : d ≠ c) :
    (loadUsage acct c s).usage d = s.usage d := by
  simp only [loadUsage]
  split
  · split <;> exact usage_putUsage_other s c d _ h
  · exact usage_putUsage_other s c d _ h

theorem loadUsage_dirty (acct : Option Acct) (c : Fin 7) (s : State)
    (h : usageSound s c = true → (soundRecord s acct c).2 = true) : (loadUsage acct c s).isDirty (.usage c) = true := by
  cases sound : usageSound s c with
  | false =>
    simp only [loadUsage, sound, Bool.false_eq_true, if_false]
    exact (failCheck_faulted _ _).dirty
  | true =>
    have marked := h sound
    simp only [soundRecord] at marked
    simp only [loadUsage, sound, marked, Bool.true_or, if_true]
    exact isDirty_markDirty_same _ _

theorem OnlyUsage.usageSound {s t : State} (h : OnlyUsage s t) (c : Fin 7) : usageSound t c = usageSound s c := by
  simp only [Machine.usageSound, h.store]

theorem OnlyUsage.soundRecord {s t : State} (h : OnlyUsage s t) (acct : Option Acct) (c : Fin 7) :
    soundRecord t acct c = soundRecord s acct c := by
  simp only [Machine.soundRecord, child_of_pss s t h.pss, h.settings, h.store]

theorem OnlyUsage.usageTaken {s t : State} (h : OnlyUsage s t) (acct : Option Acct) (c : Fin 7) :
    usageTaken t acct c = usageTaken s acct c := by
  simp only [Machine.usageTaken, child_of_pss s t h.pss, h.usageSound, h.soundRecord]

theorem setAcct_usage (s : State) (a : Option Acct) (c : Fin 7) : State.usage { s with vtu.acct := a } c = s.usage c := rfl

theorem setAcct_isDirty (s : State) (a : Option Acct) (r : RecordId) :
    State.isDirty { s with vtu.acct := a } r = s.isDirty r := rfl

theorem loadUsages_usage (c : Fin 7) (s : State) : (loadUsages s).usage c = usageTaken s (loadedAcct s) c := by
  rw [loadUsages, setAcct_usage]
  exact forChildren_each (I := OnlyUsage s) (Q := fun t => t.usage c = usageTaken s (loadedAcct s) c) (loadUsage (loadedAcct s)) c
    (fun d t h => h.trans (onlyUsage_loadUsage _ d t))
    (fun t h => (loadUsage_usage _ c t).trans (h.usageTaken _ c))
    (fun d t other _ q => (loadUsage_usage_other _ d c t other.symm).trans q) s (.refl s)

theorem loadUsages_dirty (c : Fin 7) (s : State)
    (h : usageSound s c = true → (soundRecord s (loadedAcct s) c).2 = true) :
    (loadUsages s).isDirty (.usage c) = true := by
  rw [loadUsages, setAcct_isDirty]
  exact forChildren_each (I := OnlyUsage s) (Q := fun t => t.isDirty (.usage c) = true) (loadUsage (loadedAcct s)) c
    (fun d t h => h.trans (onlyUsage_loadUsage _ d t))
    (fun t kept => loadUsage_dirty _ c t (by rw [kept.usageSound, kept.soundRecord]; exact h))
    (fun d t _ _ q => (onlyUsage_loadUsage _ d t).marks.dirty _ q) s (.refl s)

theorem loadUsages_acct (s : State) : (loadUsages s).vtu.acct = loadedAcct s := rfl

/-! ### The accounting day and week (R192) -/

theorem usageSound_iff (s : State) (c : Fin 7) : usageSound s c = true ↔ SoundUsage s.sc.store c := by
  simp only [usageSound, SoundUsage, Bool.and_eq_true]

theorem storedDay_iff (s : State) (c : Fin 7) (a : Acct) : storedDay s c = some a ↔ SoundDay s.sc.store c a := by
  simp only [storedDay, SoundDay, ← usageSound_iff]
  cases usageSound s c <;> simp

/-- The later day and the later week of two records (R192). -/
def Acct.latest (x y : Acct) : Acct := { day := max x.day y.day, week := max x.week y.week }

/-- The latest of a list stands at no less than each member, and its day and its week are each some member's. -/
theorem latest_spec (as : List Acct) (a : Acct) :
    (∀ x ∈ a :: as, x.day ≤ (as.foldl Acct.latest a).day ∧ x.week ≤ (as.foldl Acct.latest a).week)
      ∧ (∃ x ∈ a :: as, x.day = (as.foldl Acct.latest a).day) ∧ ∃ x ∈ a :: as, x.week = (as.foldl Acct.latest a).week := by
  induction as generalizing a with
  | nil => exact ⟨by simp, ⟨a, by simp⟩, ⟨a, by simp⟩⟩
  | cons b bs ih =>
    obtain ⟨bounds, ⟨x, hx, day⟩, ⟨y, hy, week⟩⟩ := ih (a.latest b)
    rw [List.foldl_cons]
    generalize bs.foldl Acct.latest (a.latest b) = m at bounds day week
    obtain ⟨dayBound, weekBound⟩ := bounds _ List.mem_cons_self
    refine ⟨fun z hz => ?_, ?_, ?_⟩
    · obtain ⟨dayA, dayB⟩ := Nat.max_le.mp dayBound
      obtain ⟨weekA, weekB⟩ := Nat.max_le.mp weekBound
      rcases List.mem_cons.mp hz with rfl | hz
      · exact ⟨dayA, weekA⟩
      · rcases List.mem_cons.mp hz with rfl | hz
        · exact ⟨dayB, weekB⟩
        · exact bounds z (List.mem_cons_of_mem _ hz)
    · rcases List.mem_cons.mp hx with rfl | hx
      · rcases max_choice a.day b.day with h | h
        · exact ⟨a, by simp, h.symm.trans day⟩
        · exact ⟨b, by simp, h.symm.trans day⟩
      · exact ⟨x, by simp [hx], day⟩
    · rcases List.mem_cons.mp hy with rfl | hy
      · rcases max_choice a.week b.week with h | h
        · exact ⟨a, by simp, h.symm.trans week⟩
        · exact ⟨b, by simp, h.symm.trans week⟩
      · exact ⟨y, by simp [hy], week⟩

theorem mem_storedDays (s : State) (a : Acct) :
    a ∈ childList.filterMap (storedDay s) ↔ ∃ c, SoundDay s.sc.store c a := by
  simp only [List.mem_filterMap, storedDay_iff, mem_childList, true_and]

theorem loadedAcct_bounds (s : State) (c : Fin 7) (a : Acct) (h : SoundDay s.sc.store c a) :
    ∃ b, loadedAcct s = some b ∧ a.day ≤ b.day ∧ a.week ≤ b.week := by
  have member := (mem_storedDays s a).mpr ⟨c, h⟩
  unfold loadedAcct
  cases days : childList.filterMap (storedDay s) with
  | nil => simp [days] at member
  | cons d ds => exact ⟨_, rfl, (latest_spec ds d).1 a (days ▸ member)⟩

theorem loadedAcct_attained (s : State) (b : Acct) (h : loadedAcct s = some b) :
    (∃ c a, SoundDay s.sc.store c a ∧ a.day = b.day) ∧ ∃ c a, SoundDay s.sc.store c a ∧ a.week = b.week := by
  have stored := mem_storedDays s
  unfold loadedAcct at h
  cases days : childList.filterMap (storedDay s) with
  | nil => simp [days] at h
  | cons d ds =>
    rw [days] at h stored
    obtain rfl := Option.some.inj h
    obtain ⟨-, ⟨x, hx, day⟩, ⟨y, hy, week⟩⟩ := latest_spec ds d
    obtain ⟨c, hc⟩ := (stored x).mp hx
    obtain ⟨e, he⟩ := (stored y).mp hy
    exact ⟨⟨c, x, hc, day⟩, e, y, he, week⟩

/-! ### The commit that marks start (R183, R186) -/

theorem storeOrder_place (r : RecordId) : storeOrder[r.place.val]? = some r := by
  cases r with
  | profile c => revert c; decide
  | usage c => revert c; decide
  | _ => rfl

theorem place_injective {r q : RecordId} (h : r.place = q.place) : r = q :=
  Option.some.inj ((storeOrder_place r).symm.trans ((congrArg (fun p : Fin 18 => storeOrder[p.val]?) h).trans
    (storeOrder_place q)))

theorem imageOf_record (s : State) (r : RecordId) : (s.imageOf r).record = r := by
  cases r <;> rfl

theorem beginWrite_isDirty_other (s : State) (r q : RecordId) (h : q ≠ r) : (beginWrite r s).isDirty q = s.isDirty q := by
  have kept : (putAt s.sc.dirty r.place false)[q.place] = s.sc.dirty[q.place] :=
    putAt_other _ _ _ _ (fun same => h (place_injective same))
  cases r <;> exact kept

/-- With no commit running, one starts with the first dirty record (R186). -/
theorem startCommit_begins (s : State) (r : RecordId) (idle : s.sc.writing = none)
    (next : nextDirty { s with sc.failed := Vector.replicate 18 false } = some r) :
    startCommit s = beginWrite r { s with sc.failed := Vector.replicate 18 false } := by
  unfold startCommit
  split
  next writing => exact absurd (idle.symm.trans writing) (by simp)
  next => simp only [next]

/-- A dirty record is still dirty, or is being written, once a commit has been started (R186). -/
theorem writtenSoon_startCommit (s : State) (r : RecordId) (h : s.isDirty r = true) : WrittenSoon (startCommit s) r := by
  unfold startCommit
  split
  · exact .inl h
  · simp only
    split
    next q _ =>
      by_cases same : r = q
      · exact .inr (by rw [beginWrite_writing, Option.map_some, imageOf_record, same])
      · exact .inl ((beginWrite_isDirty_other _ q r same).trans h)
    next => exact .inl h

/-! ### The end of the load (R105, R189 steps 6 and 7) -/

theorem finishLoad_slot (s : State) (i : Fin 4) :
    (finishLoad s).slot i =
      Slot.atReset (if s.profileValid s.sc.settings.defaults[i] then s.sc.settings.defaults[i] else lowestValid s) := by
  have sdu : (finishLoad s).sdu = (resetSlots s).sdu := startCommit_sdu _
  rw [slot_of_sdu _ _ sdu]
  simp [State.slot, resetSlots]

theorem finishLoad_au (s : State) :
    (finishLoad s).au = { s.au with status := s.au.status ||| Cause.clock.bit } := startCommit_au _

theorem finishLoad_lc (s : State) : (finishLoad s).lc = s.lc := startCommit_lc _

theorem finishLoad_pss (s : State) : (finishLoad s).pss = s.pss := startCommit_pss _

theorem finishLoad_vtu (s : State) : (finishLoad s).vtu = s.vtu := startCommit_vtu _

theorem finishLoad_settings (s : State) : (finishLoad s).sc.settings = s.sc.settings := startCommit_settings _

theorem finishLoad_pending (s : State) : (finishLoad s).pending = s.pending := startCommit_pending _

theorem finishLoad_writtenSoon (s : State) (r : RecordId) (h : s.isDirty r = true) : WrittenSoon (finishLoad s) r :=
  writtenSoon_startCommit _ r h

/-- A record that failed its check is written soon, with FAULT-SEEN and STORE, when the load ends (R191). -/
theorem Faulted.finish {s : State} {r : RecordId} (h : Faulted s r) :
    WrittenSoon (finishLoad s) r ∧ (finishLoad s).sc.faultSeen = true
      ∧ (finishLoad s).au.status &&& Cause.store.bit = Cause.store.bit := by
  refine ⟨finishLoad_writtenSoon s r h.dirty, (startCommit_faultSeen _).trans h.fault, ?_⟩
  rw [finishLoad_au]
  exact and_or_of_and _ _ _ h.status

end Sys2Proof.Machine
end

section
/-! PROOFS. The release of the part reset input: what stands once the records are loaded, and what a factory clear begins
(R189, R190). -/

namespace Sys2Proof.Machine

/-! ### The sampled state -/

theorem runs_release (arr : Bool) (cb : Byte) (fclr : Bool) (s : State) (h : s.phase = .inReset) :
    (if s.isReleased then s else release arr cb fclr s) = release arr cb fclr s := by
  have asserted : s.isReleased = false := decide_eq_false (not_not.mpr h)
  rw [asserted, if_neg Bool.false_ne_true]

theorem sampled_child (s : State) (arr : Bool) (cb : Byte) (c : Fin 7) : (s.sampled arr cb).child c = .invalid := by
  simp [State.child, State.sampled, State.inReset, PSS.factory]

theorem sampled_usage (s : State) (arr : Bool) (cb : Byte) (c : Fin 7) : (s.sampled arr cb).usage c = .zero := by
  simp [State.usage, State.sampled, State.inReset, VTU.atReset]

theorem sampled_classes (s : State) (arr : Bool) (cb : Byte) (n : Fin 4) :
    ((s.sampled arr cb).lane n).classes = defaultClasses[n] := by
  simp [State.lane, State.sampled, State.inReset, Lane.atReset]

/-! ### The stages of the load -/

/-- The state in which PIN, lane and profile records are loaded (R189 step 3). -/
def profilesIn (s : State) : State := forChildren loadProfile (loadLanes (loadPin s))

/-- The state in which all but the usage records are loaded (R189 step 3). -/
def settingsIn (s : State) : State := loadSettings (loadServices (profilesIn s))

/-- The state in which the load has ended and step 8 is awaited (R189). -/
def loadEnd (s : State) : State := finishLoad (loadStore s)

theorem loadStore_stages (s : State) : loadStore s = loadUsages (settingsIn s) := by
  rw [settingsIn, profilesIn, loadStore]

theorem loadKept_profilesIn (s : State) : LoadKept s (profilesIn s) := by
  rw [profilesIn]
  exact ((loadKept_loadPin s).trans (loadKept_loadLanes _)).trans (loadKept_forChildren _ loadKept_loadProfile _)

theorem loadKept_servicesIn (s : State) : LoadKept s (loadServices (profilesIn s)) :=
  (loadKept_profilesIn s).trans (loadKept_loadServices _)

theorem loadKept_settingsIn (s : State) : LoadKept s (settingsIn s) := by
  rw [settingsIn]
  exact (loadKept_servicesIn s).trans (loadKept_loadSettings _)

theorem grow_settingsIn (s : State) : MarksGrow (settingsIn s) (loadStore s) := by
  rw [loadStore_stages]
  exact (onlyUsage_loadUsages (settingsIn s)).marks

theorem grow_servicesIn (s : State) : MarksGrow (loadServices (profilesIn s)) (loadStore s) := by
  refine (marksGrow_loadSettings (loadServices (profilesIn s))).trans ?_
  rw [← settingsIn]
  exact grow_settingsIn s

theorem grow_profilesIn (s : State) : MarksGrow (profilesIn s) (loadStore s) :=
  (marksGrow_loadServices (profilesIn s)).trans (grow_servicesIn s)

theorem grow_lanesIn (s : State) : MarksGrow (loadLanes (loadPin s)) (loadStore s) := by
  refine (marksGrow_forChildren loadProfile marksGrow_loadProfile (loadLanes (loadPin s))).trans ?_
  rw [← profilesIn]
  exact grow_profilesIn s

theorem grow_pinIn (s : State) : MarksGrow (loadPin s) (loadStore s) :=
  (marksGrow_loadLanes (loadPin s)).trans (grow_lanesIn s)

/-! ### Where each owner's values come from -/

theorem settingsIn_pss (s : State) : (settingsIn s).pss = (loadServices (profilesIn s)).pss := by
  rw [settingsIn]
  exact (loadSettings_only (loadServices (profilesIn s))).2

theorem profilesIn_pss (s : State) :
    (profilesIn s).pss = { (loadPin s).pss with profiles := (profilesIn s).pss.profiles } := by
  have only := (loadProfiles_only (loadLanes (loadPin s))).2
  rw [loadLanes_pss, ← profilesIn] at only
  exact only

theorem loadEnd_writtenSoon (s : State) (r : RecordId) (h : (loadStore s).isDirty r = true) :
    WrittenSoon (loadEnd s) r := by
  rw [loadEnd]
  exact finishLoad_writtenSoon (loadStore s) r h

theorem Faulted.loaded {s : State} {r : RecordId} (h : Faulted (loadStore s) r) :
    WrittenSoon (loadEnd s) r ∧ (loadEnd s).sc.faultSeen = true
      ∧ (loadEnd s).au.status &&& Cause.store.bit = Cause.store.bit := by
  rw [loadEnd]
  exact h.finish

theorem loadEnd_pss (s : State) : (loadEnd s).pss = (settingsIn s).pss := by
  rw [loadEnd, finishLoad_pss, loadStore_stages]
  exact (onlyUsage_loadUsages (settingsIn s)).pss

/-- PSS after the load: PIN, profiles and services, each as its own record gave it (R189). -/
theorem loadEnd_pss_parts (s : State) :
    (loadEnd s).pss = { (loadPin s).pss with
      profiles := (profilesIn s).pss.profiles
      services := (loadServices (profilesIn s)).pss.services } := by
  rw [loadEnd_pss, settingsIn_pss, (loadServices_only (profilesIn s)).2, profilesIn_pss]

theorem loadEnd_services (s : State) : (loadEnd s).pss.services = (loadServices (profilesIn s)).pss.services := by
  rw [loadEnd_pss_parts]

theorem loadEnd_child (s : State) (c : Fin 7) : (loadEnd s).child c = (profilesIn s).child c := by
  simp only [State.child, loadEnd_pss_parts]

theorem loadEnd_lane (s : State) (n : Fin 4) : (loadEnd s).lane n = (loadLanes (loadPin s)).lane n := by
  refine lane_of_lc _ _ ?_ n
  rw [loadEnd, finishLoad_lc, loadStore_stages, (onlyUsage_loadUsages (settingsIn s)).lc, settingsIn,
    (loadSettings_only (loadServices (profilesIn s))).1, (loadServices_only (profilesIn s)).1, profilesIn,
    (loadProfiles_only (loadLanes (loadPin s))).1]

theorem loadEnd_settings (s : State) : (loadEnd s).sc.settings = (settingsIn s).sc.settings := by
  rw [loadEnd, finishLoad_settings, loadStore_stages]
  exact (onlyUsage_loadUsages (settingsIn s)).settings

theorem loadEnd_acct (s : State) : (loadEnd s).vtu.acct = loadedAcct (settingsIn s) := by
  rw [loadEnd, finishLoad_vtu, loadStore_stages, loadUsages_acct]

theorem loadEnd_profileValid (s : State) (p : Fin 8) :
    (loadEnd s).profileValid p = (loadServices (profilesIn s)).profileValid p :=
  profileValid_of_pss ((loadEnd_pss s).trans (settingsIn_pss s)) p

theorem loadEnd_lowestValid (s : State) : lowestValid (loadEnd s) = lowestValid (loadServices (profilesIn s)) :=
  lowestValid_of_pss ((loadEnd_pss s).trans (settingsIn_pss s))

/-! ### What the load leaves (R189) -/

/-- After the load the uptime counter, the clock, the enables and the capture record stand as they were, CLOCK is raised and
step 8 is awaited (R128, R189). -/
structure AwaitsStep8 (s t : State) : Prop where
  phase : t.phase = .starting
  ct : t.ct = s.ct
  wd : t.wd = s.wd
  prt : t.prt = s.prt
  uptime : t.vtu.uptime = s.vtu.uptime
  clock : t.vtu.clock = s.vtu.clock
  raised : t.au.status &&& Cause.clock.bit = Cause.clock.bit
  enable : t.au.enable = s.au.enable
  capture : t.au.capture = s.au.capture
  pending : t.pending = s.pending

theorem loadEnd_awaits (s : State) : AwaitsStep8 s (loadEnd s) := by
  have load := loadKept_loadStore s
  obtain ⟨ct, wd, -, prt, phase⟩ := finishLoad_path (loadStore s)
  have au := finishLoad_au (loadStore s)
  have vtu := finishLoad_vtu (loadStore s)
  have pending := finishLoad_pending (loadStore s)
  rw [← loadEnd] at ct wd prt phase au vtu pending
  exact ⟨phase, ct.trans load.ct, wd.trans load.wd, prt.trans load.prt, by simp only [vtu, load.uptime],
    by simp only [vtu, load.clock], by rw [au]; exact raised_bit _ _, by simp only [au, load.enable],
    by simp only [au, load.capture], pending.trans load.pending⟩

/-! ### The records (R191) -/

theorem loadEnd_pin_sound (s : State) (whole : s.sc.store.pin.complete = true)
    (fits : s.sc.store.pin.content.inRange = true) :
    (loadEnd s).pss.pin = s.sc.store.pin.content.pin ∧ (loadEnd s).pss.failures = s.sc.store.pin.content.failures
      ∧ (loadEnd s).pss.lockout = (if 5 ≤ (loadEnd s).pss.failures then
          some (lockoutSeconds (loadEnd s).pss.failures) else s.pss.lockout) := by
  obtain ⟨pin, failures, lockout⟩ := loadPin_sound s whole fits
  rw [loadEnd_pss_parts]
  exact ⟨pin, failures, by simp only [failures]; exact lockout⟩

theorem loadEnd_pin_failed (s : State)
    (bad : s.sc.store.pin.complete = false ∨ s.sc.store.pin.content.inRange = false) :
    (loadEnd s).pss.pin = .unknown ∧ (loadEnd s).pss.failures = 0 ∧ (loadEnd s).pss.lockout = s.pss.lockout
      ∧ Faulted (loadStore s) .pin := by
  obtain ⟨pin, failures, lockout, faulted⟩ := loadPin_failed s bad
  rw [loadEnd_pss_parts]
  exact ⟨pin, failures, lockout, faulted.grow (grow_pinIn s)⟩

theorem loadEnd_lane_zero (s : State) : ((loadEnd s).lane 0).classes = (s.lane 0).classes := by
  rw [loadEnd_lane, loadLanes_zero, lane_of_lc _ _ (loadPin_lc s)]

theorem loadEnd_lanes_whole (s : State) (whole : s.sc.store.lane.complete = true) :
    ((loadEnd s).lane 1).classes = s.sc.store.lane.content[0]
      ∧ ((loadEnd s).lane 2).classes = s.sc.store.lane.content[1]
      ∧ ((loadEnd s).lane 3).classes = s.sc.store.lane.content[2] := by
  have store := (loadKept_loadPin s).store
  have loaded := loadLanes_whole (loadPin s) (by rw [store]; exact whole)
  rw [store] at loaded
  simpa only [loadEnd_lane] using loaded

theorem loadEnd_lanes_failed (s : State) (bad : s.sc.store.lane.complete = false) :
    (∀ n : Fin 4, n ≠ 0 → ((loadEnd s).lane n).classes = defaultClasses[n]) ∧ Faulted (loadStore s) .lane := by
  have store := (loadKept_loadPin s).store
  obtain ⟨classes, faulted⟩ := loadLanes_failed (loadPin s) (by rw [store]; exact bad)
  exact ⟨fun n positive => by rw [loadEnd_lane]; exact classes n positive, faulted.grow (grow_lanesIn s)⟩

theorem lanesIn_store (s : State) : (loadLanes (loadPin s)).sc.store = s.sc.store :=
  ((loadKept_loadPin s).trans (loadKept_loadLanes _)).store

theorem loadEnd_profile_sound (s : State) (c : Fin 7) (whole : s.sc.store.profiles[c].complete = true)
    (fits : s.sc.store.profiles[c].content.inRange = true) :
    (loadEnd s).child c = s.sc.store.profiles[c].content := by
  have loaded := loadProfiles_sound c (loadLanes (loadPin s))
  rw [lanesIn_store] at loaded
  exact (loadEnd_child s c).trans (loaded whole fits)

theorem loadEnd_profile_failed (s : State) (c : Fin 7)
    (bad : s.sc.store.profiles[c].complete = false ∨ s.sc.store.profiles[c].content.inRange = false) :
    (loadEnd s).child c = .failSafe ∧ Faulted (loadStore s) (.profile c) := by
  have loaded := loadProfiles_failed c (loadLanes (loadPin s))
  rw [lanesIn_store] at loaded
  obtain ⟨child, faulted⟩ := loaded bad
  exact ⟨(loadEnd_child s c).trans child, faulted.grow (grow_profilesIn s)⟩

theorem loadEnd_services_sound (s : State) (whole : s.sc.store.services.complete = true)
    (lawful : ServicesLawful s.sc.store.services.content) :
    (loadEnd s).pss.services = s.sc.store.services.content := by
  have loaded := loadServices_sound (profilesIn s)
  rw [(loadKept_profilesIn s).store] at loaded
  exact (loadEnd_services s).trans (loaded whole lawful)

theorem loadEnd_services_failed (s : State)
    (bad : s.sc.store.services.complete = false ∨ ¬ ServicesLawful s.sc.store.services.content) :
    (loadEnd s).pss.services = [] ∧ Faulted (loadStore s) .services := by
  have loaded := loadServices_failed (profilesIn s)
  rw [(loadKept_profilesIn s).store] at loaded
  obtain ⟨services, faulted⟩ := loaded bad
  exact ⟨(loadEnd_services s).trans services, faulted.grow (grow_servicesIn s)⟩

theorem loadEnd_settings_sound (s : State) (whole : s.sc.store.settings.complete = true)
    (fits : s.sc.store.settings.content.inRange = true) :
    (loadEnd s).sc.settings = { s.sc.store.settings.content with defaults := (loadEnd s).sc.settings.defaults }
      ∧ (∀ i : Fin 4, (loadEnd s).sc.settings.defaults[i] =
          if (loadEnd s).profileValid s.sc.store.settings.content.defaults[i]
          then s.sc.store.settings.content.defaults[i] else lowestValid (loadEnd s))
      ∧ ((loadEnd s).sc.settings ≠ s.sc.store.settings.content → WrittenSoon (loadEnd s) .settings) := by
  have loaded := loadSettings_sound (loadServices (profilesIn s))
  rw [(loadKept_servicesIn s).store, ← settingsIn] at loaded
  obtain ⟨settings, dirty⟩ := loaded whole fits
  have stands := (loadEnd_settings s).trans settings
  refine ⟨by rw [stands], fun i => ?_, fun changed => ?_⟩
  · rw [stands, loadEnd_profileValid, loadEnd_lowestValid]
    exact soundDefaults_read _ _ i
  · rw [loadEnd_settings] at changed
    exact loadEnd_writtenSoon s _ ((grow_settingsIn s).dirty _ (dirty changed))

theorem loadEnd_settings_failed (s : State)
    (bad : s.sc.store.settings.complete = false ∨ s.sc.store.settings.content.inRange = false) :
    (loadEnd s).sc.settings = { Settings.factory with defaults := Vector.replicate 4 (lowestValid (loadEnd s)) }
      ∧ Faulted (loadStore s) .settings := by
  have loaded := loadSettings_failed (loadServices (profilesIn s))
  rw [(loadKept_servicesIn s).store, ← settingsIn] at loaded
  obtain ⟨settings, faulted⟩ := loaded bad
  rw [loadEnd_lowestValid]
  exact ⟨(loadEnd_settings s).trans settings, faulted.grow (grow_settingsIn s)⟩

/-- Every slot starts at its part-reset values, bound to its default, which by now names a valid profile (R105). -/
theorem loadEnd_slot (s : State) (i : Fin 4) : (loadEnd s).slot i = Slot.atReset (loadEnd s).sc.settings.defaults[i] := by
  have kept := onlyUsage_loadUsages (settingsIn s)
  have pss := kept.pss.trans (settingsIn_pss s)
  have slot := finishLoad_slot (loadUsages (settingsIn s)) i
  rw [profileValid_of_pss pss, lowestValid_of_pss pss, kept.settings] at slot
  have defaults := loadSettings_defaults (loadServices (profilesIn s)) i
  rw [← settingsIn] at defaults
  rw [defaults] at slot
  rw [loadEnd_settings, loadEnd, loadStore_stages]
  exact slot

/-! ### The usage records (R132, R192) -/

theorem settingsIn_child (s : State) (c : Fin 7) : (settingsIn s).child c = (loadEnd s).child c :=
  (child_of_pss _ _ (loadEnd_pss s) c).symm

theorem settingsIn_usageSound (s : State) (c : Fin 7) :
    usageSound (settingsIn s) c = true ↔ SoundUsage s.sc.store c := by
  rw [usageSound_iff, (loadKept_settingsIn s).store]

theorem settingsIn_record (s : State) (c : Fin 7) :
    soundRecord (settingsIn s) (loadedAcct (settingsIn s)) c =
      soundUsage ((loadEnd s).child c) (loadEnd s).sc.settings.weekend s.sc.store.usage[c].content.acct
        (loadEnd s).vtu.acct s.sc.store.usage[c].content.usage := by
  rw [soundRecord, settingsIn_child, (loadKept_settingsIn s).store, loadEnd_settings, loadEnd_acct]

theorem loadEnd_usage (s : State) (c : Fin 7) :
    (loadEnd s).usage c = usageTaken (settingsIn s) (loadedAcct (settingsIn s)) c := by
  rw [loadEnd, usage_of_vtu _ _ (finishLoad_vtu (loadStore s)) c, loadStore_stages]
  exact loadUsages_usage c (settingsIn s)

theorem loadEnd_usage_written (s : State) (c : Fin 7) (h : usageSound (settingsIn s) c = true →
    (soundRecord (settingsIn s) (loadedAcct (settingsIn s)) c).2 = true) : WrittenSoon (loadEnd s) (.usage c) := by
  refine loadEnd_writtenSoon s _ ?_
  rw [loadStore_stages]
  exact loadUsages_dirty c (settingsIn s) h

theorem loadEnd_usage_invalid (s : State) (c : Fin 7) (invalid : ((loadEnd s).child c).valid = false) :
    (loadEnd s).usage c = .zero := by
  rw [loadEnd_usage, usageTaken, settingsIn_child, invalid]
  rfl

theorem loadEnd_usage_failed (s : State) (c : Fin 7) (valid : ((loadEnd s).child c).valid = true)
    (bad : s.sc.store.usage[c].complete = false) :
    (loadEnd s).usage c = .failSafe ∧ WrittenSoon (loadEnd s) (.usage c) := by
  have unsound : usageSound (settingsIn s) c = false := by
    rw [usageSound, (loadKept_settingsIn s).store, bad, Bool.false_and]
  refine ⟨?_, loadEnd_usage_written s c fun sound => absurd (unsound.symm.trans sound) Bool.false_ne_true⟩
  rw [loadEnd_usage, usageTaken, settingsIn_child, valid, unsound]
  rfl

/-- A sound record's usage as `soundUsage` makes it, and written soon where that says so (R191, R192). -/
theorem loadEnd_usage_sound (s : State) (c : Fin 7) (valid : ((loadEnd s).child c).valid = true)
    (sound : SoundUsage s.sc.store c) {u : Usage} {marked : Bool}
    (taken : soundUsage ((loadEnd s).child c) (loadEnd s).sc.settings.weekend s.sc.store.usage[c].content.acct
      (loadEnd s).vtu.acct s.sc.store.usage[c].content.usage = (u, marked)) :
    (loadEnd s).usage c = u ∧ (marked = true → WrittenSoon (loadEnd s) (.usage c)) := by
  rw [← settingsIn_record] at taken
  refine ⟨?_, fun h => loadEnd_usage_written s c fun _ => by rw [taken]; exact h⟩
  rw [loadEnd_usage, usageTaken, settingsIn_child, valid, (settingsIn_usageSound s c).mpr sound, taken]
  rfl

/-- A sound record that holds no day is written soon, to hold the loaded one (R192). -/
theorem loadEnd_usage_dayless (s : State) (c : Fin 7) (valid : ((loadEnd s).child c).valid = true)
    (sound : SoundUsage s.sc.store c) (dayless : s.sc.store.usage[c].content.acct = none) :
    WrittenSoon (loadEnd s) (.usage c)
      ∧ (loadEnd s).usage c = loadedUsage ((loadEnd s).child c) s.sc.store.usage[c].content.usage := by
  have taken := soundUsage_dayless ((loadEnd s).child c) (loadEnd s).sc.settings.weekend (loadEnd s).vtu.acct
    s.sc.store.usage[c].content.usage
  rw [← dayless] at taken
  obtain ⟨usage, written⟩ := loadEnd_usage_sound s c valid sound taken
  exact ⟨written rfl, usage⟩

/-- A sound record of the loaded day is taken with its carry within the cap (R191, R192; log 20). -/
theorem loadEnd_usage_sameDay (s : State) (c : Fin 7) (valid : ((loadEnd s).child c).valid = true)
    (sound : SoundUsage s.sc.store c) {a b : Acct} (own : s.sc.store.usage[c].content.acct = some a)
    (loaded : (loadEnd s).vtu.acct = some b) (same : a.day = b.day) :
    (loadEnd s).usage c = loadedUsage ((loadEnd s).child c) s.sc.store.usage[c].content.usage
      ∧ (((loadEnd s).child c).carryCap * 60 < s.sc.store.usage[c].content.usage.carry →
          WrittenSoon (loadEnd s) (.usage c)) := by
  obtain ⟨usage, written⟩ := loadEnd_usage_sound s c valid sound
    (by rw [own, loaded, soundUsage_dated, if_neg (by omega)])
  exact ⟨usage, fun above => written (decide_eq_true above)⟩

/-- A sound record of an earlier day is rolled forward and written soon (R192). -/
theorem loadEnd_usage_earlier (s : State) (c : Fin 7) (valid : ((loadEnd s).child c).valid = true)
    (sound : SoundUsage s.sc.store c) {a b : Acct} (own : s.sc.store.usage[c].content.acct = some a)
    (loaded : (loadEnd s).vtu.acct = some b) (earlier : a.day < b.day) :
    WrittenSoon (loadEnd s) (.usage c)
      ∧ (loadEnd s).usage c = caughtUp ((loadEnd s).child c) (loadEnd s).sc.settings.weekend a b
          (loadedUsage ((loadEnd s).child c) s.sc.store.usage[c].content.usage) := by
  obtain ⟨usage, written⟩ := loadEnd_usage_sound s c valid sound
    (by rw [own, loaded, soundUsage_dated, if_pos earlier])
  exact ⟨written rfl, usage⟩

/-! ### The factory clear (R190) -/

theorem isDirty_markAll (s : State) (r : RecordId) : (markAll s).isDirty r = true := by
  simp [markAll, State.isDirty]

theorem nextDirty_pin (s : State) (dirty : s.isDirty .pin = true) (fresh : s.sc.failed = Vector.replicate 18 false) :
    nextDirty s = some .pin := by
  have untried : s.sc.failed[RecordId.place .pin] = false := by simp [fresh]
  rw [nextDirty, storeOrder, List.find?_cons_of_pos (by rw [dirty, untried]; rfl)]

theorem beginClear_eq (s : State) (idle : s.sc.writing = none) :
    beginClear s = beginWrite .pin
      { markAll { s with phase := .clearing } with sc.failed := Vector.replicate 18 false } := by
  exact startCommit_begins (markAll { s with phase := .clearing }) .pin idle
    (nextDirty_pin _ (isDirty_markAll { s with phase := .clearing } .pin) rfl)

theorem beginClear_dirty (s : State) (idle : s.sc.writing = none) (r : RecordId) (h : r ≠ .pin) :
    (beginClear s).isDirty r = true := by
  rw [beginClear_eq s idle, beginWrite_isDirty_other _ _ _ h]
  exact isDirty_markAll { s with phase := .clearing } r

theorem beginClear_writing (s : State) (idle : s.sc.writing = none) :
    (beginClear s).sc.writing = some (.pin { pin := s.pss.pin, failures := s.pss.failures }) := by
  rw [beginClear_eq s idle, beginWrite_writing]
  rfl

end Sys2Proof.Machine
end

section

open Sys2Proof Sys2Proof.Machine

/-- Settles O46, record by record as the load takes them. -/
theorem releaseLoads : Obligations.ReleaseLoads := by
  intro s arr cb
  refine ⟨fun inReset => ?_, fun inReset => ?_, fun released fclr => ?_⟩
  · have runs : Runs (.partResetRelease arr cb false) s (loadEnd (s.sampled arr cb)) := by
      refine congrArg Host.Outcome.next ((runs_release arr cb false s inReset).trans ?_)
      rw [release_load, loadEnd]
    have awaits := loadEnd_awaits (s.sampled arr cb)
    have store : (s.sampled arr cb).sc.store = s.sc.store := rfl
    have unlocked : (s.sampled arr cb).pss.lockout = none := rfl
    have whole : ((s.sampled arr cb).lane 0).classes = 0b1111111 := sampled_classes s arr cb 0
    refine ⟨_, runs, awaits.phase, by rw [awaits.ct]; rfl, awaits.wd, awaits.prt, awaits.uptime, awaits.clock, awaits.raised,
      awaits.enable, awaits.capture, ?_⟩
    replace awaits : (loadEnd (s.sampled arr cb)).pending = s.pending := awaits.pending
    rw [← store]
    generalize s.sampled arr cb = z at *
    refine ⟨fun i => ?_, fun complete fits => ?_, fun bad => ?_, loadEnd_profile_sound z, fun c bad => ?_,
      fun c valid bad => ?_, (loadEnd_lane_zero z).trans whole, loadEnd_lanes_whole z, fun bad => ?_,
      loadEnd_services_sound z, fun bad => ?_, fun i => by rw [loadEnd_slot]; rfl, loadEnd_settings_sound z, fun bad => ?_,
      fun c a stored => ?_, fun b acct => ?_, loadEnd_usage_invalid z, fun c valid sound => ?_, awaits⟩
    · rw [loadEnd_slot]
      exact ⟨rfl, rfl, rfl, rfl⟩
    · obtain ⟨pin, failures, lockout⟩ := loadEnd_pin_sound z complete fits
      exact ⟨pin, failures, fun many => lockout.trans (if_pos many),
        fun few => lockout.trans ((if_neg (by omega)).trans unlocked)⟩
    · obtain ⟨pin, failures, lockout, faulted⟩ := loadEnd_pin_failed z bad
      obtain ⟨written, fault, status⟩ := faulted.loaded
      exact ⟨pin, failures, lockout.trans unlocked, written, status, fault⟩
    · obtain ⟨child, faulted⟩ := loadEnd_profile_failed z c bad
      rw [child]
      exact ⟨rfl, rfl, rfl, rfl, rfl, rfl, faulted.loaded⟩
    · obtain ⟨usage, written⟩ := loadEnd_usage_failed z c valid bad
      rw [usage]
      exact ⟨rfl, rfl, rfl, rfl, written⟩
    · obtain ⟨classes, faulted⟩ := loadEnd_lanes_failed z bad
      refine ⟨fun n => ?_, faulted.loaded⟩
      by_cases zero : n = 0
      · subst zero; exact (loadEnd_lane_zero z).trans whole
      · exact classes n zero
    · obtain ⟨services, faulted⟩ := loadEnd_services_failed z bad
      exact ⟨services, faulted.loaded⟩
    · obtain ⟨settings, faulted⟩ := loadEnd_settings_failed z bad
      exact ⟨settings, faulted.loaded⟩
    · rw [loadEnd_acct]
      exact loadedAcct_bounds (settingsIn z) c a (by rw [(loadKept_settingsIn z).store]; exact stored)
    · rw [loadEnd_acct] at acct
      have attained := loadedAcct_attained (settingsIn z) b acct
      rwa [(loadKept_settingsIn z).store] at attained
    · refine ⟨loadEnd_usage_dayless z c valid sound, fun a b own loaded =>
        ⟨loadEnd_usage_sameDay z c valid sound own loaded, fun earlier => ?_⟩⟩
      rw [← caughtUp_loaded]
      exact loadEnd_usage_earlier z c valid sound own loaded earlier
  · have runs : Runs (.partResetRelease arr cb true) s (beginClear (s.sampled arr cb)) :=
      congrArg Host.Outcome.next ((runs_release arr cb true s inReset).trans (release_clear arr cb s))
    have frame := beginClear_frame (s.sampled arr cb)
    have dirty := beginClear_dirty (s.sampled arr cb) rfl
    have writing := beginClear_writing (s.sampled arr cb) rfl
    generalize beginClear (s.sampled arr cb) = t at *
    refine ⟨t, runs, frame.phase, frame.wd, by rw [frame.ct]; rfl, by rw [frame.vtu]; rfl, by rw [frame.pss]; rfl,
      by rw [frame.pss]; rfl, by rw [frame.pss]; rfl, frame.settings, fun c => ⟨?_, ?_⟩, fun n => ?_, writing, dirty,
      frame.faultSeen⟩
    · rw [child_of_pss _ t frame.pss]
      exact sampled_child s arr cb c
    · rw [usage_of_vtu _ t frame.vtu]
      exact sampled_usage s arr cb c
    · rw [lane_of_lc _ t frame.lc]
      exact sampled_classes s arr cb n
  · have stays : s.isReleased = true := decide_eq_true released
    exact congrArg Host.Outcome.next (if_pos stays)

end

section
/-! PROOFS. How a slot record moves: every operation but a change of the window table and a part reset edits it apart from
its picture state, decision and enforcement, re-evaluates it, or ends RELEASING (R106, R110, R113). -/

namespace Sys2Proof.Machine

/-! ### The moves of a slot record -/

/-- What a slot record can become while the window table stands. -/
inductive SlotMove : Slot → Slot → Prop
  | edited {x y : Slot} (picture : y.picture = x.picture) (decision : y.decision = x.decision)
      (enforcement : y.enforcement = x.enforcement) : SlotMove x y
  | judged (pos : Option Entry × Option Nat) (s : State) (x : Slot) : SlotMove x (reevaluatedAt pos s x)
  | released (x : Slot) : SlotMove x x.released
  | trans {x y z : Slot} (first : SlotMove x y) (second : SlotMove y z) : SlotMove x z

theorem SlotMove.refl (x : Slot) : SlotMove x x := .edited rfl rfl rfl

theorem released_picture (x : Slot) : x.released.picture = x.picture := by
  unfold Slot.released
  split <;> rfl

/-- No move touches the picture state (R106). -/
theorem SlotMove.picture {x y : Slot} (h : SlotMove x y) : y.picture = x.picture := by
  induction h with
  | edited picture _ _ => exact picture
  | judged pos s x => rfl
  | released x => exact released_picture x
  | trans _ _ ih₁ ih₂ => exact ih₂.trans ih₁

/-- The window table is kept and every slot record moved. -/
structure SlotsMoved (s t : State) : Prop where
  wd : t.wd = s.wd
  moves : ∀ i, SlotMove (s.slot i) (t.slot i)

theorem SlotsMoved.of_sdu {s t : State} (wd : t.wd = s.wd) (sdu : t.sdu = s.sdu) : SlotsMoved s t :=
  ⟨wd, fun i => by rw [slot_of_sdu s t sdu]; exact .refl _⟩

theorem SlotsMoved.refl (s : State) : SlotsMoved s s := .of_sdu rfl rfl

theorem SlotsMoved.trans {s t u : State} (a : SlotsMoved s t) (b : SlotsMoved t u) : SlotsMoved s u :=
  ⟨b.wd.trans a.wd, fun i => (a.moves i).trans (b.moves i)⟩

theorem slotsMoved_forSlots (f : Fin 4 → State → State) (h : ∀ i s, SlotsMoved s (f i s)) (s : State) :
    SlotsMoved s (forSlots f s) :=
  forSlots_induct (P := SlotsMoved s) f (fun i t ht => ht.trans (h i t)) s (.refl s)

theorem slotsMoved_forChildren (f : Fin 7 → State → State) (h : ∀ c s, SlotsMoved s (f c s)) (s : State) :
    SlotsMoved s (forChildren f s) :=
  forChildren_induct (P := SlotsMoved s) f (fun c t ht => ht.trans (h c t)) s (.refl s)

/-! ### Slots set and re-evaluated -/

theorem slotsMoved_setSlot (s : State) (i : Fin 4) (x : Slot) (h : SlotMove (s.slot i) x) :
    SlotsMoved s (s.setSlot i x) := by
  refine ⟨rfl, fun j => ?_⟩
  by_cases e : j = i
  · subst e; rw [slot_setSlot_same]; exact h
  · rw [slot_setSlot_other s i j x e]; exact .refl _

theorem slotsMoved_placeSlot (i : Fin 4) (y : Slot) (s : State) (h : SlotMove (s.slot i) y) :
    SlotsMoved s (placeSlot i y s) := by
  refine ⟨(onlySlots_placeSlot i y s).wd, fun j => ?_⟩
  by_cases e : j = i
  · subst e; rw [placeSlot_slot]; exact h
  · rw [placeSlot_slot_other i j y s e]; exact .refl _

theorem slotsMoved_reevaluateAs (i : Fin 4) (x : Slot) (s : State) (h : SlotMove (s.slot i) x) :
    SlotsMoved s (reevaluateAs i x s) := slotsMoved_placeSlot i _ s (h.trans (.judged _ s x))

theorem slotsMoved_reevaluateWhere (hit : Slot → Bool) (s : State) : SlotsMoved s (reevaluateWhere hit s) := by
  refine slotsMoved_forSlots _ (fun i t => ?_) s
  split
  · exact slotsMoved_reevaluateAs i _ t (.refl _)
  · exact .refl t

theorem slotsMoved_reportProfile (p : Fin 8) (s : State) : SlotsMoved s (reportProfile p s) :=
  slotsMoved_reevaluateWhere _ s

theorem slotsMoved_reportServices (l : List Nat) (s : State) : SlotsMoved s (reportServices l s) :=
  slotsMoved_reevaluateWhere _ s

theorem slotsMoved_reportServiceEntry (n : Nat) (s : State) : SlotsMoved s (reportServiceEntry n s) :=
  slotsMoved_reevaluateWhere _ s

theorem slotsMoved_applyPending (i : Fin 4) (s : State) : SlotsMoved s (applyPending i s) := by
  unfold applyPending
  split
  · exact .refl s
  · exact slotsMoved_reevaluateAs i _ s (.edited rfl rfl rfl)

theorem slotsMoved_takeFrameStart (i : Fin 4) (s : State) : SlotsMoved s (takeFrameStart i s) :=
  (slotsMoved_setSlot s i _ (.released _)).trans (slotsMoved_applyPending i _)

theorem slotsMoved_bindSlot (i : Fin 4) (p : Fin 8) (s : State) : SlotsMoved s (bindSlot i p s) := by
  unfold bindSlot
  simp only
  split
  · exact slotsMoved_setSlot s i _ (.edited rfl rfl rfl)
  · refine (slotsMoved_setSlot s i _ ?_).trans (slotsMoved_applyPending i _)
    exact .edited rfl rfl rfl

theorem slotsMoved_zeroFrames (s : State) : SlotsMoved s (zeroFrames s) := by
  refine slotsMoved_forSlots _ (fun i t => slotsMoved_setSlot t i _ ?_) s
  exact .edited rfl rfl rfl

/-! ### The Viewing Time Unit -/

theorem slotsMoved_setUsage (s : State) (c : Fin 7) (u : Usage) : SlotsMoved s (s.setUsage c u) :=
  .of_sdu (setUsage_wd s c u) (setUsage_sdu s c u)

theorem slotsMoved_markDirty (s : State) (r : RecordId) : SlotsMoved s (s.markDirty r) := .of_sdu rfl rfl

theorem slotsMoved_recomputeCurfew (c : Fin 7) (s : State) : SlotsMoved s (recomputeCurfew c s) := by
  unfold recomputeCurfew
  split <;> exact .of_sdu rfl rfl

theorem slotsMoved_recomputeCurfews (s : State) : SlotsMoved s (recomputeCurfews s) :=
  slotsMoved_forChildren _ slotsMoved_recomputeCurfew s

theorem slotsMoved_restore (c : Fin 7) (s : State) : SlotsMoved s (restore c s) := by
  unfold restore
  split
  · have stored := (slotsMoved_setUsage s c { s.usage c with
      exhausted := false, ext := none
      warned := (s.usage c).warned && !aboveBound (s.remainingChild c) ((s.child c).warn * 60) }).trans
      (slotsMoved_markDirty _ (.usage c))
    simp only
    split
    · exact stored.trans (slotsMoved_reportProfile _ _)
    · exact stored
  · exact .refl s

theorem slotsMoved_grantExtension (c : Fin 7) (s : State) : SlotsMoved s (grantExtension c s) := by
  unfold grantExtension
  split
  · exact .refl s
  · exact slotsMoved_setUsage s c _

theorem slotsMoved_warningTest (c : Fin 7) (s : State) : SlotsMoved s (warningTest c s) := by
  unfold warningTest
  split
  · exact (slotsMoved_setUsage s c _).trans (.of_sdu rfl rfl)
  · exact .refl s

theorem slotsMoved_exhaustionTest (c : Fin 7) (s : State) : SlotsMoved s (exhaustionTest c s) := by
  unfold exhaustionTest
  split
  · refine SlotsMoved.trans ?_ (slotsMoved_markDirty _ _)
    refine SlotsMoved.trans ?_ (slotsMoved_grantExtension c _)
    exact (slotsMoved_setUsage s c _).trans (.of_sdu rfl rfl)
  · exact .refl s

theorem slotsMoved_tickChild (c : Fin 7) (s : State) : SlotsMoved s (tickChild c s) := by
  unfold tickChild
  split
  · exact ((slotsMoved_setUsage s c _).trans (slotsMoved_warningTest c _)).trans (slotsMoved_exhaustionTest c _)
  · exact .refl s

theorem slotsMoved_setAcct (s : State) (a : Option Acct) : SlotsMoved s { s with vtu.acct := a } := .of_sdu rfl rfl

theorem slotsMoved_dayRollover (day : Nat) (a : Acct) (s : State) : SlotsMoved s (dayRollover day a s) := by
  refine SlotsMoved.trans (SlotsMoved.trans
    (slotsMoved_forChildren (fun c t => if (t.child c).valid then _ else t) (fun c t => ?_) s)
    (slotsMoved_forChildren (fun c t => t.markDirty (.usage c)) (fun c t => slotsMoved_markDirty t _) _))
    (slotsMoved_setAcct _ _)
  split
  · exact slotsMoved_setUsage t c _
  · exact .refl t

theorem slotsMoved_weekRollover (s : State) : SlotsMoved s (weekRollover s) := by
  unfold weekRollover
  split
  · exact .refl s
  · simp only
    split
    · refine SlotsMoved.trans (slotsMoved_forChildren _ (fun c t => ?_) s) (slotsMoved_setAcct _ _)
      split
      · exact slotsMoved_setUsage t c _
      · exact .refl t
    · exact .refl s

theorem slotsMoved_rolloverCheck (s : State) : SlotsMoved s (rolloverCheck s) := by
  unfold rolloverCheck
  split
  · exact .refl s
  · simp only
    split
    · exact .of_sdu rfl rfl
    · split
      · exact (slotsMoved_dayRollover _ _ s).trans (slotsMoved_weekRollover _)
      · exact .refl s

theorem slotsMoved_reportDiffering (s t : State) : SlotsMoved t (reportDiffering s t) := by
  refine slotsMoved_forChildren _ (fun c u => ?_) t
  split
  · exact slotsMoved_reportProfile _ u
  · exact .refl u

/-- The accounting tick (R135). -/
theorem slotsMoved_tickBody (s : State) : SlotsMoved s (tickBody s) := by
  refine SlotsMoved.trans ?_ (slotsMoved_reportDiffering s _)
  have ticked := ((slotsMoved_rolloverCheck s).trans (slotsMoved_forChildren _ slotsMoved_tickChild _)).trans
    (slotsMoved_zeroFrames _)
  simp only [tickBeforeReports]
  split
  · exact ticked.trans (slotsMoved_recomputeCurfews _)
  · exact ticked

theorem slotsMoved_startClock (wall : Nat) (zone : Int) (s : State) : SlotsMoved s (startClock wall zone s) := by
  refine SlotsMoved.trans ?_ (slotsMoved_forChildren _ (fun c t => slotsMoved_setUsage t c _) _)
  exact .of_sdu rfl rfl

theorem slotsMoved_endPastExtensions (wall : Nat) (s : State) : SlotsMoved s (endPastExtensions wall s) := by
  refine slotsMoved_forChildren _ (fun c t => ?_) s
  split
  · exact slotsMoved_setUsage t c _
  · exact .refl t

/-- CLOCK_SET (R117, R152). -/
theorem slotsMoved_setClock (wall : Nat) (zone : Int) (s : State) : SlotsMoved s (setClock wall zone s) := by
  have before : SlotsMoved s (clockBeforeReports wall zone s) :=
    (((slotsMoved_startClock wall zone s).trans (slotsMoved_endPastExtensions wall _)).trans
      (slotsMoved_rolloverCheck _)).trans (slotsMoved_recomputeCurfews _)
  have slots : ∀ t, SlotsMoved t (clockToSlots wall t) := fun t =>
    SlotsMoved.trans (slotsMoved_forSlots _ (fun i u => slotsMoved_setSlot u i _ (by exact .edited rfl rfl rfl)) t)
      (slotsMoved_reevaluateWhere _ _)
  exact ((before.trans (slotsMoved_markDirty _ _)).trans (slotsMoved_reportDiffering s _)).trans (slots _)

/-! ### The guide, the profiles and the service table -/

/-- A new table content whose services are reported (R71). -/
theorem slotsMoved_reportEntries (l : List Nat) (table : List Entry) (s : State) :
    SlotsMoved s (reportServices l (s.setEntries table)) := by
  refine SlotsMoved.trans ?_ (slotsMoved_reportServices l _)
  exact .of_sdu rfl rfl

theorem slotsMoved_applyInsert (e : Entry) (r : InsertResult) (s : State) : SlotsMoved s (applyInsert e r s) := by
  unfold applyInsert
  split
  · exact slotsMoved_reportEntries _ _ s
  · exact .refl s
  · exact .refl s

theorem slotsMoved_withdraw (k : Key) (s : State) : SlotsMoved s (withdraw k s) := slotsMoved_reportEntries _ _ s

theorem slotsMoved_endIngest (g : Ingest) (outcome : ReplyCode) (s : State) : SlotsMoved s (endIngest g outcome s) :=
  .of_sdu rfl rfl

theorem slotsMoved_setChild (s : State) (c : Fin 7) (p : Profile) : SlotsMoved s (s.setChild c p) := .of_sdu rfl rfl

theorem slotsMoved_lowerCarry (c : Fin 7) (s : State) : SlotsMoved s (lowerCarry c s) := by
  unfold lowerCarry
  split
  · exact (slotsMoved_setUsage s c _).trans (slotsMoved_markDirty _ _)
  · exact .refl s

theorem slotsMoved_storeProfile (c : Fin 7) (p : Profile) (s : State) : SlotsMoved s (storeProfile c p s) := by
  unfold storeProfile
  refine SlotsMoved.trans (SlotsMoved.trans ?_ (slotsMoved_markDirty _ _)) (slotsMoved_reportProfile _ _)
  split
  · exact ((slotsMoved_setChild s c p).trans (slotsMoved_lowerCarry c _)).trans (slotsMoved_restore c _)
  · exact .of_sdu (by simp [createProfile]) (by simp [createProfile])

theorem slotsMoved_storeCurfews (c : Fin 7) (cs : List Curfew) (s : State) : SlotsMoved s (storeCurfews c cs s) :=
  (((slotsMoved_setChild s c _).trans (slotsMoved_recomputeCurfew c _)).trans (slotsMoved_markDirty _ _)).trans
    (slotsMoved_reportProfile _ _)

theorem slotsMoved_setSuspended (c : Fin 7) (b : Bool) (s : State) : SlotsMoved s (setSuspended c b s) :=
  ((slotsMoved_setChild s c _).trans (slotsMoved_markDirty _ _)).trans (slotsMoved_reportProfile _ _)

theorem slotsMoved_dropProfile (c : Fin 7) (s : State) : SlotsMoved s (dropProfile c s) := by
  simp only [dropProfile]
  split <;> exact .of_sdu (by simp) (by simp)

theorem slotsMoved_storeServices (n : Nat) (t : List ServiceEntry) (s : State) : SlotsMoved s (storeServices n t s) := by
  refine SlotsMoved.trans ?_ (slotsMoved_reportServiceEntry n _)
  exact .of_sdu rfl rfl

theorem slotsMoved_restoreUsage (c : Fin 7) (u : Usage) (s : State) :
    SlotsMoved s (restore c ((s.setUsage c u).markDirty (.usage c))) :=
  ((slotsMoved_setUsage s c u).trans (slotsMoved_markDirty _ _)).trans (slotsMoved_restore c _)

/-! ### An ingest -/

theorem slotsMoved_processRecord (core : EventCore) (s : State) : SlotsMoved s (processRecord core s).1 := by
  unfold processRecord
  split
  · simp only
    split
    · exact .refl s
    · exact slotsMoved_withdraw _ s
  · split
    · exact .refl s
    · exact slotsMoved_applyInsert _ _ s

theorem slotsMoved_advanceIngest (g : Ingest) (s : State) : SlotsMoved s (advanceIngest g s) := by
  simp only [advanceIngest]
  split
  · exact slotsMoved_endIngest _ _ s
  · exact .of_sdu rfl rfl

theorem slotsMoved_ingestDelivery (d : Delivery) (s : State) : SlotsMoved s (ingestDelivery d s) := by
  unfold ingestDelivery
  split
  · exact .refl s
  next g _ =>
    have staged : SlotsMoved s { s with prt.stager := overlayAt s.prt.stager (d.block % 32) d.bytes } := .of_sdu rfl rfl
    simp only
    split
    · split
      · exact (staged.trans (slotsMoved_processRecord _ _)).trans (slotsMoved_advanceIngest _ _)
      · exact staged
    · split
      · refine SlotsMoved.trans ?_ (slotsMoved_endIngest g .aborted _)
        exact .of_sdu (by simp) (by simp)
      · exact .refl s

/-! ### The channel -/

/-- A classification moves slots by frame starts alone (R36). -/
theorem slotsMoved_classify (dir : Dir) (len block : Nat) (ba : BitVec 3) (row : BitVec 16) (col : Nat) (s : State) :
    SlotsMoved s (classify dir len block ba row col s).state := by
  cases dir with
  | read =>
    simp only [classify, classifyRead]
    split
    · exact .refl s
    · split
      case h_4 w _ _ _ =>
        unfold classifyPictureRead
        split
        · have frame := slotsMoved_takeFrameStart w.slot s
          simp only
          split
          · exact frame.trans (slotsMoved_setSlot _ _ _ (.edited rfl rfl rfl))
          · exact frame
          · exact frame
        · split <;> exact .refl s
      case h_5 => split <;> exact .refl s
      all_goals exact .refl s
  | write =>
    simp only [classify, classifyWrite]
    split
    · exact .refl s
    · split
      case h_2 => exact .of_sdu (by simp) (by simp)
      all_goals exact .refl s

theorem slotsMoved_setBank (s : State) (ba : BitVec 3) (x : Option (BitVec 16)) : SlotsMoved s (s.setBank ba x) :=
  .of_sdu rfl rfl

theorem slotsMoved_pushBurst (b : Burst) (s : State) : SlotsMoved s (pushBurst b s) := .of_sdu rfl rfl

theorem slotsMoved_columnOpen (dir : Dir) (ba : BitVec 3) (row a : BitVec 16) (s : State) :
    SlotsMoved s (columnOpen dir ba row a s) := by
  have moved := slotsMoved_classify dir (burstLength s.ct.form (burstSelect a)) (columnBlock s ba row a) ba row
    (columnOf a) s
  simp only [columnOpen]
  generalize classify dir _ _ ba row _ s = c at moved ⊢
  have entered : ∀ b, SlotsMoved s (if s.hasRoom then pushBurst b c.state else s) := fun b => by
    split
    · exact moved.trans (slotsMoved_pushBurst b _)
    · exact .refl s
  split
  · exact (entered _).trans (slotsMoved_setBank _ _ _)
  · exact entered _

theorem slotsMoved_columnCommand (dir : Dir) (ba : BitVec 3) (a : BitVec 16) (s : State) :
    SlotsMoved s (columnCommand dir ba a s) := by
  unfold columnCommand
  split
  · exact .of_sdu (columnClosed_line dir ba a s).1.only.wd (columnClosed_spec dir ba a s).2.2.1
  · exact slotsMoved_columnOpen dir ba _ a s

/-- What the lines of a command do where it is no MODE LOAD (R2 to R9). -/
theorem slotsMoved_commandEffect (l : Lines) (s : State) (h : l.group ≠ .mode) : SlotsMoved s (commandEffect l s) := by
  have wd := (commandEffect_line l s h).1.only.wd
  unfold commandEffect at wd ⊢
  split at wd
  · exact .refl s
  · exact .refl s
  · exact .of_sdu wd (openBank_sdu _ _ s)
  · exact slotsMoved_columnCommand _ _ _ s
  · refine .of_sdu wd ?_
    split <;> rfl
  · exact .of_sdu wd (refreshBanks_spec s).2.2.2
  next mode => exact absurd mode h

theorem slotsMoved_fallEnable (l : Lines) (s : State) : SlotsMoved s (fallEnable l s) := by
  refine .of_sdu (fallEnable_only l s).wd ?_
  simp only [fallEnable, fallingEffect]
  split
  · split
    · exact (refreshBanks_spec (driveLines l s)).2.2.2
    · rfl
  · rfl

theorem slotsMoved_riseEnable (s : State) : SlotsMoved s (riseEnable s) := by
  refine .of_sdu (riseEnable_only s).wd ?_
  unfold riseEnable
  split
  · rfl
  · split <;> rfl

theorem slotsMoved_resetChannel (s : State) : SlotsMoved s (resetChannel s) := by
  rw [resetChannel_eq]
  refine SlotsMoved.trans ?_ (slotsMoved_zeroFrames _)
  rw [resetBeforeFrames_eq]
  exact .of_sdu rfl rfl

/-! ### Timers and the store -/

theorem slotsMoved_whenDue (due : State → Bool) (act : State → State) (h : ∀ s, SlotsMoved s (act s)) (s : State) :
    SlotsMoved s (whenDue due act s) := by
  unfold whenDue
  split
  · exact h s
  · exact .refl s

theorem slotsMoved_expireUnlock (i : Fin 4) (s : State) : SlotsMoved s (expireUnlock i s) :=
  slotsMoved_placeSlot i _ s (.trans (y := { s.slot i with unlock := none }) (.edited rfl rfl rfl) (.judged _ s _))

theorem slotsMoved_expireHold (i : Fin 4) (s : State) : SlotsMoved s (expireHold i s) :=
  slotsMoved_reevaluateAs i _ s (.edited rfl rfl rfl)

theorem slotsMoved_expireBoundary (i : Fin 4) (s : State) : SlotsMoved s (expireBoundary i s) :=
  slotsMoved_reevaluateAs i _ s (.refl _)

theorem slotsMoved_expireLength (i : Fin 4) (s : State) : SlotsMoved s (expireLength i s) :=
  slotsMoved_setSlot s i _ (.edited rfl rfl rfl)

theorem slotsMoved_fallCountdown (i : Fin 4) (s : State) : SlotsMoved s (fallCountdown i s) := by
  unfold fallCountdown
  split
  · exact slotsMoved_setSlot s i _ (.edited rfl rfl rfl)
  · split
    · exact slotsMoved_applyPending i s
    · exact slotsMoved_setSlot s i _ (.edited rfl rfl rfl)

theorem slotsMoved_expireLockout (s : State) : SlotsMoved s (expireLockout s) := .of_sdu rfl rfl

theorem slotsMoved_expireExtension (c : Fin 7) (s : State) : SlotsMoved s (expireExtension c s) :=
  (slotsMoved_setUsage s c _).trans (slotsMoved_reportProfile _ _)

theorem slotsMoved_startCommit (s : State) : SlotsMoved s (startCommit s) := .of_sdu (startCommit_wd s) (startCommit_sdu s)

theorem slotsMoved_expireUsageAge (c : Fin 7) (s : State) : SlotsMoved s (expireUsageAge c s) :=
  (slotsMoved_markDirty s _).trans (slotsMoved_startCommit _)

theorem slotsMoved_flushSlot (i : Fin 4) (s : State) : SlotsMoved s (flushSlot i s) :=
  ((((slotsMoved_whenDue _ _ (slotsMoved_expireBoundary i) s).trans
    (slotsMoved_whenDue _ _ (slotsMoved_expireHold i) _)).trans
    (slotsMoved_whenDue _ _ (slotsMoved_expireUnlock i) _)).trans
    (slotsMoved_whenDue _ _ (slotsMoved_fallCountdown i) _)).trans
    (slotsMoved_whenDue _ _ (slotsMoved_expireLength i) _)

theorem slotsMoved_flushChild (c : Fin 7) (s : State) : SlotsMoved s (flushChild c s) :=
  (slotsMoved_whenDue _ _ (slotsMoved_expireExtension c) s).trans (slotsMoved_whenDue _ _ (slotsMoved_expireUsageAge c) _)

theorem slotsMoved_beginSecond (s : State) : SlotsMoved s (beginSecond s) := by
  refine ⟨rfl, fun i => ?_⟩
  have second : (beginSecond s).slot i = (s.slot i).second := by simp [beginSecond, State.slot]
  rw [second]
  exact .edited rfl rfl rfl

theorem slotsMoved_nextSecond (s : State) : SlotsMoved s (nextSecond s) :=
  (((slotsMoved_whenDue _ _ slotsMoved_expireLockout s).trans (slotsMoved_forSlots _ slotsMoved_flushSlot _)).trans
    (slotsMoved_forChildren _ slotsMoved_flushChild _)).trans (slotsMoved_beginSecond _)

/-- An expiry does its own act, at once or in the next second, or nothing (log 3). -/
theorem slotsMoved_expiry (due : State → Bool) (act : State → State) (h : ∀ s, SlotsMoved s (act s)) (s : State) :
    SlotsMoved s (expiry due act s) := by
  unfold expiry
  repeat' split
  · exact h s
  · exact .refl s
  · exact (slotsMoved_nextSecond s).trans (h _)
  · exact .refl s
  · exact .refl s

theorem slotsMoved_accountingTick (s : State) : SlotsMoved s (accountingTick s) := by
  have ticked : ∀ t, SlotsMoved t (startCommit (tickBody { t with vtu.tickDue := false })) := fun t => by
    refine SlotsMoved.trans (SlotsMoved.trans ?_ (slotsMoved_tickBody _)) (slotsMoved_startCommit _)
    exact .of_sdu rfl rfl
  simp only [accountingTick]
  split
  · split
    · exact ticked s
    · exact (slotsMoved_nextSecond s).trans (ticked _)
  · exact .refl s

theorem slotsMoved_continueCommit (s : State) : SlotsMoved s (continueCommit s) := by
  refine .of_sdu (pathKept_continueCommit s).wd ?_
  simp only [continueCommit]
  split <;> simp

theorem slotsMoved_completeWrite (s : State) : SlotsMoved s (completeWrite s) := by
  unfold completeWrite
  split <;> exact .of_sdu rfl rfl

theorem slotsMoved_failWrite (s : State) : SlotsMoved s (failWrite s) := by
  unfold failWrite
  split <;> exact .of_sdu rfl rfl

end Sys2Proof.Machine
end

section
/-! PROOFS. A change of the window table: the slots whose PICTURE count crosses zero are reported, every other slot stands,
and no record changes a locked table (R27, R28, R38, R106). -/

namespace Sys2Proof.Machine

/-! ### A change of the table -/

theorem mem_slotList : ∀ i, i ∈ slotList := by decide

/-- Where each application moves its own slot alone, applications for other slots leave a slot. -/
theorem foldl_slot_absent (f : Fin 4 → State → State) (apart : ∀ i j t, j ≠ i → (f i t).slot j = t.slot j)
    (l : List (Fin 4)) (s : State) (i : Fin 4) (absent : i ∉ l) : (l.foldl (fun t j => f j t) s).slot i = s.slot i := by
  induction l generalizing s with
  | nil => rfl
  | cons j rest ih =>
    rw [List.mem_cons, not_or] at absent
    exact (ih (f j s) absent.2).trans (apart j i s absent.1)

/-- Where each application moves its own slot alone, a slot is what its own application makes of the record it had. -/
theorem forSlots_slot (f : Fin 4 → State → State) (apart : ∀ i j t, j ≠ i → (f i t).slot j = t.slot j) (s : State)
    (i : Fin 4) : ∃ t, t.slot i = s.slot i ∧ (forSlots f s).slot i = (f i t).slot i := by
  obtain ⟨before, after, split⟩ := List.mem_iff_append.mp (mem_slotList i)
  have nodup : (before ++ i :: after).Nodup := split ▸ (by decide : slotList.Nodup)
  obtain ⟨-, rest, disjoint⟩ := List.nodup_append'.mp nodup
  have earlier : i ∉ before := fun h => disjoint h List.mem_cons_self
  refine ⟨before.foldl (fun t j => f j t) s, foldl_slot_absent f apart before s i earlier, ?_⟩
  rw [forSlots, split, List.foldl_append]
  exact foldl_slot_absent f apart after _ i (List.nodup_cons.mp rest).1

theorem applyPending_slot_other (i j : Fin 4) (s : State) (h : j ≠ i) : (applyPending i s).slot j = s.slot j := by
  unfold applyPending
  split
  · rfl
  · exact reevaluateAs_slot_other i j _ s h

theorem reportPicture_slot_other (i j : Fin 4) (b : Bool) (s : State) (h : j ≠ i) :
    (reportPicture i b s).slot j = s.slot j := by
  simp only [reportPicture]
  split
  · exact slot_setSlot_other s i j _ h
  · rw [applyPending_slot_other i j _ h, slot_setSlot_other _ i j _ h, slot_setSlot_other s i j _ h]

/-- WD's report sets the picture state, and the binding that may follow keeps it (R106). -/
theorem reportPicture_picture (i : Fin 4) (b : Bool) (s : State) : ((reportPicture i b s).slot i).picture = b := by
  simp only [reportPicture]
  split
  · simp
  · refine ((slotsMoved_applyPending i _).moves i).picture.trans ?_
    simp [released_picture]

/-- What a change of the table makes of a slot (R28, R106). -/
theorem changeWindows_slot (wd : WD) (s : State) (i : Fin 4) :
    ((s.wd.countOf .picture i = 0 ↔ wd.countOf .picture i = 0) → (changeWindows wd s).slot i = s.slot i)
      ∧ (¬ (s.wd.countOf .picture i = 0 ↔ wd.countOf .picture i = 0) →
          ((changeWindows wd s).slot i).picture = decide (wd.countOf .picture i ≠ 0)) := by
  obtain ⟨t, ht, e⟩ := forSlots_slot (fun i t =>
    if (s.wd.countOf .picture i = 0) ≠ (wd.countOf .picture i = 0) then
      reportPicture i (decide (wd.countOf .picture i ≠ 0)) t else t) (fun j k t h => by
    split
    · exact reportPicture_slot_other j k _ t h
    · rfl) { s with wd := wd } i
  rw [changeWindows, e]
  simp only [ne_eq, eq_iff_iff]
  constructor <;> intro h
  · rw [if_neg (not_not_intro h)]; exact ht
  · rw [if_pos h]; exact reportPicture_picture i _ t

/-! ### What every record holds to -/

/-- Every slot's picture state follows the window table (R28, R106). -/
def State.PicturesFollow (s : State) : Prop :=
  ∀ i, (s.slot i).picture = decide (s.wd.countOf .picture i ≠ 0)

/-- A locked table is kept whole, and picture states that follow the table go on doing so. -/
structure WindowsHeld (s t : State) : Prop where
  frozen : s.wd.locked = true → t.wd = s.wd
  follow : s.PicturesFollow → t.PicturesFollow

theorem WindowsHeld.trans {s t u : State} (a : WindowsHeld s t) (b : WindowsHeld t u) : WindowsHeld s u := by
  refine ⟨fun locked => ?_, fun h => b.follow (a.follow h)⟩
  have kept := a.frozen locked
  exact (b.frozen (kept ▸ locked)).trans kept

theorem SlotsMoved.held {s t : State} (h : SlotsMoved s t) : WindowsHeld s t :=
  ⟨fun _ => h.wd, fun follow i => by rw [(h.moves i).picture, h.wd]; exact follow i⟩

theorem windowsHeld_of_sdu {s t : State} (wd : t.wd = s.wd) (sdu : t.sdu = s.sdu) : WindowsHeld s t :=
  (SlotsMoved.of_sdu wd sdu).held

theorem WindowsHeld.refl (s : State) : WindowsHeld s s := windowsHeld_of_sdu rfl rfl

theorem windowsHeld_changeWindows (wd : WD) (s : State) (unlocked : s.wd.locked ≠ true) :
    WindowsHeld s (changeWindows wd s) := by
  refine ⟨fun locked => absurd locked unlocked, fun follow i => ?_⟩
  obtain ⟨stays, crosses⟩ := changeWindows_slot wd s i
  rw [(changeWindows_tables wd s).1]
  by_cases same : s.wd.countOf .picture i = 0 ↔ wd.countOf .picture i = 0
  · rw [stays same, follow i]
    simp [same]
  · exact crosses same

theorem windowsHeld_windowDefine (index kind : Byte) (base limit : BitVec 32) (slot guard : Byte) (x : TakeCtx)
    (s : State) : WindowsHeld s ((windowDefine index kind base limit slot guard).act x s).state := by
  simp only [windowDefine, Handler.free]
  split
  · exact .refl s
  split
  · exact .refl s
  split
  · exact .refl s
  next unlocked =>
    repeat' split
    all_goals simp only [refuse_state, accept_state, WindowsHeld.refl]
    exact windowsHeld_changeWindows _ s unlocked

theorem windowsHeld_windowRemove (index : Byte) (x : TakeCtx) (s : State) :
    WindowsHeld s ((windowRemove index).act x s).state := by
  simp only [windowRemove, Handler.free]
  split
  · exact .refl s
  split
  · exact .refl s
  next unlocked =>
    split
    · exact .refl s
    split
    · exact .refl s
    · exact windowsHeld_changeWindows _ s unlocked

/-- Locking a locked table changes nothing of it (R27). -/
theorem windowsHeld_windowLock (x : TakeCtx) (s : State) : WindowsHeld s (windowLock.act x s).state :=
  ⟨fun locked => by rw [show (windowLock.act x s).state.wd = { s.wd with locked := true } from rfl, ← locked],
    fun follow => follow⟩

theorem windowsHeld_fillTileWrite (half : Byte) (bytes : Vector Byte 32) (x : TakeCtx) (s : State) :
    WindowsHeld s ((fillTileWrite half bytes).act x s).state := by
  simp only [fillTileWrite, Handler.free]
  split
  · split
    · exact .refl s
    next unlocked => exact ⟨fun locked => absurd locked unlocked, fun follow => follow⟩
  · exact .refl s

/-- What every record command's own effect holds to: WINDOW_DEFINE, WINDOW_REMOVE, WINDOW_LOCK and FILL_TILE_WRITE alone
touch the table, and the other commands move slots. -/
theorem windowsHeld_handlerOf (i : Instr) (H : Handler) (h : handlerOf i = some H) (x : TakeCtx) (s : State) :
    WindowsHeld s (H.act x s).state := by
  cases i <;> simp only [handlerOf, Option.some.injEq, reduceCtorEq] at h <;> subst h
  case windowDefine => exact windowsHeld_windowDefine _ _ _ _ _ _ x s
  case windowRemove => exact windowsHeld_windowRemove _ x s
  case windowLock => exact windowsHeld_windowLock x s
  case fillTileWrite => exact windowsHeld_fillTileWrite _ _ x s
  all_goals refine SlotsMoved.held ?_
  case readEvent | ratingCheck | readProfile | readUsage | readSlot | readService | readCapture | readWindow =>
    simp only [readEvent, ratingCheck, readProfile, readUsage, readSlot, readService, readCapture, readWindow,
      Handler.free]
    repeat' split
    all_goals exact .refl s
  case attentionSet | attentionClear | captureClear | pinSet | settingsWrite | lanePermit | ingestBegin =>
    simp only [attentionSet, attentionClear, captureClear, pinSet, settingsWrite, lanePermit, ingestBegin, Handler.free,
      Handler.gated]
    repeat' split
    all_goals exact .of_sdu rfl rfl
  case eventNotice | eventWithdraw | serviceEventsClear | clockSet | ingestAbort =>
    simp only [eventNotice, eventWithdraw, serviceEventsClear, clockSet, ingestAbort, Handler.free]
    repeat' split
    all_goals simp only [accept_state, refuse_state, SlotsMoved.refl, slotsMoved_applyInsert, slotsMoved_withdraw,
      slotsMoved_reportEntries, slotsMoved_setClock, slotsMoved_endIngest]
  case slotTune | slotBind | slotUnlock | slotRelock =>
    simp only [slotTune, tuneSlot, slotBind, slotUnlock, unlockSlot, slotRelock, relockSlot, Handler.free,
      Handler.gated]
    repeat' split
    all_goals simp only [accept_state, refuse_state, SlotsMoved.refl, slotsMoved_bindSlot]
    all_goals exact slotsMoved_reevaluateAs _ _ s (.edited rfl rfl rfl)
  case profileWrite | profileCurfew | profileSuspend | profileResume | profileRemove =>
    simp only [profileWrite, profileCurfew, profileSuspend, profileResume, profileRemove, Handler.gated]
    repeat' split
    all_goals simp only [accept_state, refuse_state, SlotsMoved.refl, slotsMoved_storeProfile, slotsMoved_storeCurfews,
      slotsMoved_setSuspended, slotsMoved_dropProfile]
  case serviceWrite | serviceRemove | allowanceGrant | usageReset =>
    simp only [serviceWrite, serviceRemove, allowanceGrant, usageReset, Handler.gated]
    repeat' split
    all_goals simp only [accept_state, refuse_state, SlotsMoved.refl, slotsMoved_storeServices, slotsMoved_restoreUsage]

/-! ### The taking of records -/

theorem slotsMoved_setFailures (s : State) (n : Nat) : SlotsMoved s (s.setFailures n) := .of_sdu (by simp) (by simp)

theorem slotsMoved_failCompare (s : State) : SlotsMoved s (failCompare s) := by
  simp only [failCompare]
  split
  · exact .of_sdu (by simp) (by simp)
  · exact slotsMoved_setFailures s _

theorem windowsHeld_judgePin (H : Handler) (hH : ∀ x s, WindowsHeld s (H.act x s).state) (x : TakeCtx)
    (pin : Vector Byte 8) (s : State) : WindowsHeld s (judgePin H x pin s).state := by
  unfold judgePin
  split
  · split
    · exact .refl s
    · split
      · exact (slotsMoved_setFailures s 0).held.trans (hH _ _)
      · exact (slotsMoved_failCompare s).held
  · exact hH _ _

theorem windowsHeld_acceptRecord (i : Instr) (x : TakeCtx) (hd : Header) (s : State) :
    WindowsHeld s (acceptRecord (handlerOf i) x hd s).state := by
  unfold acceptRecord
  cases h : handlerOf i with
  | none => exact .refl s
  | some H =>
    simp only
    split
    · split
      · exact windowsHeld_judgePin H (windowsHeld_handlerOf i H h) x hd.pin s
      · exact .refl s
    · exact .refl s

theorem windowsHeld_takeRecord (i : Instr) (code : Byte) (hd : Header) (s : State) :
    WindowsHeld s (takeRecord (handlerOf i) code hd s) :=
  (windowsHeld_acceptRecord i (takeCtx hd s) hd s).trans
    (windowsHeld_of_sdu (by simp [takeRecord, advanceLane, replyTo]) (by simp [takeRecord, advanceLane, replyTo]))

theorem windowsHeld_takeOne (lane : Fin 4) (s : State) : WindowsHeld s (takeOne lane s) := by
  cases h : (s.lane lane).cur.closed with
  | false => rw [takeOne_open _ _ h]; exact .refl s
  | true =>
    obtain ⟨i, code, hd, -, e⟩ := takeOne_closed lane s h
    exact e ▸ windowsHeld_takeRecord i code hd s

theorem windowsHeld_takeHeld (lane : Fin 4) (s : State) : WindowsHeld s (takeHeld lane s) :=
  (windowsHeld_takeOne lane s).trans (windowsHeld_takeOne lane _)

theorem windowsHeld_foldl (f : Fin 4 → State → State) (hf : ∀ n s, WindowsHeld s (f n s)) (l : List (Fin 4))
    (s : State) : WindowsHeld s (l.foldl (fun t n => f n t) s) := by
  induction l generalizing s with
  | nil => exact .refl s
  | cons n l ih => exact (hf n s).trans (ih _)

theorem windowsHeld_takeAll (order : List (Fin 4)) (s : State) : WindowsHeld s (takeAll order s) :=
  (windowsHeld_foldl takeOne windowsHeld_takeOne order s).trans
    (windowsHeld_foldl takeHeld windowsHeld_takeHeld slotList _)

theorem windowsHeld_resumeTaking (s : State) : WindowsHeld s (resumeTaking s) := by
  unfold resumeTaking
  split
  · exact windowsHeld_takeAll _ s
  · exact .refl s

theorem slotsMoved_setLane (s : State) (n : Fin 4) (x : Lane) : SlotsMoved s (s.setLane n x) := .of_sdu rfl rfl

theorem windowsHeld_laneDelivery (lane : Fin 4) (ring : Fin 64) (d : Delivery) (s : State) :
    WindowsHeld s (laneDelivery lane ring d s) := by
  simp only [laneDelivery]
  split
  · split
    · exact (slotsMoved_setLane s lane _).held.trans (windowsHeld_takeHeld lane _)
    · exact (slotsMoved_setLane s lane _).held
  · split
    · exact (slotsMoved_setLane s lane _).held
    · split
      · exact windowsHeld_of_sdu (by simp) (by simp)
      · exact .refl s

theorem windowsHeld_presentRecord (i : Instr) (hd : Header) (code : Byte) (body : List Byte) (s : State) :
    WindowsHeld s (presentRecord (handlerOf i) hd code body s) := by
  simp only [presentRecord]
  split
  · split
    · split
      · exact ((slotsMoved_setLane s hd.lane _).held.trans (windowsHeld_takeRecord i code hd _)).trans
          (windowsHeld_takeOne hd.lane _)
      · exact (slotsMoved_setLane s hd.lane _).held
    · split
      · exact (slotsMoved_setLane s hd.lane _).held
      · exact .refl s
  · exact .refl s

end Sys2Proof.Machine
end

section
/-! PROOFS. What each step does to the window table and to the picture states: a part reset and its release empty both, a
factory clear that ends takes the slots afresh, and every other step holds to the table (R26 to R28, R106, R189). -/

namespace Sys2Proof.Machine

/-! ### The channel's commands and data beats -/

theorem windowsHeld_modeEffect (ba : BitVec 3) (a : BitVec 16) (s : State) : WindowsHeld s (modeEffect ba a s) := by
  have moved : WindowsHeld s (movedByMode ba a s) := windowsHeld_of_sdu rfl rfl
  rcases modeEffect_cases ba a s with ⟨-, e⟩ | ⟨-, -, e⟩ | ⟨-, -, e⟩ <;> rw [e]
  · exact windowsHeld_of_sdu rfl rfl
  · exact moved
  · exact moved.trans (windowsHeld_resumeTaking _)

theorem windowsHeld_present (l : Lines) (s : State) : WindowsHeld s (present l s) := by
  have driven : WindowsHeld s (driveLines l s) := windowsHeld_of_sdu rfl rfl
  cases h : s.decodes with
  | false =>
    rw [present_passed l s h]
    exact windowsHeld_of_sdu rfl rfl
  | true =>
    rw [present_decoded l s h]
    refine driven.trans ?_
    by_cases mode : l.group = .mode
    · rw [show commandEffect l (driveLines l s) = modeEffect l.ba l.a (driveLines l s) by simp [commandEffect, mode]]
      exact windowsHeld_modeEffect _ _ _
    · exact (slotsMoved_commandEffect l _ mode).held

theorem slotsMoved_lineReset (s : State) : SlotsMoved s (assertLine (if s.isReleased then resetChannel s else s)) := by
  split
  · exact (slotsMoved_resetChannel s).trans (.of_sdu rfl rfl)
  · exact .of_sdu rfl rfl

theorem BeatCase.windowsHeld {s t : State} (h : BeatCase s t) : WindowsHeld s t := by
  have moved : ∀ c, WindowsHeld s { s with ct := c } := fun c => windowsHeld_of_sdu rfl rfl
  cases h with
  | unlisted out => exact moved _
  | counted out index b c => exact moved _
  | finished out index => exact moved _
  | toLane out index _ _ lane ring d => exact (moved _).trans (windowsHeld_laneDelivery lane ring d _)
  | toIngest out index _ _ d => exact (moved _).trans (slotsMoved_ingestDelivery d _).held

theorem windowsHeld_endStartup (order : List (Fin 4)) (s : State) : WindowsHeld s (endStartup order s) := by
  have running : WindowsHeld s { s with phase := .running, vtu.tickDue := false } := windowsHeld_of_sdu rfl rfl
  simp only [endStartup]
  split
  · exact windowsHeld_of_sdu rfl rfl
  · exact running.trans (windowsHeld_takeAll order _)

/-! ### Slots taken afresh -/

theorem finishLoad_picture (s : State) (i : Fin 4) : ((finishLoad s).slot i).picture = false := by
  rw [finishLoad_slot]; rfl

theorem atReset_countOf (cb : Byte) (kind : WindowKind) (i : Fin 4) (h : kind = .picture ∨ kind = .audio) :
    (WD.atReset cb).countOf kind i = 0 := by
  rcases h with rfl | rfl <;> simp [WD.countOf, WD.valid, WD.atReset]

theorem inReset_picture (store : Store) (arr : Arrangement) (cb : Byte) (pins : Pins) (queue : List Instr) (i : Fin 4) :
    ((State.inReset store arr cb pins queue).slot i).picture = false := by
  simp [State.slot, State.inReset, Slot.atReset]

theorem release_picture (arr : Bool) (cb : Byte) (fclr : Bool) (s : State) (i : Fin 4) :
    ((release arr cb fclr s).slot i).picture = false := by
  cases fclr with
  | true =>
    rw [release_clear, slot_of_sdu _ _ (beginClear_frame (s.sampled arr cb)).sdu]
    simp [markAll, State.slot, State.sampled, State.inReset, Slot.atReset]
  | false => rw [release_load]; exact finishLoad_picture _ i

/-! ### The kinds of step -/

/-- What the run of command `i` does to the window table and the picture states. -/
inductive WindowsStep (i : Instr) (s t : State) : Prop
  /-- A locked table stands, and the picture states follow the table as before. -/
  | held (holds : WindowsHeld s t)
  /-- A factory clear ends: every slot is taken afresh, under the table as it was (R105, R190). -/
  | cleared (clearing : s.phase = .clearing) (wd : t.wd = s.wd) (pictures : ∀ k, (t.slot k).picture = false)
  /-- A part reset or its release: the strap windows and slots without picture windows (R26, R105). -/
  | emptied (input : i = .partReset ∨ ∃ arr cb fclr, i = .partResetRelease arr cb fclr)
      (wd : ∃ cb, t.wd = WD.atReset cb) (pictures : ∀ k, (t.slot k).picture = false)

theorem SlotsMoved.step {s t : State} (i : Instr) (h : SlotsMoved s t) : WindowsStep i s t := .held h.held

theorem windowsStep_afterWrite (i : Instr) {s t : State} (h : SlotsMoved s t) (phase : t.phase = s.phase) :
    WindowsStep i s (afterWrite t) := by
  unfold afterWrite
  split
  next clearing =>
    unfold continueClear
    split
    · exact (h.trans (.of_sdu (by simp) (by simp))).step i
    · obtain ⟨-, wd, -⟩ := finishLoad_path t
      exact .cleared (phase ▸ clearing) (wd.trans h.wd) (finishLoad_picture t)
  next => exact (h.trans (slotsMoved_continueCommit t)).step i

theorem windowsHeld_closeRecord (i : Instr) (s : State) : WindowsHeld s (closeRecord i (handlerOf i) s) := by
  unfold closeRecord
  split
  · exact windowsHeld_presentRecord i _ _ _ s
  · exact .refl s

theorem windowsStep_expiry (i : Instr) (due : State → Bool) (act : State → State) (h : ∀ s, SlotsMoved s (act s))
    (s : State) : WindowsStep i s (expiry due act s) := (slotsMoved_expiry due act h s).step i

/-- Every run of a command is one of the three. -/
theorem exec_windowsStep (i : Instr) (s : State) : ∃ t, exec i s = .next t ∧ WindowsStep i s t := by
  cases record : (handlerOf i).isSome with
  | true => exact ⟨_, exec_record i record s, .held (windowsHeld_closeRecord i s)⟩
  | false =>
    cases i
    case bankOpen | readBurst | writeBurst | bankClose | closeAll | refresh | modeLoad =>
      exact ⟨_, rfl, .held (windowsHeld_present _ s)⟩
    case restEntry | idleEntry => exact ⟨_, rfl, (slotsMoved_fallEnable _ s).step _⟩
    case restExit | idleExit => exact ⟨_, rfl, (slotsMoved_riseEnable s).step _⟩
    case channelReset => exact ⟨_, rfl, (slotsMoved_lineReset s).step _⟩
    case dataBeat => exact ⟨_, rfl, .held (passBeat_case _ _ _ _ s).windowsHeld⟩
    case unknownCommand hd code =>
      refine ⟨_, rfl, .held ?_⟩
      split
      · exact windowsHeld_closeRecord (.unknownCommand hd code) s
      · exact .refl s
    case lockoutExpiry => exact ⟨_, rfl, windowsStep_expiry _ _ _ slotsMoved_expireLockout s⟩
    case accountingTick => exact ⟨_, rfl, (slotsMoved_accountingTick s).step _⟩
    case extensionExpiry c => exact ⟨_, rfl, windowsStep_expiry _ _ _ (slotsMoved_expireExtension c) s⟩
    case boundaryExpiry n => exact ⟨_, rfl, windowsStep_expiry _ _ _ (slotsMoved_expireBoundary n) s⟩
    case holdExpiry n => exact ⟨_, rfl, windowsStep_expiry _ _ _ (slotsMoved_expireHold n) s⟩
    case unlockExpiry n => exact ⟨_, rfl, windowsStep_expiry _ _ _ (slotsMoved_expireUnlock n) s⟩
    case pendingCountdown n => exact ⟨_, rfl, windowsStep_expiry _ _ _ (slotsMoved_fallCountdown n) s⟩
    case countdownExpiry n => exact ⟨_, rfl, windowsStep_expiry _ _ _ (slotsMoved_applyPending n) s⟩
    case recordingLengthExpiry n => exact ⟨_, rfl, windowsStep_expiry _ _ _ (slotsMoved_expireLength n) s⟩
    case usageAgeExpiry c => exact ⟨_, rfl, windowsStep_expiry _ _ _ (slotsMoved_expireUsageAge c) s⟩
    case storeWriteComplete =>
      refine ⟨_, rfl, ?_⟩
      split
      · exact windowsStep_afterWrite _ (slotsMoved_completeWrite s) (by unfold completeWrite; split <;> rfl)
      · exact (SlotsMoved.refl s).step _
    case storeWriteFail =>
      refine ⟨_, rfl, ?_⟩
      split
      · exact windowsStep_afterWrite _ (slotsMoved_failWrite s) (by unfold failWrite; split <;> rfl)
      · exact (SlotsMoved.refl s).step _
    case partReset => exact ⟨_, rfl, .emptied (.inl rfl) ⟨_, rfl⟩ (inReset_picture _ _ _ _ _)⟩
    case partResetRelease arr cb fclr =>
      refine ⟨_, rfl, ?_⟩
      split
      · exact (SlotsMoved.refl s).step _
      · obtain ⟨-, wd, -⟩ := release_blocks arr cb fclr s
        exact .emptied (.inr ⟨arr, cb, fclr, rfl⟩) ⟨cb, wd⟩ (release_picture arr cb fclr s)
    case startupEnd order =>
      refine ⟨_, rfl, ?_⟩
      split
      · exact .held (windowsHeld_endStartup order s)
      · exact (SlotsMoved.refl s).step _
    case startupSecond =>
      refine ⟨_, rfl, SlotsMoved.step _ ?_⟩
      split <;> exact .of_sdu rfl rfl
    all_goals exact absurd record.symm Bool.false_ne_true

/-- Until start-up has ended no record is taken (R56). -/
theorem LaneCase.wd_of_starting {lane : Fin 4} {s t : State} (h : LaneCase lane s t) (starting : s.phase ≠ .running) :
    t.wd = s.wd := by
  cases h with
  | written x _ => rfl
  | taken x u _ running => exact absurd running starting
  | apart _ wd _ _ _ => exact wd

theorem BeatCase.wd_of_starting {s t : State} (h : BeatCase s t) (starting : s.phase ≠ .running) : t.wd = s.wd := by
  cases h with
  | unlisted out => rfl
  | counted out index b c => rfl
  | finished out index => rfl
  | toLane out index _ _ lane ring d =>
    exact (laneDelivery_case lane ring d (lastBeat out index s)).wd_of_starting starting
  | toIngest out index _ _ d => exact (ingestDelivery_keeps d _).2

theorem resumeTaking_starting (s : State) (starting : s.phase ≠ .running) : resumeTaking s = s := by
  simp [resumeTaking, State.isRunning, starting]

theorem lineReset_phase (s : State) : (assertLine (if s.isReleased then resetChannel s else s)).phase = s.phase := by
  split
  · rw [assertLine_phase, resetChannel_eq, (zeroFrames_blocks _).2.2.2.2, resetBeforeFrames_eq]
  · rfl

/-- Until start-up has ended the table stands as a part reset left it (R26). -/
theorem StepCase.wd_of_starting {s t : State} (h : StepCase s t) (starting : t.phase ≠ .running) :
    (s.phase ≠ .running ∧ t.wd = s.wd) ∨ ∃ cb, t.wd = WD.atReset cb := by
  have only : ∀ {u}, OnlyChannel s u → u.phase ≠ .running → s.phase ≠ .running ∧ u.wd = s.wd := fun kept starting =>
    ⟨kept.phase ▸ starting, kept.wd⟩
  cases h with
  | presented l =>
    refine .inl ?_
    rcases present_tables l s with ⟨u, kept, -, e⟩ | kept
    · rw [e, (resumeTaking_taking u).phase] at starting
      rw [e, resumeTaking_starting u starting]
      exact only kept starting
    · exact only kept starting
  | rose => exact .inl (only (riseEnable_only s) starting)
  | fell l => exact .inl (only (fallEnable_only l s) starting)
  | lineReset => exact .inl ⟨lineReset_phase s ▸ starting, (slotsMoved_lineReset s).wd⟩
  | beat dir index data mask =>
    have beat := passBeat_case dir index data mask s
    rw [beat.held.2] at starting
    exact .inl ⟨starting, beat.wd_of_starting starting⟩
  | record i hd code body =>
    rw [(presentRecord_keeps i hd code body s).2] at starting
    exact .inl ⟨starting, (presentRecord_case i hd code body s).wd_of_starting starting⟩
  | path t kept =>
    refine .inl ⟨?_, kept.wd⟩
    rcases kept.phase with same | ⟨clearing, -⟩
    · exact same ▸ starting
    · rw [clearing]; decide
  | reset => exact .inr ⟨_, rfl⟩
  | released arr cb fclr _ => exact .inr ⟨cb, (release_blocks arr cb fclr s).2.1⟩
  | started order _ => exact absurd (endStartup_keeps order s).2 starting

/-! ### The law of the picture states -/

theorem WindowsStep.picturesFollow {i : Instr} {s t : State} (h : WindowsStep i s t) (hs : s.PictureAgrees) :
    t.PicturesFollow := by
  cases h with
  | held holds => exact holds.follow fun k => (hs k).1
  | cleared clearing wd pictures =>
    intro k
    have none : s.wd.countOf .picture k = 0 := (hs k).2 (by rw [clearing]; decide)
    rw [pictures, wd, none]; rfl
  | emptied _ wd pictures =>
    intro k
    obtain ⟨cb, wd⟩ := wd
    rw [pictures, wd, atReset_countOf cb .picture k (.inl rfl)]; rfl

theorem StepCase.picturesNone {s t : State} (h : StepCase s t) (hs : s.PictureAgrees) (starting : t.phase ≠ .running)
    (k : Fin 4) : t.wd.countOf .picture k = 0 := by
  rcases h.wd_of_starting starting with ⟨before, wd⟩ | ⟨cb, wd⟩
  · rw [wd]; exact (hs k).2 before
  · rw [wd]; exact atReset_countOf cb .picture k (.inl rfl)

/-- The run of every command keeps the law of the picture states. -/
theorem runs_pictureAgrees {i : Instr} {s t : State} (hs : s.PictureAgrees) (h : Runs i s t) : t.PictureAgrees := by
  obtain ⟨u, hu, windows⟩ := exec_windowsStep i s
  obtain ⟨v, hv, kind⟩ := exec_stepCase i s
  obtain rfl : u = t := Host.Outcome.next.inj (hu.symm.trans h)
  obtain rfl : v = u := Host.Outcome.next.inj (hv.symm.trans h)
  exact fun k => ⟨windows.picturesFollow hs k, fun starting => kind.picturesNone hs starting k⟩

end Sys2Proof.Machine
end

section
open Sys2Proof Sys2Proof.Machine

/-- Settles O49, by what each command's run does to the window table and the picture states. -/
theorem pictureAgreesKept : Obligations.PictureAgreesKept := by
  intro s t hs h
  unfold step at h
  split at h
  · cases h; exact hs
  next c rest _ => exact runs_pictureAgrees (s := { s with pending := rest }) hs h

/-- Settles O60, by what each command's run does to a locked table. -/
theorem lockFreezes : Obligations.LockFreezes := by
  intro i s t notReset notRelease locked h
  obtain ⟨u, hu, windows⟩ := exec_windowsStep i s
  obtain rfl : u = t := Host.Outcome.next.inj (hu.symm.trans h)
  cases windows with
  | held holds => exact holds.frozen locked
  | cleared _ wd _ => exact wd
  | emptied input _ _ =>
    rcases input with reset | ⟨arr, cb, fclr, release⟩
    · exact absurd reset notReset
    · exact absurd release (notRelease arr cb fclr)

end

section
/-! PROOFS. The classification of a burst: what a READ and a WRITE are answered in and outside each kind of window, and the
frame start (R29 to R36). -/

namespace Sys2Proof.Machine

/-! ### A column command to an open bank with room -/

/-- WD's answer to a column command to a bank open on `row` (R15, R29). -/
def columnAnswer (dir : Dir) (ba : BitVec 3) (row a : BitVec 16) (s : State) : Classified :=
  classify dir (burstLength s.ct.form (burstSelect a)) (columnBlock s ba row a) ba row (columnOf a) s

theorem columnOpen_blocks (dir : Dir) (ba : BitVec 3) (row a : BitVec 16) (s : State)
    (room : s.ct.outstanding.length < 8) :
    (columnOpen dir ba row a s).sdu = (columnAnswer dir ba row a s).state.sdu
      ∧ (columnOpen dir ba row a s).au = (columnAnswer dir ba row a s).state.au := by
  have hasRoom : s.hasRoom = true := decide_eq_true room
  simp only [columnOpen, hasRoom, if_true]
  split <;> exact ⟨rfl, rfl⟩

/-- What a column command to an open bank with room ends in: WD's answer, asked with the command's lines driven, gives the
burst its treatment and leaves SDU and AU as they stand (R6, R15, R29). -/
theorem columnInstr_answered (dir : Dir) (ba : BitVec 3) (a row : BitVec 16) (s : State) (decodes : s.decodes = true)
    (opened : s.bank ba = some row) (room : s.ct.outstanding.length < 8) :
    ∃ l t, Runs (columnInstr dir ba a) s t
      ∧ t.ct.outstanding = s.ct.outstanding ++ [enteredBurst dir ba row a (driveLines l s)]
      ∧ t.sdu = (columnAnswer dir ba row a (driveLines l s)).state.sdu
      ∧ t.au = (columnAnswer dir ba row a (driveLines l s)).state.au := by
  have command : columnCommand dir ba a (driveLines (columnLines dir ba a) s)
      = columnOpen dir ba row a (driveLines (columnLines dir ba a) s) := by
    rw [columnCommand, driveLines_bank, opened]
  exact ⟨_, _, command ▸ runs_columnInstr dir ba a s decodes,
    columnOpen_outstanding dir ba row a (driveLines (columnLines dir ba a) s) room,
    columnOpen_blocks dir ba row a (driveLines (columnLines dir ba a) s) room⟩

/-! ### Writes (R29 to R34) -/

/-- The CONTROL window's offset is its lane's, its ring slot's and the place in the record (R30). -/
theorem stageTarget_offset (base block : Nat) : ∃ lane ring, stageTarget base block = .stageLane lane ring
    ∧ (block - base < 16384 → block - base = lane.val * 4096 + ring.val * 64 + (block - base) % 64) :=
  ⟨_, _, rfl, fun inside => by dsimp only; omega⟩

theorem guardTreatment_eq (s : State) (w : Window) : guardTreatment s w =
    if w.guard = true ∧ (s.slot w.slot).enforcement = .hiding then .mask else .pass := by
  simp [guardTreatment]

section
variable (block : Nat) (bank : BitVec 3) (row col : Nat) (s : State)

theorem classifyWrite_outside (h : s.wd.find block = none) :
    classifyWrite block bank row col s = { state := s, treatment := .pass, repl := [] } := by
  simp [classifyWrite, h]

theorem classifyWrite_control (w : Window) (h : s.wd.find block = some w) (kind : w.kind = .control) :
    classifyWrite block bank row col s = { state := s, treatment := stageTarget w.base block, repl := [] } := by
  simp [classifyWrite, h, kind]

theorem classifyWrite_reply (w : Window) (h : s.wd.find block = some w) (kind : w.kind = .reply) :
    classifyWrite block bank row col s =
      { state := s.report .replyWrite block bank row col, treatment := .mask, repl := [] } := by
  simp [classifyWrite, h, kind]

theorem classifyWrite_ingest (w : Window) (h : s.wd.find block = some w) (kind : w.kind = .ingest) :
    classifyWrite block bank row col s =
      { state := s, treatment := if s.prt.ingest.isSome then .stageIngest else .pass, repl := [] } := by
  simp [classifyWrite, h, kind]

theorem classifyWrite_guarded (w : Window) (h : s.wd.find block = some w)
    (kind : w.kind = .picture ∨ w.kind = .audio) :
    classifyWrite block bank row col s = { state := s, treatment := guardTreatment s w, repl := [] } := by
  rcases kind with kind | kind <;> simp [classifyWrite, h, kind]

/-- No write moves a slot. -/
theorem classifyWrite_sdu : (classifyWrite block bank row col s).state.sdu = s.sdu := by
  unfold classifyWrite
  split
  · rfl
  · split
    case h_2 => exact report_sdu s _ _ _ _ _
    all_goals rfl

end

/-! ### Reads (R29 to R36) -/

section
variable (block size : Nat) (s : State)

theorem classifyRead_outside (h : s.wd.find block = none) :
    classifyRead block size s = { state := s, treatment := .pass, repl := [] } := by
  simp [classifyRead, h]

theorem classifyRead_passed (w : Window) (h : s.wd.find block = some w) (kind : w.kind = .control ∨ w.kind = .ingest) :
    classifyRead block size s = { state := s, treatment := .pass, repl := [] } := by
  rcases kind with kind | kind <;> simp [classifyRead, h, kind]

theorem classifyRead_reply (w : Window) (h : s.wd.find block = some w) (kind : w.kind = .reply) :
    classifyRead block size s =
      { state := s, treatment := .reply, repl := replyBlock s (block - w.base) size } := by
  simp [classifyRead, h, kind]

theorem classifyRead_audio (w : Window) (h : s.wd.find block = some w) (kind : w.kind = .audio) :
    classifyRead block size s = if (s.slot w.slot).enforcement = .hiding then
      { state := s, treatment := .zeros, repl := List.replicate size 0 }
      else { state := s, treatment := .pass, repl := [] } := by
  simp only [classifyRead, h, kind]
  cases (s.slot w.slot).enforcement <;> rfl

theorem classifyRead_picture (w : Window) (h : s.wd.find block = some w) (kind : w.kind = .picture) :
    classifyRead block size s = classifyPictureRead w block size s := by
  simp [classifyRead, h, kind]

/-- Away from the base block a PICTURE window is read as the enforcement stands (R33). -/
theorem classifyPictureRead_away (w : Window) (away : block ≠ w.base) :
    classifyPictureRead w block size s = if (s.slot w.slot).enforcement = .hiding then
      { state := s, treatment := .fill, repl := tileBytes s.wd block size }
      else { state := s, treatment := .pass, repl := [] } := by
  simp only [classifyPictureRead, if_neg away]
  cases (s.slot w.slot).enforcement <;> rfl

/-- A READ that is no frame start changes nothing. -/
theorem classifyRead_state (h : ∀ w, s.wd.find block = some w → w.kind = .picture → block ≠ w.base) :
    (classifyRead block size s).state = s := by
  cases found : s.wd.find block with
  | none => rw [classifyRead_outside block size s found]
  | some w =>
    cases kind : w.kind with
    | control => rw [classifyRead_passed block size s w found (.inl kind)]
    | ingest => rw [classifyRead_passed block size s w found (.inr kind)]
    | reply => rw [classifyRead_reply block size s w found kind]
    | audio => rw [classifyRead_audio block size s w found kind]; split <;> rfl
    | picture =>
      rw [classifyRead_picture block size s w found kind, classifyPictureRead_away block size s w (h w found kind)]
      split <;> rfl

end

/-! ### Frame starts (R36, R111, R127) -/

theorem setSlot_self (s : State) (i : Fin 4) : s.setSlot i (s.slot i) = s := by
  simp [State.setSlot, State.slot]

theorem takeFrameStart_slot_other (i j : Fin 4) (s : State) (h : j ≠ i) : (takeFrameStart i s).slot j = s.slot j := by
  rw [takeFrameStart, applyPending_slot_other i j _ h, slot_setSlot_other s i j _ h]

theorem countFrame_slot (i : Fin 4) (s : State) :
    (countFrame i s).slot i = { s.slot i with frames := min 255 ((s.slot i).frames + 1) } := slot_setSlot_same s i _

theorem released_pending (x : Slot) : x.released.pending = x.pending := by
  unfold Slot.released
  split <;> rfl

theorem released_frames (x : Slot) : x.released.frames = x.frames := by
  unfold Slot.released
  split <;> rfl

/-- With no pending profile a frame start only ends RELEASING (R111). -/
theorem takeFrameStart_idle (i : Fin 4) (s : State) (idle : (s.slot i).pending = none) :
    takeFrameStart i s = s.setSlot i (s.slot i).released := by
  simp [takeFrameStart, applyPending, released_pending, idle]

theorem released_hiding (x : Slot) (h : x.enforcement = .hiding) : x.released = x := by
  simp [Slot.released, h]

theorem released_shown (x : Slot) (h : x.enforcement ≠ .hiding) : x.released = { x with enforcement := .showing } := by
  cases x with
  | mk item bound pending picture current boundary hold unlock decision enforcement =>
    cases enforcement
    · rfl
    · exact absurd rfl h
    · rfl

/-- A frame start binds the pending profile and clears the unlock, and re-evaluates the slot under it (R127). -/
theorem takeFrameStart_bound (i : Fin 4) (s : State) (p : Pending) (waiting : (s.slot i).pending = some p) :
    ((takeFrameStart i s).slot i).bound = p.profile ∧ ((takeFrameStart i s).slot i).pending = none
      ∧ ((takeFrameStart i s).slot i).unlock = none ∧ ((takeFrameStart i s).slot i).frames = (s.slot i).frames
      ∧ (((takeFrameStart i s).slot i).enforcement = .hiding
          ↔ ((takeFrameStart i s).slot i).decision.permits = false) := by
  have slot : (takeFrameStart i s).slot i = reevaluated (s.setSlot i (s.slot i).released)
      ((s.slot i).released.withBound p.profile) := by
    simp [takeFrameStart, applyPending, released_pending, waiting]
  rw [slot]
  refine ⟨rfl, rfl, rfl, released_frames _, ?_⟩
  rw [reevaluated_enforcement]
  exact nextEnforcement_hiding _ _ _

/-- A slot record after its frame start has been counted, which it is while SHOWING (R36 stage 3). -/
def Slot.counted (x : Slot) : Slot :=
  { x with frames := if x.enforcement = .showing then min 255 (x.frames + 1) else x.frames }

theorem counted_of_showing (x : Slot) (h : x.enforcement = .showing) :
    x.counted = { x with frames := min 255 (x.frames + 1) } := by
  simp only [Slot.counted, if_pos h]

theorem counted_of_not_showing (x : Slot) (h : x.enforcement ≠ .showing) : x.counted = x := by
  simp only [Slot.counted, if_neg h]

/-- What a READ of the base block is answered, by the enforcement its frame start leaves (R33, R36). -/
structure FrameStarted (w : Window) (block size : Nat) (s : State) (c : Classified) : Prop where
  treatment : c.treatment = .fill ↔ ((takeFrameStart w.slot s).slot w.slot).enforcement = .hiding
  shown : ((takeFrameStart w.slot s).slot w.slot).enforcement ≠ .hiding → c.treatment = .pass
  filled : ((takeFrameStart w.slot s).slot w.slot).enforcement = .hiding →
    c.state = takeFrameStart w.slot s ∧ c.repl = tileBytes s.wd block size
  slot : c.state.slot w.slot = ((takeFrameStart w.slot s).slot w.slot).counted
  others : OtherSlotsKept s c.state w.slot
  slots : OnlySlots s c.state

theorem classifyPictureRead_base (w : Window) (block size : Nat) (s : State) (base : block = w.base) :
    FrameStarted w block size s (classifyPictureRead w block size s) := by
  have frame := onlySlots_takeFrameStart w.slot s
  have others : OtherSlotsKept s (takeFrameStart w.slot s) w.slot := fun j h => takeFrameStart_slot_other w.slot j s h
  simp only [classifyPictureRead, if_pos base]
  split
  next shown =>
    refine ⟨by simp [shown], fun _ => rfl, fun h => by simp [shown] at h, ?_, fun j h => ?_,
      frame.trans (onlySlots_setSlot _ _ _)⟩
    · rw [counted_of_showing _ shown]; exact countFrame_slot _ _
    · exact (slot_setSlot_other _ w.slot j _ h).trans (others j h)
  next shown =>
    exact ⟨by simp [shown], fun _ => rfl, fun h => by simp [shown] at h,
      (counted_of_not_showing _ (by simp [shown])).symm, others, frame⟩
  next hides =>
    exact ⟨by simp [hides], fun h => absurd hides h, fun _ => ⟨rfl, by rw [frame.wd]⟩,
      (counted_of_not_showing _ (by simp [hides])).symm, others, frame⟩

end Sys2Proof.Machine
end

section
open Sys2Proof Sys2Proof.Machine

/-- Settles O9, by the window the block lies in. -/
theorem writeTreatments : Obligations.WriteTreatments := by
  intro s ba a row decodes opened room
  obtain ⟨l, t, runs, outstanding, sdu, au⟩ := columnInstr_answered .write ba a row s decodes opened room
  refine ⟨t, _, runs, outstanding, sdu.trans (classifyWrite_sdu _ _ _ _ _), fun outside => ?_, fun w found =>
    ⟨fun kind => ?_, fun kind => ?_, fun kind => ?_, fun kind => ?_⟩⟩
  · have answer := classifyWrite_outside (columnBlock s ba row a) ba row.toNat (columnOf a) (driveLines l s) outside
    exact ⟨congrArg Classified.treatment answer, au.trans (congrArg (fun c => c.state.au) answer)⟩
  · have answer := classifyWrite_control _ ba row.toNat (columnOf a) (driveLines l s) w found kind
    obtain ⟨lane, ring, target, offset⟩ := stageTarget_offset w.base (columnBlock s ba row a)
    exact ⟨au.trans (congrArg (fun c => c.state.au) answer), lane, ring,
      (congrArg Classified.treatment answer).trans target, offset⟩
  · have answer := classifyWrite_reply _ ba row.toNat (columnOf a) (driveLines l s) w found kind
    exact ⟨congrArg Classified.treatment answer, (report_reported (driveLines l s) .replyWrite _ ba _ _).congr rfl
      (au.trans (congrArg (fun c => c.state.au) answer))⟩
  · have answer := classifyWrite_ingest _ ba row.toNat (columnOf a) (driveLines l s) w found kind
    exact ⟨au.trans (congrArg (fun c => c.state.au) answer), congrArg Classified.treatment answer⟩
  · have answer := classifyWrite_guarded _ ba row.toNat (columnOf a) (driveLines l s) w found kind
    exact ⟨au.trans (congrArg (fun c => c.state.au) answer),
      (congrArg Classified.treatment answer).trans (guardTreatment_eq _ w)⟩

/-- Settles O10, by the enforcement that the frame start leaves. -/
theorem frameStartRules : Obligations.FrameStartRules := by
  intro s ba a row w decodes opened room found kind base
  obtain ⟨l, t, runs, outstanding, sdu, au⟩ := columnInstr_answered .read ba a row s decodes opened room
  have started : FrameStarted w (columnBlock s ba row a) (burstLength s.ct.form (burstSelect a) * 4) (driveLines l s)
      (columnAnswer .read ba row a (driveLines l s)) := by
    rw [show columnAnswer .read ba row a (driveLines l s) = _ from classifyRead_picture (columnBlock s ba row a)
      (burstLength s.ct.form (burstSelect a) * 4) (driveLines l s) w found kind]
    exact classifyPictureRead_base w _ _ (driveLines l s) base
  have slots : ∀ j, t.slot j = (columnAnswer .read ba row a (driveLines l s)).state.slot j := slot_of_sdu _ t sdu
  have only := started.slots
  refine ⟨t, _, runs, outstanding, fun j h => (slots j).trans (started.others j h),
    ⟨au ▸ only.enable, au ▸ only.warned, au ▸ only.capture⟩,
    by rw [RaisedAtMostDecision, au]; exact only.status, fun idle => ?_, fun p waiting => ?_⟩
  · have frame := takeFrameStart_idle w.slot (driveLines l s) idle
    have slot : (takeFrameStart w.slot (driveLines l s)).slot w.slot = (s.slot w.slot).released := by
      rw [frame]; exact slot_setSlot_same _ _ _
    refine ⟨fun shown => ?_, fun hidden => ?_⟩
    · rw [released_shown _ shown] at slot
      refine ⟨started.shown (by simp [slot]), (slots _).trans (started.slot.trans ?_)⟩
      rw [slot]; exact counted_of_showing _ rfl
    · rw [released_hiding _ hidden] at slot
      have hides : ((takeFrameStart w.slot (driveLines l s)).slot w.slot).enforcement = .hiding := by rw [slot, hidden]
      obtain ⟨state, repl⟩ := started.filled hides
      refine ⟨started.treatment.mpr hides, repl, sdu.trans ((congrArg State.sdu state).trans ?_)⟩
      rw [frame, show ((driveLines l s).slot w.slot).released = (driveLines l s).slot w.slot from
        released_hiding _ hidden, setSlot_self]
      rfl
  · obtain ⟨bound, pending, unlock, frames, follows⟩ := takeFrameStart_bound w.slot (driveLines l s) p waiting
    rw [slots, started.slot]
    refine ⟨bound, pending, unlock, follows, started.treatment, ?_⟩
    rw [show (s.slot w.slot).frames = _ from frames.symm]
    rfl

end

section
/-! PROOFS. What a taken record's answer leaves of its owner's state, and the PLATFORM commands (R27, R28, R38, R49, R180 to
R182). -/

namespace Sys2Proof.Machine

/-! ### After the owner has acted -/

/-- Between `r`, as a record's owner left it, and `t` the reply was posted, the lane moved on and a commit may have started:
nothing else changed (R44, R49, R186). -/
structure Posted (r t : State) : Prop extends TrafficKept r t, QuietAttention r t, SettingsKept r t where
  pss : t.pss = r.pss
  sdu : t.sdu = r.sdu
  vtu : t.vtu = r.vtu
  status : RaisedReply r t false
  classes : ClassesKept r t
  sc : r.Settled → t.sc = r.sc

theorem classes_advanceLane (n m : Fin 4) (s : State) : ((advanceLane n s).lane m).classes = (s.lane m).classes := by
  by_cases e : m = n
  · subst e; rw [advanceLane_lane]; rfl
  · rw [advanceLane_otherLane n m s e]

theorem classes_postReply (s : State) (n m : Fin 4) (tag : BitVec 16) (code out : Byte) (adj : Bool) (ring : Fin 64)
    (p : List Byte) : ((s.postReply n tag code out adj ring p).lane m).classes = (s.lane m).classes := by
  by_cases e : m = n
  · subst e; rw [postReply_lane]
  · rw [postReply_otherLane s n m tag code out adj ring p e]

theorem posted_reply (hd : Header) (code : Byte) (ring : Fin 64) (r : Taken) :
    Posted r.state (startCommit (advanceLane hd.lane (replyTo hd code ring r))) := by
  refine ⟨⟨by simp [advanceLane, replyTo], by simp [advanceLane, replyTo], by simp [advanceLane, replyTo]⟩,
    ⟨?_, ?_, ?_⟩, ⟨by simp [advanceLane, replyTo], by simp [advanceLane, replyTo]⟩, by simp [advanceLane, replyTo],
    by simp [advanceLane, replyTo], by simp [advanceLane, replyTo], ?_, fun n => ?_, fun settled => ?_⟩
  · rw [startCommit_au]; rfl
  · rw [startCommit_au]; rfl
  · rw [startCommit_au]; rfl
  · simp [RaisedReply, advanceLane, replyTo]
  · rw [lane_of_lc _ _ (startCommit_lc _), classes_advanceLane, replyTo, classes_postReply]
  · rw [startCommit_of_settled (advanceLane hd.lane (replyTo hd code ring r)) settled]
    rfl

theorem presentRecord_posted (i : Instr) (hd : Header) (code : Byte) (body : List Byte) (s : State)
    (hl : Listening s hd) :
    Posted (s.judged (handlerOf i) hd code body).state (presentRecord (handlerOf i) hd code body s) := by
  rw [presentRecord_listening i hd code body s hl]
  exact posted_reply hd code _ _

theorem classes_closedIn (s : State) (hd : Header) (code : Byte) (body : List Byte) :
    ClassesKept s (s.closedIn hd code body) := by
  intro n
  by_cases e : n = hd.lane
  · subst e; rw [closedIn_lane]
  · rw [State.closedIn, lane_setLane_other s hd.lane n _ e]

/-- A record command closes its record in its lane (log 5). -/
theorem runs_record (i : Instr) (H : Handler) (hd : Header) (code : Byte) (body : List Byte) (s : State)
    (parts : recordParts i = some (hd, code, body)) (handler : handlerOf i = some H) :
    Runs i s (presentRecord (handlerOf i) hd code body s) := by
  rw [Runs, exec_record i (by rw [handler]; rfl) s, closeRecord, parts]

/-- A ready record that needs no PIN and whose owner leaves the lanes alone: it is answered with what its owner gave, and
what its owner left stands (R44, R47, R49). -/
theorem free_answered (i : Instr) (cls : CmdClass) (length : Nat) (act : TakeCtx → State → Taken) (hd : Header)
    (code : Byte) (body : List Byte) (s : State) (r : Taken) (parts : recordParts i = some (hd, code, body))
    (handler : handlerOf i = some (.free cls length act)) (ready : Ready s hd cls length)
    (acts : ∀ x, act x (s.closedIn hd code body) = r) (lc : r.state.lc = (s.closedIn hd code body).lc) :
    ∃ t, Runs i s t ∧ Answered s t hd code r.code.code (decide (r.code = .adjusted)) r.payload ∧ Posted r.state t := by
  have judged : s.judged (handlerOf i) hd code body = r :=
    (judged_free i _ hd code body s handler ready rfl).trans (acts _)
  have answered := presentRecord_answered i hd code body s ready.toListening
  have posted := presentRecord_posted i hd code body s ready.toListening
  rw [judged] at answered posted
  exact ⟨_, runs_record i _ hd code body s parts handler, answered lc, posted⟩

/-! ### A new window table -/

theorem onlySlots_changeWindows (wd : WD) (s : State) : OnlySlots { s with wd := wd } (changeWindows wd s) := by
  refine forSlots_induct (P := OnlySlots { s with wd := wd }) _ (fun i t h => ?_) _ (.refl _)
  split
  · exact h.trans (onlySlots_reportPicture _ _ _)
  · exact h

/-- A ready PLATFORM record whose owner accepts it and changes the window table: the table, the reply, the slots whose
PICTURE count crosses zero, and nothing else (R28, R106, R180, R181). -/
theorem tableCommand (i : Instr) (length : Nat) (act : TakeCtx → State → Taken) (hd : Header) (code : Byte)
    (body : List Byte) (s : State) (wd : WD) (payload : List Byte) (parts : recordParts i = some (hd, code, body))
    (handler : handlerOf i = some (.free .platform length act)) (ready : Ready s hd .platform length)
    (acts : ∀ x, act x (s.closedIn hd code body)
      = accept (changeWindows wd (s.closedIn hd code body)) false payload) :
    ∃ t, Runs i s t ∧ t.wd = wd ∧ (t.lane hd.lane).ring[nextIndex s hd.lane] = replyEntry s hd code 0 false payload
      ∧ (∀ k, ((s.wd.countOf .picture k = 0 ↔ wd.countOf .picture k = 0) → t.slot k = s.slot k)
          ∧ (¬ (s.wd.countOf .picture k = 0 ↔ wd.countOf .picture k = 0) →
            (t.slot k).picture = decide (wd.countOf .picture k ≠ 0)))
      ∧ t.ct = s.ct ∧ t.prt = s.prt ∧ t.pss = s.pss ∧ t.vtu = s.vtu ∧ QuietAttention s t ∧ ClassesKept s t
      ∧ (s.Settled → t.sc = s.sc) := by
  have only := onlySlots_changeWindows wd (s.closedIn hd code body)
  obtain ⟨t, runs, answered, posted⟩ := free_answered i _ _ act hd code body s _ parts handler ready acts only.lc
  refine ⟨t, runs, posted.wd.trans only.wd, answered.entry, fun k => ?_, posted.ct.trans only.ct,
    posted.prt.trans only.prt, posted.pss.trans only.pss, posted.vtu.trans only.vtu,
    ⟨posted.enable.trans only.enable, posted.warned.trans only.warned, posted.capture.trans only.capture⟩,
    fun n => ?_, fun settled => ?_⟩
  · rw [slot_of_sdu _ _ posted.sdu k]
    exact changeWindows_slot wd (s.closedIn hd code body) k
  · exact ((posted.classes n).trans (congrArg Lane.classes (lane_of_lc _ _ only.lc n))).trans
      (classes_closedIn s hd code body n)
  · have sc : (changeWindows wd (s.closedIn hd code body)).sc = s.sc := only.sc
    refine (posted.sc ?_).trans sc
    rw [accept_state, State.Settled, sc]
    exact settled

/-! ### WINDOW_DEFINE's and WINDOW_REMOVE's checks -/

theorem overlapIndex_none_of (wd : WD) (k : Fin 16) (w : Window)
    (apart : ∀ j : Fin 16, j ≠ k → ∀ v ∈ wd.windows[j], v.intersects w = false) : overlapIndex wd k w = none := by
  refine List.find?_eq_none.mpr fun j _ => ?_
  by_cases e : j = k
  · simp [e]
  · cases held : wd.windows[j] with
    | none => simp
    | some v => simp [apart j e v held]

/-- With no INGEST window outside entry `k` the table without it has none. -/
theorem ingestWindow_none_of (wd : WD) (k : Fin 16)
    (single : ∀ j : Fin 16, j ≠ k → ∀ v ∈ wd.windows[j], v.kind ≠ .ingest) :
    (wd.setWindow k none).ingestWindow = none := by
  have index : (wd.setWindow k none).ingestIndex = none := by
    refine List.find?_eq_none.mpr fun j _ => ?_
    by_cases e : j = k
    · subst e; rw [setWindow_same]; simp
    · rw [setWindow_other wd k j none e]
      cases held : wd.windows[j] with
      | none => simp
      | some v => simp [single j e v held]
  rw [ingestWindow_eq, index]; rfl

theorem tableFullFor_false (wd : WD) (k : Fin 16) (w : Window)
    (single : w.kind = .ingest → ∀ j : Fin 16, j ≠ k → ∀ v ∈ wd.windows[j], v.kind ≠ .ingest)
    (pictures : w.kind = .picture → (wd.setWindow k none).countOf .picture w.slot < 4)
    (audios : w.kind = .audio → (wd.setWindow k none).countOf .audio w.slot < 2) : tableFullFor wd k w = false := by
  cases kind : w.kind with
  | control => simp [tableFullFor, kind]
  | reply => simp [tableFullFor, kind]
  | ingest => simp [tableFullFor, kind, ingestWindow_none_of wd k (single kind)]
  | picture => simpa [tableFullFor, kind] using pictures kind
  | audio => simpa [tableFullFor, kind] using audios kind

/-- WINDOW_DEFINE with nothing against it (R180). -/
theorem windowDefine_acts (index kind : Byte) (base limit : BitVec 32) (slot guard : Byte) (k : Fin 16) (w : Window)
    (x : TakeCtx) (s : State) (entry : definableIndex index = some k)
    (fields : windowFields kind base limit slot guard = .ok w) (unlocked : s.wd.locked = false)
    (idle : s.prt.ingest = none) (apart : overlapIndex s.wd k w = none) (room : tableFullFor s.wd k w = false) :
    (windowDefine index kind base limit slot guard).act x s = accept (changeWindows (s.wd.setWindow k (some w)) s) false
      (definePayload s.wd (s.wd.setWindow k (some w)) k w) := by
  simp [windowDefine, Handler.free, entry, fields, unlocked, defineBusy, idle, apart, room]

/-- WINDOW_REMOVE with nothing against it (R181). -/
theorem windowRemove_acts (index : Byte) (k : Fin 16) (w : Window) (x : TakeCtx) (s : State)
    (entry : definableIndex index = some k) (unlocked : s.wd.locked = false) (idle : s.prt.ingest = none)
    (held : s.wd.windows[k] = some w) :
    (windowRemove index).act x s = accept (changeWindows (s.wd.setWindow k none) s) false
      ([w.kind.code] ++ num32 w.base ++ num32 w.limit ++ num8 (if w.kind.hasSlot then w.slot.val else 0)) := by
  simp only [windowRemove, Handler.free, entry, unlocked, idle, Option.isSome_none, Bool.false_and, Bool.false_eq_true,
    if_false, held]

/-- FILL_TILE_WRITE of an unlocked table (R38, R182). -/
theorem fillTileWrite_acts (half : Byte) (bytes : Vector Byte 32) (k : Fin 2) (x : TakeCtx) (s : State)
    (place : half.toNat = k.val) (unlocked : s.wd.locked = false) :
    (fillTileWrite half bytes).act x s
      = accept { s with wd.tile := putAt s.wd.tile k bytes } false (num8 k.val) := by
  have inside : half.toNat < 2 := by omega
  have same : (⟨half.toNat, inside⟩ : Fin 2) = k := Fin.ext place
  simp only [fillTileWrite, Handler.free, dif_pos inside, unlocked, Bool.false_eq_true, if_false, same]
  rw [place]

/-- What an accepted PLATFORM record whose owner sets the lock or the tile leaves (R27, R38). -/
theorem platform_sets (i : Instr) (length : Nat) (act : TakeCtx → State → Taken) (hd : Header) (code : Byte)
    (body : List Byte) (s : State) (wd : WD) (payload : List Byte) (parts : recordParts i = some (hd, code, body))
    (handler : handlerOf i = some (.free .platform length act)) (ready : Ready s hd .platform length)
    (acts : ∀ x, act x (s.closedIn hd code body) = accept { s.closedIn hd code body with wd := wd } false payload) :
    ∃ t, Runs i s t ∧ Answered s t hd code 0 false payload ∧ t.wd = wd ∧ t.ct = s.ct ∧ t.prt = s.prt ∧ t.pss = s.pss
      ∧ t.sdu = s.sdu ∧ t.vtu = s.vtu ∧ QuietAttention s t ∧ RaisedReply s t false ∧ ClassesKept s t
      ∧ (s.Settled → t.sc = s.sc) := by
  obtain ⟨t, runs, answered, posted⟩ := free_answered i _ _ act hd code body s _ parts handler ready acts rfl
  exact ⟨t, runs, answered, posted.wd, posted.ct, posted.prt, posted.pss, posted.sdu, posted.vtu,
    ⟨posted.enable, posted.warned, posted.capture⟩, posted.status,
    fun n => (posted.classes n).trans (classes_closedIn s hd code body n), posted.sc⟩

end Sys2Proof.Machine
end

section
open Sys2Proof Sys2Proof.Machine

/-- Settles O39, by what each PLATFORM command's owner makes of the record. -/
theorem windowCommands : Obligations.WindowCommands := by
  intro s h
  refine ⟨fun index kind base limit slot guard k w ready entry fields unlocked idle apart single pictures audios => ?_,
    fun index k w ready entry unlocked idle held => ?_, fun ready => ?_, fun half bytes k ready place unlocked => ?_⟩
  · obtain ⟨t, runs, wd, reply, slots, rest⟩ := tableCommand (.windowDefine h index kind base limit slot guard) 12 _ h
      0x70 _ s (s.wd.setWindow k (some w)) _ rfl rfl ready fun x =>
        windowDefine_acts index kind base limit slot guard k w x (s.closedIn h 0x70 _) entry fields unlocked idle
          (overlapIndex_none_of s.wd k w apart) (tableFullFor_false s.wd k w single pictures audios)
    exact ⟨t, runs, wd, wd ▸ reply, wd ▸ slots, rest⟩
  · obtain ⟨t, runs, wd, reply, slots, rest⟩ := tableCommand (.windowRemove h index) 1 _ h 0x71 _ s
      (s.wd.setWindow k none) _ rfl rfl ready fun x =>
        windowRemove_acts index k w x (s.closedIn h 0x71 _) entry unlocked idle held
    exact ⟨t, runs, wd, reply, wd ▸ slots, rest⟩
  · exact platform_sets (.windowLock h) 0 _ h 0x72 _ s _ _ rfl rfl ready fun _ => rfl
  · exact platform_sets (.fillTileWrite h half bytes) 33 _ h 0x73 _ s _ _ rfl rfl ready fun x =>
      fillTileWrite_acts half bytes k x (s.closedIn h 0x73 _) place unlocked

end

section
/-! PROOFS. The standing laws of the state at reset (R25, R61, R110, R132, R186; log 1). -/

namespace Sys2Proof.Machine

theorem reset_slot (i : Fin 4) : State.reset.slot i = Slot.atReset 0 := by
  simp [State.slot, State.reset, State.inReset]

theorem reset_usage (c : Fin 7) : State.reset.usage c = .zero := by
  simp [State.usage, State.reset, State.inReset, VTU.atReset]

theorem reset_child (c : Fin 7) : State.reset.child c = .invalid := by
  simp [State.child, State.reset, State.inReset, PSS.factory]

theorem reset_enforcementAgrees : State.reset.EnforcementAgrees := by
  intro i
  rw [reset_slot]
  decide

theorem reset_pictureAgrees : State.reset.PictureAgrees := by
  intro i
  have none : State.reset.wd.countOf .picture i = 0 := atReset_countOf 0 .picture i (.inl rfl)
  rw [reset_slot, none]
  exact ⟨rfl, fun _ => rfl⟩

theorem reset_timeOutHides : State.reset.TimeOutHides := by
  intro i c _ _ presents
  rw [reset_slot] at presents
  exact absurd rfl presents

theorem reset_usageLawful : State.reset.UsageLawful := by
  intro c
  rw [reset_usage, reset_child]
  decide

theorem reset_lockoutLawful : State.reset.LockoutLawful :=
  ⟨Nat.zero_le _, fun _ running => (Option.not_mem_none _ running).elim, fun due => absurd due Bool.false_ne_true⟩

theorem reset_laneZeroWhole : State.reset.LaneZeroWhole := by
  simp [State.LaneZeroWhole, State.lane, State.reset, State.inReset, Lane.atReset, defaultClasses]

theorem reset_settled : State.reset.Settled := by
  intro _ r
  simp [State.reset, State.inReset, SC.atReset]

end Sys2Proof.Machine
end

section
open Sys2Proof Sys2Proof.Machine

/-- Settles O2, law by law: at reset nothing is presented, bound, held, dirty, locked out or outstanding. -/
theorem resetIsLawful : Obligations.ResetIsLawful := by
  have noEntries : TableLawful State.reset.prt.entries := ⟨Nat.zero_le _, by simp [State.reset, State.inReset, PRT.atReset],
    .nil, .nil⟩
  have noServices : ServicesLawful State.reset.pss.services := ⟨Nat.zero_le _, .nil,
    by simp [State.reset, State.inReset, PSS.factory]⟩
  have noBursts : State.reset.ct.outstanding = [] := rfl
  have asserted : State.reset.phase ≠ .running := by decide
  exact ⟨reset_enforcementAgrees, reset_pictureAgrees, reset_timeOutHides, .of_reset rfl rfl,
    ⟨by simp [noBursts], by simp [noBursts]⟩, noEntries, noServices, reset_usageLawful, reset_lockoutLawful,
    reset_laneZeroWhole, reset_settled, atReset_lawful 0, fun active => absurd active Bool.false_ne_true,
    fun running => absurd running asserted, fun _ => noBursts⟩

end

section
/-! PROOFS. The content of the REPLY window byte by byte: its lines, and what each line shows of its owner (R51 to R54,
R200, R202). -/

namespace Sys2Proof.Machine

/-! ### Fields of known length -/

theorem wallShown_length (s : State) : s.wallShown.length = 4 := by
  unfold State.wallShown
  split <;> rfl

theorem identity_length (x : Item) : x.identity.length = 4 := by
  cases x <;> rfl

theorem orAbsent32_length (x : Option Nat) : (orAbsent32 x).length = 4 := by
  cases x <;> rfl

theorem expiry32_length (x : Option Expiry) : (expiry32 x).length = 4 := by
  rcases x with _ | _ | _ <;> rfl

theorem minutes16_length (x : Option Nat) : (minutes16 x).length = 2 := by
  cases x <;> rfl

theorem fit_length (n : Nat) (bs : List Byte) : (fit n bs).length = n := by
  simp [fit]

/-! ### The lines (R51) -/

/-- The block of a whole line is the line. -/
theorem replyBlock_line (s : State) (running : s.phase = .running) (k : Nat) (whole : (replyLine s k).length = 32) :
    replyBlock s (32 * k) 32 = replyLine s k := by
  have line : 32 * k / 32 = k := by omega
  simp only [replyBlock, State.isRunning, running, decide_true, if_true, line, Nat.mul_mod_right, List.drop_zero]
  exact List.take_of_length_le (le_of_eq whole)

/-- The two half blocks of a line make the line's block. -/
theorem replyBlock_halves (s : State) (running : s.phase = .running) (k : Nat) :
    replyBlock s (32 * k) 16 ++ replyBlock s (32 * k + 16) 16 = replyBlock s (32 * k) 32 := by
  have line : 32 * k / 32 = k ∧ (32 * k + 16) / 32 = k ∧ (32 * k + 16) % 32 = 16 := by omega
  simp only [replyBlock, State.isRunning, running, line, decide_true, if_true, Nat.mul_mod_right, List.drop_zero]
  exact (List.take_add (i := 16) (j := 16)).symm

theorem replyLine_slot (s : State) (i : Fin 4) : replyLine s (4 + i.val) = fit 32 (slotPayload s (s.slot i)) := by
  match i with
  | 0 | 1 | 2 | 3 => rfl

theorem replyLine_profile (s : State) (p : Fin 8) : replyLine s (8 + p.val) = profileLine s p := by
  match p with
  | 0 | 1 | 2 | 3 | 4 | 5 | 6 | 7 => rfl

theorem replyLine_blank (s : State) (k : Nat) (h : k = 2 ∨ k = 3 ∨ (16 ≤ k ∧ k < 64)) :
    replyLine s k = List.replicate 32 0 := by
  rcases h with rfl | rfl | ⟨low, high⟩
  · rfl
  · rfl
  · have apart : k ≠ 0 ∧ k ≠ 1 ∧ ¬ k < 4 ∧ ¬ k < 8 ∧ ¬ k < 16 := by omega
    simp [replyLine, apart, high]

theorem replyLine_ring (s : State) (n : Fin 4) (i : Fin 16) :
    replyLine s (64 + 16 * n.val + i.val) = ((s.lane n).ring[i]).bytes := by
  have apart : 64 + 16 * n.val + i.val ≠ 0 ∧ 64 + 16 * n.val + i.val ≠ 1 ∧ ¬ 64 + 16 * n.val + i.val < 4
      ∧ ¬ 64 + 16 * n.val + i.val < 8 ∧ ¬ 64 + 16 * n.val + i.val < 16 ∧ ¬ 64 + 16 * n.val + i.val < 64
      ∧ 64 + 16 * n.val + i.val < 128 := by omega
  have lane : (64 + 16 * n.val + i.val - 64) / 16 = n.val := by omega
  have index : (64 + 16 * n.val + i.val) % 16 = i.val := by omega
  obtain ⟨h0, h1, h4, h8, h16, h64, h128⟩ := apart
  simp only [replyLine, if_neg h0, if_neg h1, if_neg h4, dif_neg h8, dif_neg h16, if_neg h64, dif_pos h128, lane, index]
  rfl

/-! ### The device status block (R52, R54, R202) -/

theorem statusLine_length (s : State) : (statusLine s).length = 32 := by
  obtain ⟨w0, w1, w2, w3, wall⟩ := List.length_eq_four.mp (wallShown_length s)
  rw [statusLine, wall]; rfl

theorem statusBlock_shown (s : State) :
    StatusShown s (statusLine s ++ laneLine s ++ List.replicate 32 0 ++ List.replicate 32 0) := by
  obtain ⟨w0, w1, w2, w3, wall⟩ := List.length_eq_four.mp (wallShown_length s)
  simp only [statusLine, wall, laneLine, laneStatus, le16, num16, le32, num32, num8, List.cons_append, List.nil_append]
  exact {
    size := rfl
    identity := rfl
    revision := rfl
    channel := rfl
    clock := rfl
    pin := rfl
    failures := rfl
    store := rfl
    wallUnset := fun unset => by rw [State.wallShown, unset] at wall; exact wall.symm
    wall := fun w set => by rw [State.wallShown, set] at wall; exact wall.symm
    status := rfl
    enable := rfl
    warned := rfl
    captureEmpty := fun empty => by rw [empty]; rfl
    capture := fun c filled => by rw [filled]; rfl
    lockout := rfl
    ingestIdle := fun idle => by rw [idle]; exact ⟨rfl, rfl⟩
    ingest := fun g active => by rw [active]; exact ⟨rfl, rfl⟩
    spare := rfl
    lanes := fun n => match n with
      | 0 | 1 | 2 | 3 => rfl
    rest := rfl }

/-! ### Slot summaries (R53, R158, R202) -/

/-- The two bytes of a pending profile (R158). -/
def pendingShown : Option Pending → List Byte
  | none => [0xFF, 0]
  | some q => num8 q.profile.val ++ num8 q.countdown

theorem pendingShown_length (x : Option Pending) : (pendingShown x).length = 2 := by
  cases x <;> rfl

theorem slotPayload_eq (s : State) (x : Slot) : slotPayload s x =
    [openingByte [x.picture, x.current.isSome, x.unlock.isSome, x.unlock.any fun u => u.expiry.isUptime], x.item.code]
      ++ x.item.identity ++ num8 x.bound.val ++ pendingShown x.pending
      ++ [x.decision.code, x.decision.reasonCode, x.enforcement.code, x.hold.byte]
      ++ num8 x.frames ++ num16 ((x.current.map Key.event).getD 0)
      ++ orAbsent32 (s.boundaryLeft x) ++ expiry32 (x.unlock.map Unlock.expiry) := by
  unfold slotPayload
  cases x.pending <;> rfl

theorem slotSummary_shown (s : State) (x : Slot) :
    SlotShown s x (fit 32 (slotPayload s x)) ∧ Shows (fit 32 (slotPayload s x)) 24 (List.replicate 8 0) := by
  obtain ⟨i0, i1, i2, i3, identity⟩ := List.length_eq_four.mp (identity_length x.item)
  obtain ⟨p0, p1, pending⟩ := List.length_eq_two.mp (pendingShown_length x.pending)
  obtain ⟨b0, b1, b2, b3, boundary⟩ := List.length_eq_four.mp (orAbsent32_length (s.boundaryLeft x))
  obtain ⟨u0, u1, u2, u3, unlock⟩ := List.length_eq_four.mp (expiry32_length (x.unlock.map Unlock.expiry))
  rw [slotPayload_eq, identity, pending, boundary, unlock]
  refine ⟨?_, rfl⟩
  exact {
    items := rfl
    kind := rfl
    nothing := fun h => by rw [h] at identity; exact identity.symm
    live := fun service h => by rw [h] at identity; exact identity.symm
    recording := fun r h => by rw [h] at identity; exact identity.symm
    external := fun input h => by
      rw [h] at identity
      refine identity.symm.trans ?_
      match input with
      | 0 | 1 | 2 | 3 => decide
    bound := rfl
    noPending := fun h => by rw [h] at pending; exact pending.symm
    pending := fun q h => by rw [h] at pending; exact pending.symm
    decision := rfl
    frames := rfl
    noEvent := fun h => by rw [h]; rfl
    event := fun k h => by rw [h]; rfl
    noBoundary := fun h => by rw [State.boundaryLeft, h] at boundary; exact boundary.symm
    boundary := fun t w h now => by rw [State.boundaryLeft, h, now] at boundary; exact boundary.symm
    noUnlock := fun h => by rw [h] at unlock; exact unlock.symm
    unlockWall := fun u t h e => by rw [h, Option.map_some, e] at unlock; exact unlock.symm
    unlockUptime := fun u t h e => by rw [h, Option.map_some, e] at unlock; exact unlock.symm }

/-! ### Profile summaries (R53, R202) -/

theorem profileBytes_length (x : ProfileSummary) : x.bytes.length = 32 := by
  unfold ProfileSummary.bytes
  split
  · exact fit_length _ _
  · rfl

theorem profileSummary_shown (s : State) (c : Fin 7) : ProfileShown s c (s.profileSummary c).bytes := by
  obtain ⟨m0, m1, minutes⟩ := List.length_eq_two.mp (minutes16_length (s.profileSummary c).remaining)
  obtain ⟨e0, e1, e2, e3, ends⟩ := List.length_eq_four.mp
    (expiry32_length ((s.profileSummary c).extension.map Extension.expiry))
  rw [ProfileSummary.bytes, minutes, ends]
  cases valid : (s.child c).valid with
  | false =>
    rw [show (s.profileSummary c).valid = false from valid]
    exact {
      key := rfl
      invalid := fun _ => rfl
      flags := fun h => by simp [valid] at h
      times := fun h => by simp [valid] at h
      noEnd := fun h => by simp [valid] at h
      endWall := fun h => by simp [valid] at h
      endUptime := fun h => by simp [valid] at h
      rest := rfl }
  | true =>
    rw [show (s.profileSummary c).valid = true from valid]
    exact {
      key := rfl
      invalid := fun h => by simp [valid] at h
      flags := fun _ => rfl
      times := fun _ => by rw [show minutes16 (s.remainingChild c) = _ from minutes]; rfl
      noEnd := fun _ h => by rw [show (s.profileSummary c).extension = none from h] at ends; exact ends.symm
      endWall := fun _ e t h wall => by
        rw [show (s.profileSummary c).extension = some e from h, Option.map_some, wall] at ends; exact ends.symm
      endUptime := fun _ e t h uptime => by
        rw [show (s.profileSummary c).extension = some e from h, Option.map_some, uptime] at ends; exact ends.symm
      rest := rfl }

/-! ### The window whole (R51) -/

theorem profileLine_length (s : State) (p : Fin 8) : (profileLine s p).length = 32 := by
  unfold profileLine
  split
  · exact fit_length _ _
  · exact profileBytes_length _

theorem replyWindow_shown (s : State) (running : s.phase = .running) : WindowShown s where
  status := by
    rw [show replyBlock s 0 32 = statusLine s from replyBlock_line s running 0 (statusLine_length s),
      show replyBlock s 32 32 = laneLine s from replyBlock_line s running 1 rfl,
      show replyBlock s 64 32 = List.replicate 32 0 from replyBlock_line s running 2 rfl,
      show replyBlock s 96 32 = List.replicate 32 0 from replyBlock_line s running 3 rfl]
    exact statusBlock_shown s
  slots i := by
    have line := replyLine_slot s i
    rw [show 128 + 32 * i.val = 32 * (4 + i.val) by omega,
      replyBlock_line s running _ (by rw [line, fit_length]), line]
    exact slotSummary_shown s (s.slot i)
  openProfile := (replyBlock_line s running 8 rfl).trans (profileLine_open s)
  profiles c := by
    have line := replyLine_profile s (childNumber c)
    rw [show 256 + 32 * (childNumber c).val = 32 * (8 + (childNumber c).val) by omega,
      replyBlock_line s running _ (by rw [line, profileLine_length]), line, profileLine_child]
    exact profileSummary_shown s c
  gap k low high := by
    have line := replyLine_blank s k (.inr (.inr ⟨low, high⟩))
    rw [replyBlock_line s running k (by rw [line]; rfl), line]
  rings n i := by
    have line := replyLine_ring s n i
    rw [show 2048 + 512 * n.val + 32 * i.val = 32 * (64 + 16 * n.val + i.val) by omega,
      replyBlock_line s running _ (by rw [line]; simp [ReplyEntry.bytes, le16, num8, fit_length]), line]
    rfl
  halves k _ := replyBlock_halves s running k

end Sys2Proof.Machine
end

section
open Sys2Proof Sys2Proof.Machine

/-- Settles O8, by the window the block lies in and by the lines of the REPLY window. -/
theorem readTreatments : Obligations.ReadTreatments := by
  refine ⟨fun s ba a row decodes opened room away => ?_, replyWindow_shown, fun s offset size starting =>
    replyBlock_starting s offset size (decide_eq_false starting)⟩
  obtain ⟨l, t, runs, outstanding, sdu, au⟩ := columnInstr_answered .read ba a row s decodes opened room
  have kept : (columnAnswer .read ba row a (driveLines l s)).state = driveLines l s :=
    classifyRead_state _ _ (driveLines l s) away
  rw [kept] at sdu au
  refine ⟨t, _, runs, outstanding, sdu, au, fun outside => ?_, fun w found =>
    ⟨fun kind => ?_, fun kind => ?_, fun kind => ?_, fun kind shown => ?_, fun kind hidden => ?_, fun kind shown => ?_,
      fun kind hidden => ?_⟩⟩
  · exact congrArg Classified.treatment (classifyRead_outside _ _ (driveLines l s) outside)
  · exact congrArg Classified.treatment (classifyRead_passed _ _ (driveLines l s) w found (.inl kind))
  · exact congrArg Classified.treatment (classifyRead_passed _ _ (driveLines l s) w found (.inr kind))
  · have answer := classifyRead_reply (columnBlock s ba row a) (burstLength s.ct.form (burstSelect a) * 4)
      (driveLines l s) w found kind
    exact ⟨congrArg Classified.treatment answer, congrArg Classified.repl answer⟩
  · have answer := (classifyRead_picture (columnBlock s ba row a) (burstLength s.ct.form (burstSelect a) * 4)
      (driveLines l s) w found kind).trans (classifyPictureRead_away _ _ _ w (away w found kind))
    exact congrArg Classified.treatment (answer.trans (if_neg shown))
  · have answer := ((classifyRead_picture (columnBlock s ba row a) (burstLength s.ct.form (burstSelect a) * 4)
      (driveLines l s) w found kind).trans (classifyPictureRead_away _ _ _ w (away w found kind))).trans (if_pos hidden)
    exact ⟨congrArg Classified.treatment answer, congrArg Classified.repl answer⟩
  · have answer := classifyRead_audio (columnBlock s ba row a) (burstLength s.ct.form (burstSelect a) * 4)
      (driveLines l s) w found kind
    exact congrArg Classified.treatment (answer.trans (if_neg shown))
  · have answer := (classifyRead_audio (columnBlock s ba row a) (burstLength s.ct.form (burstSelect a) * 4)
      (driveLines l s) w found kind).trans (if_pos hidden)
    exact ⟨congrArg Classified.treatment answer, congrArg Classified.repl answer⟩

end

section
/-! PROOFS. What a taken record leaves of the lanes: every handler but those of LANE_PERMIT and INGEST_ABORT leaves them whole;
and, packaged once, what every part of a taking keeps, every taking keeps (R44, R45, R47). -/

namespace Sys2Proof.Machine

/-! ### Effects that leave the lanes whole -/

variable (s : State)

@[simp] theorem restore_lc (c : Fin 7) : (restore c s).lc = s.lc := (onlyViewing_restore c s).lc

@[simp] theorem lowerCarry_lc (c : Fin 7) : (lowerCarry c s).lc = s.lc := (onlyViewing_lowerCarry c s).lc

@[simp] theorem recomputeCurfew_lc (c : Fin 7) : (recomputeCurfew c s).lc = s.lc := (onlyViewing_recomputeCurfew c s).lc

@[simp] theorem withdraw_lc (k : Key) : (withdraw k s).lc = s.lc := by simp [withdraw]

@[simp] theorem applyInsert_lc (e : Entry) (r : InsertResult) : (applyInsert e r s).lc = s.lc := by
  unfold applyInsert
  split <;> simp

@[simp] theorem changeWindows_lc (wd : WD) : (changeWindows wd s).lc = s.lc := (onlySlots_changeWindows wd s).lc

@[simp] theorem bindSlot_lc (i : Fin 4) (p : Fin 8) : (bindSlot i p s).lc = s.lc := by
  simp only [bindSlot]
  split <;> simp

@[simp] theorem setSuspended_lc (c : Fin 7) (b : Bool) : (setSuspended c b s).lc = s.lc := by simp [setSuspended]

@[simp] theorem storeCurfews_lc (c : Fin 7) (cs : List Curfew) : (storeCurfews c cs s).lc = s.lc := by
  simp [storeCurfews]

@[simp] theorem storeServices_lc (n : Nat) (t : List ServiceEntry) : (storeServices n t s).lc = s.lc := by
  simp [storeServices]

@[simp] theorem storeProfile_lc (c : Fin 7) (p : Profile) : (storeProfile c p s).lc = s.lc := by
  simp only [storeProfile, rewriteProfile, createProfile]
  split <;> simp

@[simp] theorem dropProfile_lc (c : Fin 7) : (dropProfile c s).lc = s.lc := by
  simp only [dropProfile]
  split <;> simp

theorem forChildren_lc (f : Fin 7 → State → State) (h : ∀ c t, (f c t).lc = t.lc) : (forChildren f s).lc = s.lc :=
  forChildren_induct (P := fun t => t.lc = s.lc) f (fun c t ht => (h c t).trans ht) s rfl

@[simp] theorem clockBeforeReports_lc (wall : Nat) (zone : Int) : (clockBeforeReports wall zone s).lc = s.lc := by
  have started : (startClock wall zone s).lc = s.lc := forChildren_lc _ _ fun c t => setUsage_lc t c _
  have ended : ∀ t, (endPastExtensions wall t).lc = t.lc := fun t => forChildren_lc t _ fun c u => by
    split <;> simp
  exact ((onlyViewing_recomputeCurfews _).lc.trans (onlyViewing_rolloverCheck _).lc).trans ((ended _).trans started)

@[simp] theorem setClock_lc (wall : Nat) (zone : Int) : (setClock wall zone s).lc = s.lc := by
  have slots : ∀ t, (clockToSlots wall t).lc = t.lc := fun t =>
    (onlySlots_reevaluateWhere _ _).lc.trans (onlyViewing_forSlots _ (fun i u => (onlySlots_setSlot u i _).viewing) t).lc
  rw [setClock, slots, (onlyViewing_reportDiffering s _).lc, markDirty_lc, clockBeforeReports_lc]

/-! ### The handlers -/

/-- Every record command's own effect leaves the lanes whole, but LANE_PERMIT's and INGEST_ABORT's. -/
theorem lc_handlerOf (i : Instr) (H : Handler) (h : handlerOf i = some H) (permit : ∀ hd l c, i ≠ .lanePermit hd l c)
    (abort : ∀ hd, i ≠ .ingestAbort hd) (x : TakeCtx) : (H.act x s).state.lc = s.lc := by
  cases i <;> simp only [handlerOf, Option.some.injEq, reduceCtorEq] at h <;> subst h
  case lanePermit => exact absurd rfl (permit _ _ _)
  case ingestAbort => exact absurd rfl (abort _)
  case readEvent | ratingCheck | readProfile | readUsage | readSlot | readService | readCapture | readWindow =>
    simp only [readEvent, ratingCheck, readProfile, readUsage, readSlot, readService, readCapture, readWindow,
      Handler.free]
    repeat' split
    all_goals rfl
  case eventNotice | eventWithdraw | serviceEventsClear | ingestBegin | clockSet =>
    simp only [eventNotice, eventWithdraw, serviceEventsClear, ingestBegin, clockSet, Handler.free]
    repeat' split
    all_goals simp only [accept_state, refuse_state, applyInsert_lc, withdraw_lc, reportServices_lc, setEntries_lc,
      setClock_lc]
  case slotTune | slotBind | slotUnlock | slotRelock =>
    simp only [slotTune, tuneSlot, slotBind, slotUnlock, unlockSlot, slotRelock, relockSlot, Handler.free,
      Handler.gated]
    repeat' split
    all_goals simp only [accept_state, refuse_state, reevaluateAs_lc, bindSlot_lc]
  case profileWrite | profileCurfew | profileSuspend | profileResume | profileRemove =>
    simp only [profileWrite, profileCurfew, profileSuspend, profileResume, profileRemove, Handler.gated]
    repeat' split
    all_goals simp only [accept_state, refuse_state, storeProfile_lc, storeCurfews_lc, setSuspended_lc, dropProfile_lc]
  case serviceWrite | serviceRemove | allowanceGrant | usageReset =>
    simp only [serviceWrite, serviceRemove, allowanceGrant, usageReset, Handler.gated]
    repeat' split
    all_goals simp only [accept_state, refuse_state, storeServices_lc, restore_lc, markDirty_lc, setUsage_lc]
  case attentionSet | attentionClear | captureClear | pinSet | settingsWrite =>
    simp only [attentionSet, attentionClear, captureClear, pinSet, settingsWrite, Handler.free, Handler.gated]
    repeat' split
    all_goals rfl
  case windowDefine | windowRemove | windowLock | fillTileWrite =>
    simp only [windowDefine, windowRemove, windowLock, fillTileWrite, Handler.free]
    repeat' split
    all_goals simp only [accept_state, refuse_state, changeWindows_lc]

/-! ### What every taking keeps -/

/-- `R` holds between the states before and after each part of a record's taking: the staging of its bytes, the owner's
effect, the count of a compare, the reply, the lane's advance, the start of a commit, and the report of a misplaced one. -/
structure KeptByTaking (R : State → State → Prop) : Prop where
  refl : ∀ s, R s s
  trans : ∀ {s t u}, R s t → R t u → R s u
  acts : ∀ i H, handlerOf i = some H → ∀ x s, R s (H.act x s).state
  matched : ∀ s, R s (s.setFailures 0)
  failed : ∀ s, R s (failCompare s)
  replied : ∀ s n tag code out adj ring p, R s (s.postReply n tag code out adj ring p)
  advanced : ∀ n s, R s (advanceLane n s)
  committed : ∀ s, R s (startCommit s)
  staged : ∀ s n b c, R s (s.setLane n { s.lane n with cur := b, nxt := c })
  misplaced : ∀ s block bank row col, R s (s.report .laneSequence block bank row col)

namespace KeptByTaking

variable {R : State → State → Prop} (K : KeptByTaking R)
include K

theorem judgePin (i : Instr) (H : Handler) (h : handlerOf i = some H) (x : TakeCtx) (pin : Vector Byte 8) (s : State) :
    R s (judgePin H x pin s).state := by
  unfold Machine.judgePin
  split
  · split
    · exact K.refl s
    · split
      · exact K.trans (K.matched s) (K.acts i H h _ _)
      · exact K.failed s
  · exact K.acts i H h _ s

theorem acceptRecord (i : Instr) (x : TakeCtx) (hd : Header) (s : State) :
    R s (acceptRecord (handlerOf i) x hd s).state := by
  unfold Machine.acceptRecord
  cases h : handlerOf i with
  | none => exact K.refl s
  | some H =>
    simp only
    split
    · split
      · exact K.judgePin i H h x hd.pin s
      · exact K.refl s
    · exact K.refl s

theorem takeRecord (i : Instr) (code : Byte) (hd : Header) (s : State) : R s (takeRecord (handlerOf i) code hd s) :=
  K.trans (K.trans (K.trans (K.acceptRecord i _ hd s) (K.replied _ _ _ _ _ _ _ _)) (K.advanced _ _)) (K.committed _)

theorem takeOne (lane : Fin 4) (s : State) : R s (takeOne lane s) := by
  cases h : (s.lane lane).cur.closed with
  | false => rw [takeOne_open _ _ h]; exact K.refl s
  | true =>
    obtain ⟨i, code, hd, -, e⟩ := takeOne_closed lane s h
    exact e ▸ K.takeRecord i code hd s

theorem takeHeld (lane : Fin 4) (s : State) : R s (takeHeld lane s) := K.trans (K.takeOne lane s) (K.takeOne lane _)

theorem foldl (f : Fin 4 → State → State) (hf : ∀ n s, R s (f n s)) (l : List (Fin 4)) (s : State) :
    R s (l.foldl (fun t n => f n t) s) := by
  induction l generalizing s with
  | nil => exact K.refl s
  | cons n l ih => exact K.trans (hf n s) (ih _)

theorem takeAll (order : List (Fin 4)) (s : State) : R s (takeAll order s) :=
  K.trans (K.foldl Machine.takeOne K.takeOne order s) (K.foldl Machine.takeHeld K.takeHeld slotList _)

theorem resumeTaking (s : State) : R s (resumeTaking s) := by
  unfold Machine.resumeTaking
  split
  · exact K.takeAll _ s
  · exact K.refl s

theorem laneDelivery (lane : Fin 4) (ring : Fin 64) (d : Delivery) (s : State) : R s (laneDelivery lane ring d s) := by
  simp only [Machine.laneDelivery]
  split
  · split
    · exact K.trans (K.staged s lane _ _) (K.takeHeld lane _)
    · exact K.staged s lane _ _
  · split
    · exact K.staged s lane _ _
    · split
      · exact K.misplaced s _ _ _ _
      · exact K.refl s

theorem presentRecord (i : Instr) (hd : Header) (code : Byte) (body : List Byte) (s : State) :
    R s (presentRecord (handlerOf i) hd code body s) := by
  simp only [Machine.presentRecord]
  split
  · split
    · split
      · exact K.trans (K.trans (K.staged s hd.lane _ _) (K.takeRecord i code hd _)) (K.takeOne hd.lane _)
      · exact K.staged s hd.lane _ _
    · split
      · exact K.staged s hd.lane _ _
      · exact K.refl s
  · exact K.refl s

end KeptByTaking

end Sys2Proof.Machine
end

section
/-! PROOFS. The standing laws of the lanes: lane 0 keeps every class, no lane keeps a record it could take, and PASS-ONLY
leaves the lanes and the enable set alone (R44, R45, R178, R188, R195). -/

namespace Sys2Proof.Machine

/-! ### Lane 0 keeps its classes (R45) -/

/-- The classes of lane 0 are kept. -/
structure ZeroKept (s t : State) : Prop where
  classes : (t.lane 0).classes = (s.lane 0).classes

theorem zeroKept_of_lc {s t : State} (h : t.lc = s.lc) : ZeroKept s t := ⟨by rw [lane_of_lc s t h]⟩

theorem ZeroKept.refl (s : State) : ZeroKept s s := ⟨rfl⟩

theorem ZeroKept.trans {s t u : State} (a : ZeroKept s t) (b : ZeroKept t u) : ZeroKept s u :=
  ⟨b.classes.trans a.classes⟩

/-- LANE_PERMIT names lanes 1 to 3 alone (R178). -/
theorem permitLane_ne_zero {b : Byte} {n : Fin 4} (h : permitLane b = some n) : n ≠ 0 := by
  unfold permitLane at h
  split at h
  next range =>
    rintro rfl
    have zero : b.toNat = 0 := congrArg Fin.val (Option.some.inj h)
    omega
  next => cases h

theorem zeroKept_lanePermit (lane classes : Byte) (x : TakeCtx) (s : State) :
    ZeroKept s ((lanePermit lane classes).act x s).state := by
  simp only [lanePermit, Handler.gated]
  split
  next n set named _ =>
    exact ⟨congrArg Lane.classes (lane_setLane_other s n 0 _ (permitLane_ne_zero named).symm)⟩
  next => exact .refl s

theorem classesKept_endIngest (g : Ingest) (o : ReplyCode) (s : State) : ClassesKept s (endIngest g o s) :=
  fun n => classes_postReply _ g.lane n _ _ _ _ _ _

theorem zeroKept_endIngest (g : Ingest) (o : ReplyCode) (s : State) : ZeroKept s (endIngest g o s) :=
  ⟨classesKept_endIngest g o s 0⟩

theorem zeroKept_ingestAbort (x : TakeCtx) (s : State) : ZeroKept s (ingestAbort.act x s).state := by
  simp only [ingestAbort, Handler.free]
  split
  · exact .refl s
  · exact zeroKept_endIngest _ _ s

theorem zeroKept_handlerOf (i : Instr) (H : Handler) (h : handlerOf i = some H) (x : TakeCtx) (s : State) :
    ZeroKept s (H.act x s).state := by
  by_cases permit : ∃ hd l c, i = .lanePermit hd l c
  · obtain ⟨hd, l, c, rfl⟩ := permit
    cases h
    exact zeroKept_lanePermit l c x s
  · by_cases abort : ∃ hd, i = .ingestAbort hd
    · obtain ⟨hd, rfl⟩ := abort
      cases h
      exact zeroKept_ingestAbort x s
    · exact zeroKept_of_lc (lc_handlerOf s i H h (fun hd l c e => permit ⟨hd, l, c, e⟩) (fun hd e => abort ⟨hd, e⟩) x)

theorem failCompare_lc (s : State) : (failCompare s).lc = s.lc := by
  simp only [failCompare]
  split <;> simp

theorem keptByTaking_zeroKept : KeptByTaking ZeroKept where
  refl := .refl
  trans := ZeroKept.trans
  acts := zeroKept_handlerOf
  matched s := zeroKept_of_lc (setFailures_lc s 0)
  failed s := zeroKept_of_lc (failCompare_lc s)
  replied s n _ _ _ _ _ _ := ⟨classes_postReply s n 0 _ _ _ _ _ _⟩
  advanced n s := ⟨classes_advanceLane n 0 s⟩
  committed s := zeroKept_of_lc (startCommit_lc s)
  staged s n b c := by
    by_cases e : 0 = n
    · subst e; exact ⟨by rw [lane_setLane_same]⟩
    · exact ⟨by rw [lane_setLane_other s n 0 _ e]⟩
  misplaced s _ _ _ _ := zeroKept_of_lc (report_lc s _ _ _ _ _)

theorem zeroKept_present (l : Lines) (s : State) : ZeroKept s (present l s) := by
  rcases present_tables l s with ⟨u, only, -, e⟩ | only
  · exact e ▸ (zeroKept_of_lc only.lc).trans (keptByTaking_zeroKept.resumeTaking u)
  · exact zeroKept_of_lc only.lc

/-- Processing an ingest record leaves the lanes whole (R77). -/
theorem processRecord_lc (core : EventCore) (s : State) : (processRecord core s).1.lc = s.lc := by
  unfold processRecord
  split
  · simp only
    split
    · rfl
    · exact withdraw_lc s _
  · split
    · rfl
    · exact applyInsert_lc s _ _

theorem zeroKept_advanceIngest (g : Ingest) (s : State) : ZeroKept s (advanceIngest g s) := by
  simp only [advanceIngest]
  split
  · exact zeroKept_endIngest _ _ s
  · exact zeroKept_of_lc rfl

theorem zeroKept_ingestDelivery (d : Delivery) (s : State) : ZeroKept s (ingestDelivery d s) := by
  unfold ingestDelivery
  split
  · exact .refl s
  next g _ =>
    simp only
    split
    · split
      · generalize hr : processRecord _ _ = r
        have lc : r.1.lc = s.lc := hr ▸ processRecord_lc _ _
        exact (zeroKept_of_lc lc).trans (zeroKept_advanceIngest _ _)
      · exact zeroKept_of_lc rfl
    · split
      · exact (zeroKept_of_lc (report_lc s _ _ _ _ _)).trans (zeroKept_endIngest _ _ _)
      · exact .refl s

theorem BeatCase.zeroKept {s t : State} (h : BeatCase s t) : ZeroKept s t := by
  cases h with
  | unlisted out => exact zeroKept_of_lc rfl
  | counted out index b c => exact zeroKept_of_lc rfl
  | finished out index => exact zeroKept_of_lc rfl
  | toLane out index _ _ lane ring d =>
    exact (zeroKept_of_lc (lineKept_lastBeat out index s).only.lc).trans
      (keptByTaking_zeroKept.laneDelivery lane ring d _)
  | toIngest out index _ _ d =>
    exact (zeroKept_of_lc (lineKept_lastBeat out index s).only.lc).trans (zeroKept_ingestDelivery d _)

/-- A channel reset keeps the classes of every lane and opens its buffers (R57). -/
theorem resetChannel_lane (s : State) (n : Fin 4) : (resetChannel s).lane n = Lane.atReset (s.lane n).classes := by
  have frames : (resetChannel s).lc = (resetBeforeFrames s).lc := by
    rw [resetChannel_eq, zeroFrames_only]
  rw [lane_of_lc _ _ frames, resetBeforeFrames_eq]
  simp [State.lane]

theorem zeroKept_lineReset (s : State) : ZeroKept s (assertLine (if s.isReleased then resetChannel s else s)) := by
  split
  · refine ⟨?_⟩
    rw [lane_of_lc _ _ (assertLine_lc _), resetChannel_lane]
    rfl
  · exact zeroKept_of_lc (assertLine_lc s)

/-- At part reset lane 0 holds every class (R45, R55). -/
theorem inReset_zeroWhole (store : Store) (arr : Arrangement) (cb : Byte) (pins : Pins) (queue : List Instr) :
    (State.inReset store arr cb pins queue).LaneZeroWhole := by
  simp [State.LaneZeroWhole, State.lane, State.inReset, defaultClasses, Lane.atReset]

/-- The release loads the classes of lanes 1 to 3 alone (R45, R191). -/
theorem release_zeroWhole (arr : Bool) (cb : Byte) (fclr : Bool) (s : State) : (release arr cb fclr s).LaneZeroWhole := by
  have sampled : (s.sampled arr cb).LaneZeroWhole := inReset_zeroWhole _ _ _ _ _
  cases fclr with
  | true =>
    rw [release_clear, State.LaneZeroWhole, lane_of_lc _ _ (beginClear_frame (s.sampled arr cb)).lc]
    exact sampled
  | false => rw [release_load]; exact (loadEnd_lane_zero _).trans sampled

theorem zeroKept_endStartup (order : List (Fin 4)) (s : State) : ZeroKept s (endStartup order s) := by
  have running : ZeroKept s { s with phase := .running, vtu.tickDue := false } := zeroKept_of_lc rfl
  simp only [endStartup]
  split
  · exact ⟨rfl⟩
  · exact running.trans (keptByTaking_zeroKept.takeAll order _)

theorem StepCase.laneZeroWhole {s t : State} (h : StepCase s t) (hs : s.LaneZeroWhole) : t.LaneZeroWhole := by
  have kept : ∀ {u}, ZeroKept s u → u.LaneZeroWhole := fun k => k.classes.trans hs
  cases h with
  | presented l => exact kept (zeroKept_present l s)
  | rose => exact kept (zeroKept_of_lc (riseEnable_only s).lc)
  | fell l => exact kept (zeroKept_of_lc (fallEnable_only l s).lc)
  | lineReset => exact kept (zeroKept_lineReset s)
  | beat dir index data mask => exact kept (passBeat_case dir index data mask s).zeroKept
  | record i hd code body => exact kept (keptByTaking_zeroKept.presentRecord i hd code body s)
  | path t path => exact kept (zeroKept_of_lc path.lc)
  | reset => exact inReset_zeroWhole _ _ _ _ _
  | released arr cb fclr _ => exact release_zeroWhole arr cb fclr s
  | started order _ => exact kept (zeroKept_endStartup order s)

/-! ### Records that wait (R44, R195; log 36) -/

theorem State.HeldLawful.congr {s t : State} (hs : s.HeldLawful) (phase : t.phase = .running → s.phase = .running)
    (unfollowed : t.ct.unfollowed = s.ct.unfollowed) (lc : t.lc = s.lc) : t.HeldLawful := by
  intro running empty n
  rw [lane_of_lc s t lc]
  exact hs (phase running) (unfollowed ▸ empty) n

/-- With every expected buffer open the law holds. -/
theorem heldLawful_of_open {t : State} (h : ∀ n, (t.lane n).cur.closed = false) : t.HeldLawful := fun _ _ => h

theorem resumeTaking_heldLawful (s : State) : (resumeTaking s).HeldLawful := by
  intro running _ n
  rw [(resumeTaking_taking s).phase] at running
  rw [resumeTaking, State.isRunning, decide_eq_true running, if_pos rfl]
  exact takeAll_curOpen _ s n

/-- A MODE LOAD: what waited is taken where it ends PASS-ONLY (R18, R21; log 36). -/
theorem modeEffect_heldLawful (ba : BitVec 3) (a : BitVec 16) (s : State) (hs : s.HeldLawful) :
    (modeEffect ba a s).HeldLawful := by
  rcases modeEffect_cases ba a s with ⟨same, e⟩ | ⟨-, begun, e⟩ | ⟨-, -, e⟩ <;> rw [e]
  · exact fun running empty => hs running (same.trans empty)
  · exact fun _ empty => absurd (begun.symm.trans empty) (by decide)
  · exact resumeTaking_heldLawful _

theorem present_heldLawful (l : Lines) (s : State) (hs : s.HeldLawful) : (present l s).HeldLawful := by
  cases h : s.decodes with
  | false => rw [present_passed l s h]; exact hs
  | true =>
    rw [present_decoded l s h]
    by_cases mode : l.group = .mode
    · rw [show commandEffect l (driveLines l s) = modeEffect l.ba l.a (driveLines l s) by simp [commandEffect, mode]]
      exact modeEffect_heldLawful _ _ _ hs
    · have line := (commandEffect_line l (driveLines l s) mode).1
      exact hs.congr (fun h => line.only.phase ▸ h) line.held.unfollowed line.only.lc

theorem riseEnable_unfollowed (s : State) : (riseEnable s).ct.unfollowed = s.ct.unfollowed := by
  unfold riseEnable
  repeat' split
  all_goals rfl

theorem fallEnable_unfollowed (l : Lines) (s : State) : (fallEnable l s).ct.unfollowed = s.ct.unfollowed := by
  simp only [fallEnable, fallingEffect]
  split
  · split
    · exact (lineKept_refreshBanks (driveLines l s)).held.unfollowed
    · rfl
  · rfl

theorem LaneCase.heldLawful {lane : Fin 4} {s t : State} (h : LaneCase lane s t) (hs : s.HeldLawful)
    (phase : t.phase = s.phase) (unfollowed : t.ct.unfollowed = s.ct.unfollowed) : t.HeldLawful := by
  intro running empty
  rw [phase] at running
  exact h.curOpen running (hs running (unfollowed ▸ empty))

theorem BeatCase.heldLawful {s t : State} (h : BeatCase s t) (hs : s.HeldLawful) : t.HeldLawful := by
  cases h with
  | unlisted out => exact hs
  | counted out index b c => exact hs
  | finished out index => exact hs
  | toLane out index _ _ lane ring d =>
    obtain ⟨ct, phase⟩ := laneDelivery_keeps lane ring d (lastBeat out index s)
    exact (laneDelivery_case lane ring d (lastBeat out index s)).heldLawful hs phase (congrArg CT.unfollowed ct)
  | toIngest out index _ _ d =>
    obtain ⟨keeps, -⟩ := ingestDelivery_keeps d (lastBeat out index s)
    intro running empty n
    rw [(keeps.places n).cur]
    exact hs (keeps.phase.symm.trans running) ((congrArg (fun c => c.unfollowed.any) keeps.ct).symm.trans empty) n

/-- PASS-ONLY is the channel state of a non-empty unfollowed set (R21). -/
theorem State.ChannelAgrees.passOnly {s : State} (hs : s.ChannelAgrees) (h : s.ct.channel = .passOnly) :
    s.ct.unfollowed.any = true := by
  obtain ⟨-, high, low⟩ := hs
  cases cke : s.ct.cke with
  | true =>
    have follows := h.symm.trans (high cke)
    cases empty : s.ct.unfollowed.any with
    | true => rfl
    | false => rw [channelState_of_empty empty] at follows; cases follows
  | false =>
    rcases low cke with down | down | ⟨down, -⟩ <;> rw [h] at down <;> cases down

theorem StepCase.heldLawful {s t : State} (h : StepCase s t) (agrees : s.ChannelAgrees) (hs : s.HeldLawful) :
    t.HeldLawful := by
  cases h with
  | presented l => exact present_heldLawful l s hs
  | rose =>
    have only := riseEnable_only s
    exact hs.congr (fun h => only.phase ▸ h) (riseEnable_unfollowed s) only.lc
  | fell l =>
    have only := fallEnable_only l s
    exact hs.congr (fun h => only.phase ▸ h) (fallEnable_unfollowed l s) only.lc
  | lineReset =>
    split
    · exact heldLawful_of_open fun n => by rw [lane_of_lc _ _ (assertLine_lc _), resetChannel_lane]; rfl
    · exact hs
  | beat dir index data mask => exact (passBeat_case dir index data mask s).heldLawful hs
  | record i hd code body =>
    obtain ⟨ct, phase⟩ := presentRecord_keeps i hd code body s
    exact (presentRecord_case i hd code body s).heldLawful hs phase (congrArg CT.unfollowed ct)
  | path t kept =>
    refine hs.congr (fun running => ?_) (by rw [kept.ct]) kept.lc
    rcases kept.phase with same | ⟨-, starting⟩
    · exact same ▸ running
    · rw [starting] at running; cases running
  | reset => exact fun running => by cases running
  | released arr cb fclr _ =>
    obtain ⟨-, -, -, phase⟩ := release_blocks arr cb fclr s
    intro running
    rw [phase] at running
    cases fclr <;> cases running
  | started order _ =>
    simp only [endStartup]
    split
    next passOnly => exact fun _ empty => absurd ((agrees.passOnly passOnly).symm.trans empty) (by decide)
    next => exact heldLawful_of_open (takeAll_curOpen order _)

end Sys2Proof.Machine
end

section
/-! PROOFS. What leaves every lane and the enable set alone: the timers and the store's completions always, and every step
from PASS-ONLY into PASS-ONLY (R195). -/

namespace Sys2Proof.Machine

/-- Every lane and the enable set are kept. -/
structure Quiet (s t : State) : Prop where
  lanes : t.lc.lanes = s.lc.lanes
  enable : t.au.enable = s.au.enable

theorem Quiet.refl (s : State) : Quiet s s := ⟨rfl, rfl⟩

theorem Quiet.trans {s t u : State} (a : Quiet s t) (b : Quiet t u) : Quiet s u :=
  ⟨b.lanes.trans a.lanes, b.enable.trans a.enable⟩

theorem OnlySlots.quiet {s t : State} (h : OnlySlots s t) : Quiet s t := ⟨congrArg LC.lanes h.lc, h.enable⟩

theorem OnlyViewing.quiet {s t : State} (h : OnlyViewing s t) : Quiet s t := ⟨congrArg LC.lanes h.lc, h.enable⟩

theorem OnlyCommit.quiet {s t : State} (h : OnlyCommit s t) : Quiet s t := ⟨congrArg LC.lanes h.lc, congrArg AU.enable h.au⟩

/-! ### Timers -/

theorem quiet_expireLockout (s : State) : Quiet s (expireLockout s) := ⟨rfl, rfl⟩

theorem quiet_fallCountdown (i : Fin 4) (s : State) : Quiet s (fallCountdown i s) := by
  unfold fallCountdown
  split
  · exact (onlySlots_setSlot s i _).quiet
  · split
    · exact (onlySlots_applyPending i s).quiet
    · exact (onlySlots_setSlot s i _).quiet

theorem quiet_expireExtension (c : Fin 7) (s : State) : Quiet s (expireExtension c s) :=
  ((onlyViewing_setUsage s c _).trans (onlySlots_reportProfile _ _).viewing).quiet

theorem quiet_expireUsageAge (c : Fin 7) (s : State) : Quiet s (expireUsageAge c s) :=
  (onlyViewing_markDirty s _).quiet.trans (onlyCommit_startCommit _).quiet

theorem quiet_whenDue (due : State → Bool) (act : State → State) (h : ∀ s, Quiet s (act s)) (s : State) :
    Quiet s (whenDue due act s) := by
  unfold whenDue
  split
  · exact h s
  · exact .refl s

theorem quiet_flushSlot (i : Fin 4) (s : State) : Quiet s (flushSlot i s) :=
  ((((quiet_whenDue _ _ (fun t => (onlySlots_reevaluateAs i _ t).quiet) s).trans
    (quiet_whenDue _ _ (fun t => (onlySlots_reevaluateAs i _ t).quiet) _)).trans
    (quiet_whenDue _ _ (fun t => (onlySlots_expireUnlock i t).quiet) _)).trans
    (quiet_whenDue _ _ (quiet_fallCountdown i) _)).trans
    (quiet_whenDue _ _ (fun t => (onlySlots_setSlot t i _).quiet) _)

theorem quiet_flushChild (c : Fin 7) (s : State) : Quiet s (flushChild c s) :=
  (quiet_whenDue _ _ (quiet_expireExtension c) s).trans (quiet_whenDue _ _ (quiet_expireUsageAge c) _)

theorem quiet_beginSecond (s : State) : Quiet s (beginSecond s) := ⟨rfl, rfl⟩

theorem quiet_nextSecond (s : State) : Quiet s (nextSecond s) := by
  have lockout := quiet_whenDue lockoutDue expireLockout quiet_expireLockout s
  have slots := forSlots_induct (P := Quiet s) flushSlot (fun i t h => h.trans (quiet_flushSlot i t)) _ lockout
  have flushed : Quiet s (flushSecond s) :=
    forChildren_induct (P := Quiet s) flushChild (fun c t h => h.trans (quiet_flushChild c t)) _ slots
  exact flushed.trans (quiet_beginSecond _)

theorem quiet_expiry (due : State → Bool) (act : State → State) (h : ∀ s, Quiet s (act s)) (s : State) :
    Quiet s (expiry due act s) := by
  unfold expiry
  repeat' split
  · exact h s
  · exact .refl s
  · exact (quiet_nextSecond s).trans (h _)
  · exact .refl s
  · exact .refl s

theorem quiet_accountingTick (s : State) : Quiet s (accountingTick s) := by
  have ticked : ∀ t, Quiet t (startCommit (tickBody { t with vtu.tickDue := false })) := fun t => by
    have begun : Quiet t { t with vtu.tickDue := false } := ⟨rfl, rfl⟩
    exact (begun.trans (onlyViewing_tickBody _).quiet).trans (onlyCommit_startCommit _).quiet
  simp only [accountingTick]
  split
  · split
    · exact ticked s
    · exact (quiet_nextSecond s).trans (ticked _)
  · exact .refl s

/-! ### The store's completions -/

theorem quiet_finishLoad (s : State) : Quiet s (finishLoad s) := by
  have reset : Quiet s { (resetSlots s).raise .clock with phase := .starting } := ⟨rfl, rfl⟩
  exact reset.trans (onlyCommit_startCommit _).quiet

theorem quiet_afterWrite (s : State) : Quiet s (afterWrite s) := by
  have ended : Quiet s { s with sc.writing := none } := ⟨rfl, rfl⟩
  have reopened : Quiet s { s with sc.writing := none, sc.failed := Vector.replicate 18 false } := ⟨rfl, rfl⟩
  simp only [afterWrite, continueClear, continueCommit]
  split
  · split
    · exact (onlyCommit_beginWrite _ s).quiet
    · exact quiet_finishLoad s
  · split
    · exact ended.trans (onlyCommit_beginWrite _ _).quiet
    · exact reopened.trans (onlyCommit_startCommit _).quiet

theorem quiet_completeWrite (s : State) : Quiet s (completeWrite s) := by
  unfold completeWrite
  split <;> exact ⟨rfl, rfl⟩

theorem quiet_failWrite (s : State) : Quiet s (failWrite s) := by
  unfold failWrite
  split <;> exact ⟨rfl, rfl⟩

/-! ### The channel in PASS-ONLY -/

theorem report_enable (s : State) (k : CaptureKind) (block : Nat) (bank : BitVec 3) (row col : Nat) :
    (s.report k block bank row col).au.enable = s.au.enable := by
  unfold State.report
  split <;> rfl

theorem quiet_report (s : State) (k : CaptureKind) (block : Nat) (bank : BitVec 3) (row col : Nat) :
    Quiet s (s.report k block bank row col) := ⟨congrArg LC.lanes (report_lc s k block bank row col), report_enable s _ _ _ _ _⟩

theorem quiet_openBank (ba : BitVec 3) (row : BitVec 16) (s : State) : Quiet s (openBank ba row s) := by
  simp only [openBank]
  split
  · exact (quiet_report s _ _ _ _ _).trans ⟨rfl, rfl⟩
  · exact ⟨rfl, rfl⟩

theorem quiet_refreshBanks (s : State) : Quiet s (refreshBanks s) := by
  unfold refreshBanks
  split
  · exact (quiet_report s _ _ _ _ _).trans ⟨rfl, rfl⟩
  · exact ⟨rfl, rfl⟩

theorem quiet_classify (dir : Dir) (len block : Nat) (ba : BitVec 3) (row : BitVec 16) (col : Nat) (s : State) :
    Quiet s (classify dir len block ba row col s).state := by
  cases dir with
  | read =>
    simp only [classify, classifyRead]
    split
    · exact .refl s
    · split
      case h_4 w _ _ _ =>
        simp only [classifyPictureRead]
        split
        · have started := (onlySlots_takeFrameStart w.slot s).quiet
          split
          · exact started.trans (onlySlots_setSlot _ _ _).quiet
          · exact started
          · exact started
        · split <;> exact .refl s
      case h_5 => split <;> exact .refl s
      all_goals exact .refl s
  | write =>
    simp only [classify, classifyWrite]
    split
    · exact .refl s
    · split
      case h_2 => exact quiet_report s _ _ _ _ _
      all_goals exact .refl s

theorem quiet_columnCommand (dir : Dir) (ba : BitVec 3) (a : BitVec 16) (s : State) :
    Quiet s (columnCommand dir ba a s) := by
  unfold columnCommand
  split
  · simp only [columnClosed]
    split
    · exact (quiet_report s _ _ _ _ _).trans ⟨rfl, rfl⟩
    · exact quiet_report s _ _ _ _ _
  next row _ =>
    have entered : Quiet s (if s.hasRoom then pushBurst (enteredBurst dir ba row a s)
        (columnAnswer dir ba row a s).state else s) := by
      split
      · exact (quiet_classify _ _ _ _ _ _ s).trans ⟨rfl, rfl⟩
      · exact .refl s
    unfold columnOpen
    simp only
    split
    · exact entered.trans ⟨rfl, rfl⟩
    · exact entered

/-- A command that is no MODE LOAD leaves lanes and enable set alone, in every channel state (R2 to R9). -/
theorem quiet_commandEffect (l : Lines) (s : State) (h : l.group ≠ .mode) : Quiet s (commandEffect l s) := by
  unfold commandEffect
  split
  · exact .refl s
  · exact .refl s
  · exact quiet_openBank _ _ s
  · exact quiet_columnCommand _ _ _ s
  · split <;> exact ⟨rfl, rfl⟩
  · exact quiet_refreshBanks s
  next mode => exact absurd mode h

/-- A MODE LOAD takes records only where it ends PASS-ONLY (R21). -/
theorem quiet_modeEffect (ba : BitVec 3) (a : BitVec 16) (s : State) (after : (modeEffect ba a s).ct.channel = .passOnly) :
    Quiet s (modeEffect ba a s) := by
  rcases modeEffect_cases ba a s with ⟨-, e⟩ | ⟨-, -, e⟩ | ⟨filled, empty, e⟩
  · exact e ▸ ⟨rfl, rfl⟩
  · exact e ▸ ⟨rfl, rfl⟩
  · rw [(modeEffect_ct ba a s).1] at after
    rw [afterMode_unfollowed] at empty
    have moved : s.ct.unfollowed.any ≠ (loadMode (ba.toNat % 4) a s.ct).unfollowed.any := by rw [filled, empty]; decide
    rw [CT.afterMode, if_neg moved] at after
    exact absurd ((channelState_of_empty empty).symm.trans after) (by decide)

theorem quiet_present (l : Lines) (s : State) (after : (present l s).ct.channel = .passOnly) : Quiet s (present l s) := by
  have driven : Quiet s (driveLines l s) := ⟨rfl, rfl⟩
  cases h : s.decodes with
  | false => rw [present_passed l s h]; exact ⟨rfl, rfl⟩
  | true =>
    rw [present_decoded l s h] at after ⊢
    by_cases mode : l.group = .mode
    · have effect : commandEffect l (driveLines l s) = modeEffect l.ba l.a (driveLines l s) := by
        simp [commandEffect, mode]
      rw [effect] at after ⊢
      exact driven.trans (quiet_modeEffect _ _ _ after)
    · exact driven.trans (quiet_commandEffect l _ mode)

theorem quiet_riseEnable (s : State) : Quiet s (riseEnable s) := by
  unfold riseEnable
  split
  · exact .refl s
  · split <;> exact ⟨rfl, rfl⟩

theorem quiet_fallEnable (l : Lines) (s : State) : Quiet s (fallEnable l s) := by
  have driven : Quiet s (driveLines l s) := ⟨rfl, rfl⟩
  simp only [fallEnable, fallingEffect]
  split
  · split
    · exact (driven.trans (quiet_refreshBanks (driveLines l s))).trans ⟨rfl, rfl⟩
    · exact ⟨rfl, rfl⟩
  · exact ⟨rfl, rfl⟩

/-- A channel reset ends PASS-ONLY (R22). -/
theorem quiet_lineReset (s : State)
    (after : (assertLine (if s.isReleased then resetChannel s else s)).ct.channel = .passOnly) :
    Quiet s (assertLine (if s.isReleased then resetChannel s else s)) := by
  split at after
  · rw [assertLine_ct_channel, resetChannel_ct] at after
    cases after
  next asserted => rw [if_neg asserted]; exact ⟨rfl, rfl⟩

/-- In PASS-ONLY no beat delivers anything (R21). -/
theorem BeatCase.quiet {s t : State} (h : BeatCase s t) (passOnly : s.ct.channel = .passOnly) : Quiet s t := by
  cases h with
  | unlisted out => exact ⟨rfl, rfl⟩
  | counted out index b c => exact ⟨rfl, rfl⟩
  | finished out index => exact ⟨rfl, rfl⟩
  | toLane out index _ live => exact absurd passOnly live
  | toIngest out index _ live => exact absurd passOnly live

/-- In PASS-ONLY no record reaches a lane (R41, R195). -/
theorem closeRecord_passOnly (i : Instr) (H : Option Handler) (s : State) (passOnly : s.ct.channel = .passOnly) :
    closeRecord i H s = s := by
  have blocked : s.trafficReaches = false := by simp [State.trafficReaches, passOnly]
  unfold closeRecord
  split
  · simp [presentRecord, blocked]
  · rfl

/-- No run of a command from PASS-ONLY into PASS-ONLY touches a lane or the enable set (R195). -/
theorem exec_quiet (i : Instr) (s : State) (passOnly : s.ct.channel = .passOnly) :
    ∃ t, exec i s = .next t ∧ (t.ct.channel = .passOnly → Quiet s t) := by
  have timer : ∀ due act, (∀ t, Quiet t (act t)) → (expiry due act s).ct.channel = .passOnly →
      Quiet s (expiry due act s) := fun due act kept _ => quiet_expiry due act kept s
  cases record : (handlerOf i).isSome with
  | true => exact ⟨_, exec_record i record s, fun _ => by rw [closeRecord_passOnly _ _ s passOnly]; exact .refl s⟩
  | false =>
    cases i
    case bankOpen | readBurst | writeBurst | bankClose | closeAll | refresh | modeLoad => exact ⟨_, rfl, quiet_present _ s⟩
    case restEntry | idleEntry => exact ⟨_, rfl, fun _ => quiet_fallEnable _ s⟩
    case restExit | idleExit => exact ⟨_, rfl, fun _ => quiet_riseEnable s⟩
    case channelReset => exact ⟨_, rfl, quiet_lineReset s⟩
    case dataBeat => exact ⟨_, rfl, fun _ => (passBeat_case _ _ _ _ s).quiet passOnly⟩
    case unknownCommand =>
      refine ⟨_, rfl, fun _ => ?_⟩
      rw [closeRecord_passOnly _ _ s passOnly, ite_self]
      exact .refl s
    case lockoutExpiry => exact ⟨_, rfl, timer _ _ quiet_expireLockout⟩
    case accountingTick => exact ⟨_, rfl, fun _ => quiet_accountingTick s⟩
    case extensionExpiry c => exact ⟨_, rfl, timer _ _ (quiet_expireExtension c)⟩
    case boundaryExpiry n | holdExpiry n => exact ⟨_, rfl, timer _ _ fun t => (onlySlots_reevaluateAs n _ t).quiet⟩
    case unlockExpiry n => exact ⟨_, rfl, timer _ _ fun t => (onlySlots_expireUnlock n t).quiet⟩
    case pendingCountdown n => exact ⟨_, rfl, timer _ _ (quiet_fallCountdown n)⟩
    case countdownExpiry n => exact ⟨_, rfl, timer _ _ fun t => (onlySlots_applyPending n t).quiet⟩
    case recordingLengthExpiry n => exact ⟨_, rfl, timer _ _ fun t => (onlySlots_setSlot t n _).quiet⟩
    case usageAgeExpiry c => exact ⟨_, rfl, timer _ _ (quiet_expireUsageAge c)⟩
    case storeWriteComplete =>
      refine ⟨_, rfl, fun _ => ?_⟩
      split
      · exact (quiet_completeWrite s).trans (quiet_afterWrite _)
      · exact .refl s
    case storeWriteFail =>
      refine ⟨_, rfl, fun _ => ?_⟩
      split
      · exact (quiet_failWrite s).trans (quiet_afterWrite _)
      · exact .refl s
    case partReset => exact ⟨_, rfl, fun after => by cases after⟩
    case partResetRelease arr cb fclr =>
      refine ⟨_, rfl, fun after => ?_⟩
      split at after
      next released => rw [if_pos released]; exact .refl s
      next => rw [(release_blocks arr cb fclr s).1] at after; cases after
    case startupEnd order =>
      refine ⟨_, rfl, fun _ => ?_⟩
      split
      · rw [endStartup, if_pos passOnly]
        exact ⟨rfl, rfl⟩
      · exact .refl s
    case startupSecond =>
      refine ⟨_, rfl, fun _ => ?_⟩
      split <;> exact ⟨rfl, rfl⟩
    all_goals exact absurd record.symm Bool.false_ne_true

theorem step_quiet {s t : State} (passOnly : s.ct.channel = .passOnly) (h : step s = .next t)
    (after : t.ct.channel = .passOnly) : Quiet s t := by
  unfold step at h
  split at h
  · cases h; exact .refl s
  next c rest _ =>
    obtain ⟨u, runs, kept⟩ := exec_quiet c { s with pending := rest } passOnly
    rw [runs] at h
    cases h
    obtain ⟨lanes, enable⟩ := kept after
    exact ⟨lanes, enable⟩

end Sys2Proof.Machine
end

section
open Sys2Proof Sys2Proof.Machine

/-- Settles O56, by the kinds of step for lane 0 and for the records held, and command by command for PASS-ONLY. -/
theorem laneZeroWholeKept : Obligations.LaneZeroWholeKept := by
  refine ⟨fun s t => ?_, fun s t passOnly h after => ?_, fun s t agrees held h => ?_⟩
  · exact step_keeps (P := State.LaneZeroWhole) (fun _ _ h => h) (fun _ _ case h => case.laneZeroWhole h) s t
  · obtain ⟨lanes, enable⟩ := step_quiet passOnly h after
    exact ⟨fun n => by simp only [State.lane, lanes], enable⟩
  · obtain rfl | ⟨q, case⟩ := step_cases h
    · exact held
    · exact case.heldLawful agrees held

end

section
/-! PROOFS. The end of start-up, and of the factory clear's writes (R44, R56, R188 to R190; logs 6, 7, 25 and 36). -/

namespace Sys2Proof.Machine

theorem runs_startupEnd (order : List (Fin 4)) (s : State) (starting : s.phase = .starting) :
    Runs (.startupEnd order) s (endStartup order s) := by
  simp only [Runs, exec, execStartupEnd, starting, if_true]

/-- The state in which start-up is over and its records are still to be taken (R189 step 8). -/
def State.startedUp (s : State) : State := { s with phase := .running, vtu.tickDue := false }

theorem endStartup_takes (order : List (Fin 4)) (s : State) (live : s.ct.channel ≠ .passOnly) :
    endStartup order s = takeAll order s.startedUp := by
  simp only [endStartup, if_neg live, State.startedUp]

theorem endStartup_waits (order : List (Fin 4)) (s : State) (passOnly : s.ct.channel = .passOnly) :
    endStartup order s = { s with phase := .running, vtu.tickDue := false, lc.order := order } := by
  simp only [endStartup, if_pos passOnly]

theorem mem_storeOrder_all (r : RecordId) : r ∈ storeOrder := List.mem_of_getElem? (storeOrder_place r)

/-- A record is left to write where one is dirty that has not failed in the running commit (R186, R187). -/
theorem nextDirty_isSome (s : State) (r : RecordId) (dirty : s.isDirty r = true) (fresh : s.sc.failed[r.place] = false) :
    (nextDirty s).isSome = true :=
  List.find?_isSome.mpr ⟨r, mem_storeOrder_all r, by rw [dirty, fresh]; rfl⟩

/-- No record is left to write where every dirty one has failed (R187). -/
theorem nextDirty_eq_none (s : State) (failed : ∀ r, s.isDirty r = true → s.sc.failed[r.place] = true) :
    nextDirty s = none := by
  refine List.find?_eq_none.mpr fun r _ => ?_
  cases dirty : s.isDirty r with
  | false => simp
  | true => simp [failed r dirty]

/-- The completion of a write of the factory clear: the next record is attempted, or the load goes on (R190; log 25). -/
theorem runs_clearComplete (s : State) (image : Image) (clearing : s.phase = .clearing)
    (writing : s.sc.writing = some image) :
    Runs .storeWriteComplete s (continueClear { s with sc.store := s.sc.store.put true image, sc.writing := none }) := by
  simp only [Runs, exec, execStoreWriteComplete, writing, Option.isSome_some, if_true, afterWrite, completeWrite, clearing]

theorem continueClear_goesOn (s : State) (r : RecordId) (dirty : s.isDirty r = true)
    (fresh : s.sc.failed[r.place] = false) :
    (continueClear s).phase = s.phase ∧ (continueClear s).sc.writing.isSome = true := by
  obtain ⟨q, next⟩ := Option.isSome_iff_exists.mp (nextDirty_isSome s r dirty fresh)
  simp only [continueClear, next, beginWrite_phase, beginWrite_writing, Option.isSome_some, and_self]

theorem continueClear_ends (s : State) (failed : ∀ r, s.isDirty r = true → s.sc.failed[r.place] = true) :
    (continueClear s).phase = .starting := by
  rw [continueClear, nextDirty_eq_none s failed]
  exact (finishLoad_path s).2.2.2.2

end Sys2Proof.Machine
end

section
open Sys2Proof Sys2Proof.Machine

/-- Settles O47, by whether start-up ends in PASS-ONLY, and for the factory clear by whether a record is left to attempt. -/
theorem startupEnds : Obligations.StartupEnds := by
  intro s
  refine ⟨fun order starting live => ?_, fun order starting passOnly => ?_, fun image clearing writing => ?_⟩
  · refine ⟨takeAll order s.startedUp, endStartup_takes order s live ▸ runs_startupEnd order s starting,
      (takeAll_taking order _).phase, fun opened => takeAll_open order _ opened, fun n => ?_⟩
    obtain ⟨opened, moved⟩ := takeAll_tookHeld order s.startedUp n
    exact ⟨opened, moved⟩
  · exact endStartup_waits order s passOnly ▸ runs_startupEnd order s starting
  · refine ⟨_, runs_clearComplete s image clearing writing, fun ⟨r, dirty, fresh⟩ => ?_,
      fun failed => continueClear_ends _ failed⟩
    obtain ⟨phase, writes⟩ := continueClear_goesOn
      { s with sc.store := s.sc.store.put true image, sc.writing := none } r dirty fresh
    exact ⟨phase.trans clearing, writes⟩

end

section
/-! PROOFS. The acceptance order: the refusals of steps 1 to 5 and what they leave (R47 to R50, R97 to R99). -/

namespace Sys2Proof.Machine

/-! ### A refusal -/

/-- A record that leaves its owner the state it found changes nothing but its own lane (R47). -/
theorem Posted.nothingElse {s t : State} {hd : Header} {code : Byte} {body : List Byte}
    (posted : Posted (s.closedIn hd code body) t) : NothingElse s t where
  toTrafficKept := ⟨posted.ct, posted.wd, posted.prt⟩
  toQuietAttention := ⟨posted.enable, posted.warned, posted.capture⟩
  pss := posted.pss
  sdu := posted.sdu
  vtu := posted.vtu
  classes n := (posted.classes n).trans (classes_closedIn s hd code body n)
  status := posted.status
  sc := posted.sc

theorem Posted.statusReply {r t : State} (posted : Posted r t) : t.au.status = r.au.status ||| Cause.reply.bit := by
  simpa [RaisedReply] using posted.status

/-- An owner that leaves the lanes alone leaves every lane's classes (R45). -/
theorem Posted.classesKept {s r t : State} {hd : Header} {code : Byte} {body : List Byte} (posted : Posted r t)
    (lc : r.lc = (s.closedIn hd code body).lc) : ClassesKept s t := fun n =>
  ((posted.classes n).trans (congrArg Lane.classes (lane_of_lc _ _ lc n))).trans (classes_closedIn s hd code body n)

/-- A record judged to be refused on the state it found is answered so, and nothing else changes (R47, R49, R50). -/
theorem refused_of_judged (i : Instr) (hd : Header) (code : Byte) (body : List Byte) (s : State) (outcome : ReplyCode)
    (payload : List Byte) (runs : Runs i s (presentRecord (handlerOf i) hd code body s)) (listening : Listening s hd)
    (judged : s.judged (handlerOf i) hd code body = refuse (s.closedIn hd code body) outcome payload)
    (plain : outcome ≠ .adjusted) : Refused i s hd code outcome payload := by
  have answered := presentRecord_answered i hd code body s listening
  have posted := presentRecord_posted i hd code body s listening
  rw [judged] at answered posted
  have reply := answered rfl
  rw [refuse_code, decide_eq_false plain] at reply
  exact ⟨_, runs, reply, posted.nothingElse⟩

/-- A dirty record that the owner left is written soon after the record's taking (R186). -/
theorem presentRecord_writtenSoon (i : Instr) (hd : Header) (code : Byte) (body : List Byte) (s : State) (r : RecordId)
    (listening : Listening s hd) (dirty : (s.judged (handlerOf i) hd code body).state.isDirty r = true) :
    WrittenSoon (presentRecord (handlerOf i) hd code body s) r := by
  rw [presentRecord_listening i hd code body s listening]
  exact writtenSoon_startCommit _ r dirty

/-! ### Steps 1 to 3 (R47) -/

theorem runs_unknownCommand (s : State) (hd : Header) (code : Byte) (unknown : bodyLength code = none) :
    Runs (.unknownCommand hd code) s (presentRecord (handlerOf (.unknownCommand hd code)) hd code [] s) := by
  simp only [Runs, exec, execUnknownCommand, unknown, Option.isNone_none, if_true]
  rfl

theorem judged_lacksClass (H : Handler) (hd : Header) (code : Byte) (body : List Byte) (s : State)
    (lacks : laneHolds s hd.lane H.cls = false) :
    s.judged (some H) hd code body = refuse (s.closedIn hd code body) .notPermitted [] := by
  simp only [State.judged, acceptRecord, laneHolds_closedIn, lacks, Bool.false_eq_true, if_false]

theorem judged_wrongLength (H : Handler) (hd : Header) (code : Byte) (body : List Byte) (s : State)
    (holds : laneHolds s hd.lane H.cls = true) (wrong : hd.len.toNat ≠ H.length) :
    s.judged (some H) hd code body = refuse (s.closedIn hd code body) .badLength [] := by
  simp only [State.judged, acceptRecord, laneHolds_closedIn, holds, if_true, if_neg wrong]

/-! ### Steps 4 and 5: the PIN (R47, R97 to R99) -/

/-- Whether a record needs the PIN does not depend on its standing closed in its lane (R46). -/
theorem needsPin_closedIn (i : Instr) (H : Handler) (handler : handlerOf i = some H) (s : State) (hd : Header)
    (code : Byte) (body : List Byte) : H.needsPin (s.closedIn hd code body) = H.needsPin s := by
  cases i <;> cases handler <;> rfl

/-- A ready record that needs the PIN is judged by step 4's lockout and step 5's compare. -/
theorem judged_needsPin (i : Instr) (H : Handler) (hd : Header) (code : Byte) (body : List Byte) (s : State)
    (handler : handlerOf i = some H) (ready : Ready s hd H.cls H.length) (needs : H.needsPin s = true) :
    s.judged (handlerOf i) hd code body
      = if s.pss.lockout.isSome then refuse (s.closedIn hd code body) .lockedOut (pinPayload s)
        else if pinMatches s.pss.pin hd.pin then
          H.act { takeCtx hd (s.closedIn hd code body) with waived := false, compared := true }
            ((s.closedIn hd code body).setFailures 0)
        else refuse (failCompare (s.closedIn hd code body)) .pinWrong (pinPayload (failCompare (s.closedIn hd code body))) := by
  rw [handler]
  simp only [State.judged, acceptRecord, laneHolds_closedIn, ready.holds, if_true, ready.lengthOk, judgePin,
    needsPin_closedIn i H handler, needs]
  rfl

/-! ### The failure count (R98, R99) -/

/-- Everything is kept but the failure count, the lockout and its record's dirty mark, and the status: the settings and
every other table stand (R98, R99). -/
structure OnlyCount (s t : State) : Prop extends TrafficKept s t, QuietAttention s t, SettingsKept s t where
  lc : t.lc = s.lc
  pin : t.pss.pin = s.pss.pin
  profiles : t.pss.profiles = s.pss.profiles
  services : t.pss.services = s.pss.services
  sdu : t.sdu = s.sdu
  vtu : t.vtu = s.vtu

theorem setFailures_pss (s : State) (n : Nat) : (s.setFailures n).pss = { s.pss with failures := n } := by
  unfold State.setFailures
  split
  next same => rw [same]
  next => rfl

/-- A failure count that does not change marks nothing dirty (log 18). -/
theorem setFailures_same (s : State) : s.setFailures s.pss.failures = s := if_pos rfl

theorem setFailures_isDirty (s : State) (n : Nat) (changed : n ≠ s.pss.failures) : (s.setFailures n).isDirty .pin = true := by
  rw [State.setFailures, if_neg changed]
  exact isDirty_markDirty_same _ _

theorem onlyCount_setFailures (s : State) (n : Nat) : OnlyCount s (s.setFailures n) where
  toTrafficKept := ⟨setFailures_ct s n, setFailures_wd s n, setFailures_prt s n⟩
  enable := by rw [setFailures_au]
  warned := by rw [setFailures_au]
  capture := by rw [setFailures_au]
  toSettingsKept := by unfold State.setFailures; split <;> exact ⟨rfl, rfl⟩
  lc := setFailures_lc s n
  pin := by rw [setFailures_pss]
  profiles := by rw [setFailures_pss]
  services := by rw [setFailures_pss]
  sdu := setFailures_sdu s n
  vtu := setFailures_vtu s n

/-- A failed compare below the fifth only counts (R98). -/
theorem failCompare_counts (s : State) (few : min 255 (s.pss.failures + 1) < 5) :
    failCompare s = s.setFailures (min 255 (s.pss.failures + 1)) := if_neg (by omega)

/-- A lockout of `n` seconds runs. -/
def State.lockedFor (s : State) (n : Nat) : State := { s with pss.lockout := some n, pss.lockoutDue := false }

/-- From the fifth on a failed compare starts a lockout (R99). -/
theorem failCompare_locks (s : State) (many : 5 ≤ min 255 (s.pss.failures + 1)) :
    failCompare s = ((s.setFailures (min 255 (s.pss.failures + 1))).lockedFor
      (min (60 * 2 ^ (min 255 (s.pss.failures + 1) - 5)) 3840)).raise .lockout :=
  if_pos many

theorem onlyCount_failCompare (s : State) : OnlyCount s (failCompare s) := by
  have counted := onlyCount_setFailures s (min 255 (s.pss.failures + 1))
  rcases Nat.lt_or_ge (min 255 (s.pss.failures + 1)) 5 with few | many
  · exact failCompare_counts s few ▸ counted
  · rw [failCompare_locks s many]
    exact ⟨⟨counted.ct, counted.wd, counted.prt⟩, ⟨counted.enable, counted.warned, counted.capture⟩,
      ⟨counted.settings, counted.faultSeen⟩, counted.lc, counted.pin, counted.profiles, counted.services, counted.sdu,
      counted.vtu⟩

theorem failCompare_failures (s : State) : (failCompare s).pss.failures = min 255 (s.pss.failures + 1) := by
  rcases Nat.lt_or_ge (min 255 (s.pss.failures + 1)) 5 with few | many
  · rw [failCompare_counts s few, setFailures_pss]
  · rw [failCompare_locks s many, raise_pss, State.lockedFor, setFailures_pss]

theorem failCompare_lockout (s : State) (clear : s.pss.lockout = none) : (failCompare s).pss.lockout
    = if 5 ≤ min 255 (s.pss.failures + 1) then some (min (60 * 2 ^ (min 255 (s.pss.failures + 1) - 5)) 3840) else none := by
  rcases Nat.lt_or_ge (min 255 (s.pss.failures + 1)) 5 with few | many
  · rw [failCompare_counts s few, setFailures_pss, if_neg (by omega), clear]
  · rw [failCompare_locks s many, if_pos many]; rfl

theorem failCompare_status (s : State) : (failCompare s).au.status
    = if 5 ≤ min 255 (s.pss.failures + 1) then s.au.status ||| Cause.lockout.bit else s.au.status := by
  rcases Nat.lt_or_ge (min 255 (s.pss.failures + 1)) 5 with few | many
  · rw [failCompare_counts s few, setFailures_au, if_neg (by omega)]
  · rw [failCompare_locks s many, if_pos many, raise_status, State.lockedFor, setFailures_au]

theorem failCompare_isDirty (s : State) (room : s.pss.failures < 255) : (failCompare s).isDirty .pin = true := by
  have dirty := setFailures_isDirty s (min 255 (s.pss.failures + 1)) (by omega)
  rcases Nat.lt_or_ge (min 255 (s.pss.failures + 1)) 5 with few | many
  · rwa [failCompare_counts s few]
  · rw [failCompare_locks s many]
    exact dirty

theorem failCompare_payload (s : State) (clear : s.pss.lockout = none) : pinPayload (failCompare s)
    = num8 (min 255 (s.pss.failures + 1)) ++ num16 (if 5 ≤ min 255 (s.pss.failures + 1)
        then min (60 * 2 ^ (min 255 (s.pss.failures + 1) - 5)) 3840 else 0) := by
  rw [pinPayload, failCompare_failures, failCompare_lockout s clear]
  split <;> rfl

end Sys2Proof.Machine
end

section
open Sys2Proof Sys2Proof.Machine

/-- Settles O21: a code that names no command has no handler. -/
theorem unknownCommandRefused : Obligations.UnknownCommandRefused := fun s h code listening unknown =>
  refused_of_judged _ h code [] s .badCommand [] (runs_unknownCommand s h code unknown) listening rfl (by decide)

/-- Settles O22, step by step. -/
theorem refusalOrder : Obligations.RefusalOrder := by
  intro i H h code body s handler parts listening
  have runs := runs_record i H h code body s parts handler
  exact ⟨fun lacks => refused_of_judged i h code body s .notPermitted [] runs listening
      (handler ▸ judged_lacksClass H h code body s lacks) (by decide),
    fun holds wrong => refused_of_judged i h code body s .badLength [] runs listening
      (handler ▸ judged_wrongLength H h code body s holds wrong) (by decide)⟩

/-- Settles O23, by whether a lockout runs. -/
theorem pinRefusals : Obligations.PinRefusals := by
  intro i H h code body s handler parts ready needs
  have runs := runs_record i H h code body s parts handler
  have judged := judged_needsPin i H h code body s handler ready needs
  refine ⟨fun n locked => ?_, fun clear wrong => ?_⟩
  · rw [locked, Option.isSome_some, if_pos rfl] at judged
    have refused := refused_of_judged i h code body s .lockedOut _ runs ready.toListening judged (by decide)
    rwa [pinPayload, locked, Option.getD_some] at refused
  · rw [clear, Option.isSome_none, if_neg Bool.false_ne_true, wrong, if_neg Bool.false_ne_true] at judged
    have kept := onlyCount_failCompare (s.closedIn h code body)
    have answered := presentRecord_answered i h code body s ready.toListening (by rw [judged]; exact kept.lc)
    have posted := presentRecord_posted i h code body s ready.toListening
    have written := presentRecord_writtenSoon i h code body s .pin ready.toListening
    rw [judged, refuse_state] at posted written
    rw [judged, refuse_payload, failCompare_payload (s.closedIn h code body) clear] at answered
    have status := posted.statusReply
    rw [failCompare_status] at status
    refine ⟨_, runs, answered, ?_, ?_, fun many => ?_, fun few => ?_, fun room => written (failCompare_isDirty _ room),
      ?_, ?_, ?_, ⟨posted.ct.trans kept.ct, posted.wd.trans kept.wd, posted.prt.trans kept.prt⟩,
      ⟨posted.enable.trans kept.enable, posted.warned.trans kept.warned, posted.capture.trans kept.capture⟩,
      posted.classesKept kept.lc, posted.sdu.trans kept.sdu, posted.vtu.trans kept.vtu,
      ⟨posted.settings.trans kept.settings, posted.faultSeen.trans kept.faultSeen⟩⟩
    · exact (congrArg PSS.failures posted.pss).trans (failCompare_failures (s.closedIn h code body))
    · exact (congrArg PSS.lockout posted.pss).trans (failCompare_lockout (s.closedIn h code body) clear)
    · exact status.trans (congrArg (· ||| Cause.reply.bit) (if_pos many))
    · exact status.trans (congrArg (· ||| Cause.reply.bit) (if_neg (Nat.not_le.mpr few)))
    · exact (congrArg PSS.pin posted.pss).trans kept.pin
    · exact (congrArg PSS.profiles posted.pss).trans kept.profiles
    · exact (congrArg PSS.services posted.pss).trans kept.services

end

section
/-! PROOFS. Records whose PIN requirement is met (R46 to R48), and PIN_SET, LANE_PERMIT and SETTINGS_WRITE (R177 to R179). -/

namespace Sys2Proof.Machine

/-! ### A PIN requirement met -/

/-- The failure count is settled to 0 where the PIN was compared (R48). -/
def State.comparedIf (s : State) (needs : Bool) : State := if needs then s.setFailures 0 else s

theorem OnlyCount.refl (s : State) : OnlyCount s s :=
  ⟨⟨rfl, rfl, rfl⟩, ⟨rfl, rfl, rfl⟩, ⟨rfl, rfl⟩, rfl, rfl, rfl, rfl, rfl, rfl⟩

theorem onlyCount_comparedIf (s : State) (needs : Bool) : OnlyCount s (s.comparedIf needs) := by
  cases needs with
  | false => exact .refl s
  | true => exact onlyCount_setFailures s 0

theorem comparedIf_pss (s : State) (needs : Bool) :
    (s.comparedIf needs).pss = { s.pss with failures := if needs then 0 else s.pss.failures } := by
  cases needs with
  | false => rfl
  | true => exact setFailures_pss s 0

theorem comparedIf_au (s : State) (needs : Bool) : (s.comparedIf needs).au = s.au := by
  cases needs with
  | false => rfl
  | true => exact setFailures_au s 0

theorem pinPasses_required (s : State) (hd : Header) (passes : PinPasses s hd) (required : s.pinRequired = true) :
    s.pss.lockout = none ∧ pinMatches s.pss.pin hd.pin = true := by
  refine passes.resolve_left fun unset => ?_
  rw [State.pinRequired, unset] at required
  exact Bool.false_ne_true required

/-- A ready record whose PIN requirement is met is what its owner makes of it, with the compare settled (R46 to R48). -/
theorem judged_passes (i : Instr) (H : Handler) (hd : Header) (code : Byte) (body : List Byte) (s : State)
    (handler : handlerOf i = some H) (ready : Ready s hd H.cls H.length)
    (passes : H.needsPin s = true → s.pss.lockout = none ∧ pinMatches s.pss.pin hd.pin = true) :
    s.judged (handlerOf i) hd code body =
      H.act { takeCtx hd (s.closedIn hd code body) with
                waived := !H.needsPin s && H.waives (s.closedIn hd code body), compared := H.needsPin s }
        ((s.closedIn hd code body).comparedIf (H.needsPin s)) := by
  have closed := needsPin_closedIn i H handler s hd code body
  cases needs : H.needsPin s with
  | false => exact judged_free i H hd code body s handler ready (closed.trans needs)
  | true =>
    obtain ⟨clear, matched⟩ := passes needs
    exact judged_compared i H hd code body s handler ready (closed.trans needs) clear matched

/-- A ready gated record whose PIN passes is what its owner makes of the state with the count settled (R48). -/
theorem judged_gatedPasses (i : Instr) (cls : CmdClass) (length : Nat) (act : TakeCtx → State → Taken) (hd : Header)
    (code : Byte) (body : List Byte) (s : State) (r : Taken) (handler : handlerOf i = some (.gated cls length act))
    (ready : Ready s hd cls length) (passes : PinPasses s hd)
    (acts : ∀ x, act x ((s.closedIn hd code body).comparedIf s.pinRequired) = r) :
    s.judged (handlerOf i) hd code body = r :=
  (judged_passes i _ hd code body s handler ready (pinPasses_required s hd passes)).trans (acts _)

/-- A ready gated record whose PIN passes and whose owner leaves the lanes alone and record `q` dirty: it is answered with
what its owner gave, what its owner left stands, and `q` is written soon (R44, R48, R49, R186). -/
theorem gated_answered (i : Instr) (cls : CmdClass) (length : Nat) (act : TakeCtx → State → Taken) (hd : Header)
    (code : Byte) (body : List Byte) (s : State) (r : Taken) (q : RecordId) (parts : recordParts i = some (hd, code, body))
    (handler : handlerOf i = some (.gated cls length act)) (ready : Ready s hd cls length) (passes : PinPasses s hd)
    (acts : ∀ x, act x ((s.closedIn hd code body).comparedIf s.pinRequired) = r)
    (lc : r.state.lc = (s.closedIn hd code body).lc) (dirty : r.state.isDirty q = true) :
    ∃ t, Runs i s t ∧ Answered s t hd code r.code.code (decide (r.code = .adjusted)) r.payload ∧ Posted r.state t
      ∧ WrittenSoon t q := by
  have judged := judged_gatedPasses i cls length act hd code body s r handler ready passes acts
  have answered := presentRecord_answered i hd code body s ready.toListening
  have posted := presentRecord_posted i hd code body s ready.toListening
  have written := presentRecord_writtenSoon i hd code body s q ready.toListening
  rw [judged] at answered posted written
  exact ⟨_, runs_record i _ hd code body s parts handler, answered lc, posted, written dirty⟩

/-- The compare settled, the PIN's state, digits and lockout stand (R48, R98). -/
theorem pinKept_of_pss {s t : State} {hd : Header} {code : Byte} {body : List Byte}
    (pss : t.pss = ((s.closedIn hd code body).comparedIf s.pinRequired).pss) : PinKept s t := by
  rw [comparedIf_pss] at pss
  exact ⟨by rw [pss]; rfl, by rw [pss]; rfl, by rw [pss]; rfl⟩

/-- No block that presents or carries anything is touched, and no cause is raised: a record that only replaces what is
stored leaves these. -/
structure OnlyTables (s t : State) : Prop extends TrafficKept s t, QuietAttention s t where
  status : t.au.status = s.au.status
  sdu : t.sdu = s.sdu
  vtu : t.vtu = s.vtu

theorem onlyTables_comparedIf (s : State) (needs : Bool) : OnlyTables s (s.comparedIf needs) where
  toTrafficKept := (onlyCount_comparedIf s needs).toTrafficKept
  toQuietAttention := (onlyCount_comparedIf s needs).toQuietAttention
  status := congrArg AU.status (comparedIf_au s needs)
  sdu := (onlyCount_comparedIf s needs).sdu
  vtu := (onlyCount_comparedIf s needs).vtu

theorem Posted.onlyTables {s r t : State} {hd : Header} {code : Byte} {body : List Byte} (posted : Posted r t)
    (kept : OnlyTables (s.closedIn hd code body) r) :
    TrafficKept s t ∧ QuietAttention s t ∧ RaisedReply s t false ∧ t.sdu = s.sdu ∧ t.vtu = s.vtu :=
  ⟨⟨posted.ct.trans kept.ct, posted.wd.trans kept.wd, posted.prt.trans kept.prt⟩,
    ⟨posted.enable.trans kept.enable, posted.warned.trans kept.warned, posted.capture.trans kept.capture⟩,
    posted.status.trans (congrArg (fun b => (b ||| 0) ||| Cause.reply.bit) kept.status), posted.sdu.trans kept.sdu,
    posted.vtu.trans kept.vtu⟩

/-! ### The lane a record was taken in, whatever its owner did to the lanes (R44, R49) -/

/-- The lane of a taken record, from what its owner left of it. -/
theorem presentRecord_lane (i : Instr) (hd : Header) (code : Byte) (body : List Byte) (s : State) (r : Taken)
    (listening : Listening s hd) (judged : s.judged (handlerOf i) hd code body = r) :
    (presentRecord (handlerOf i) hd code body s).lane hd.lane = Lane.advance
      { r.state.lane hd.lane with
        replyNo := (r.state.lane hd.lane).replyNo + 1
        ring := putAt (r.state.lane hd.lane).ring (nextIndex r.state hd.lane)
          { number := (r.state.lane hd.lane).replyNo + 1, tag := hd.tag, code := code, outcome := r.code.code,
            adjusted := decide (r.code = .adjusted), ringSlot := (s.lane hd.lane).expected,
            payload := fit 24 r.payload } } := by
  rw [presentRecord_listening i hd code body s listening, judged, lane_of_lc _ _ (startCommit_lc _), advanceLane_lane,
    replyTo, postReply_lane]

/-- Its reply, where the owner posted none there. -/
theorem presentRecord_replied (i : Instr) (hd : Header) (code : Byte) (body : List Byte) (s : State) (r : Taken)
    (listening : Listening s hd) (judged : s.judged (handlerOf i) hd code body = r)
    (quiet : (r.state.lane hd.lane).replyNo = (s.lane hd.lane).replyNo) :
    ((presentRecord (handlerOf i) hd code body s).lane hd.lane).replyNo = (s.lane hd.lane).replyNo + 1
      ∧ ((presentRecord (handlerOf i) hd code body s).lane hd.lane).ring[nextIndex s hd.lane]
        = replyEntry s hd code r.code.code (decide (r.code = .adjusted)) r.payload := by
  rw [presentRecord_lane i hd code body s r listening judged,
    show nextIndex r.state hd.lane = nextIndex s hd.lane by simp only [nextIndex, quiet]]
  refine ⟨congrArg (· + 1) quiet, ?_⟩
  simp only [Lane.advance, quiet]
  exact putAt_same _ _ _

theorem presentRecord_otherLane (i : Instr) (hd : Header) (code : Byte) (body : List Byte) (s : State) (r : Taken)
    (n : Fin 4) (listening : Listening s hd) (judged : s.judged (handlerOf i) hd code body = r) (other : n ≠ hd.lane) :
    (presentRecord (handlerOf i) hd code body s).lane n = r.state.lane n := by
  rw [presentRecord_listening i hd code body s listening, judged, lane_of_lc _ _ (startCommit_lc _),
    advanceLane_otherLane _ _ _ other, replyTo, postReply_otherLane _ _ _ _ _ _ _ _ _ other]

theorem closedIn_otherLane (s : State) (hd : Header) (code : Byte) (body : List Byte) (n : Fin 4) (other : n ≠ hd.lane) :
    (s.closedIn hd code body).lane n = s.lane n := lane_setLane_other s hd.lane n _ other

/-! ### PIN_SET (R96, R177) -/

theorem pinDigits_length (field : List Byte) (ds : List Nat) (digits : pinDigits field = some ds) :
    ds.length ≤ field.length := by
  induction field generalizing ds with
  | nil => cases digits; rfl
  | cons b bs ih =>
    simp only [pinDigits] at digits
    split at digits
    · split at digits <;> cases digits
      exact Nat.zero_le _
    · split at digits
      · obtain ⟨rest, read, rfl⟩ := Option.map_eq_some_iff.mp digits
        exact Nat.succ_le_succ (ih rest read)
      · cases digits

theorem newPinDigits_length (field : Vector Byte 8) (ds : List Nat) (digits : newPinDigits field = some ds) :
    ds = [] ∨ (4 ≤ ds.length ∧ ds.length ≤ 8) := by
  obtain ⟨read, shape⟩ := Option.filter_eq_some_iff.mp digits
  have short : ds.length ≤ 8 := by simpa using pinDigits_length _ ds read
  rcases of_decide_eq_true shape with empty | long
  · exact .inl (List.eq_nil_of_length_eq_zero empty)
  · exact .inr ⟨long, short⟩

theorem pinStateOf_eq (ds : List Nat) : pinStateOf ds = if ds = [] then .unset else .set ds := by
  cases ds <;> rfl

/-- PIN_SET's owner replaces the PIN and clears the failure count (R177). -/
def State.withPin (s : State) (ds : List Nat) : State :=
  { s with pss.pin := if ds = [] then .unset else .set ds, pss.failures := 0 }.markDirty .pin

theorem pinSet_acts (newPin : Vector Byte 8) (ds : List Nat) (x : TakeCtx) (s : State)
    (digits : newPinDigits newPin = some ds) :
    (pinSet newPin).act x s = accept (s.withPin ds) false ([if ds = [] then 0 else 1] ++ num8 ds.length) := by
  simp only [pinSet, Handler.gated, digits, pinStateOf_eq, State.withPin]
  cases ds <;> rfl

/-! ### LANE_PERMIT (R45, R178) -/

/-- LANE_PERMIT's owner replaces one lane's class set (R178). -/
def State.permitted (s : State) (n : Fin 4) (set : BitVec 7) : State :=
  (s.setLane n { s.lane n with classes := set }).markDirty .lane

theorem lanePermit_acts (lane classes : Byte) (n : Fin 4) (set : BitVec 7) (x : TakeCtx) (s : State)
    (named : permitLane lane = some n) (given : classSetField classes = some set) :
    (lanePermit lane classes).act x s
      = accept (s.permitted n set) false (num8 n.val ++ [(s.lane n).classes.zeroExtend 8, set.zeroExtend 8]) := by
  simp only [lanePermit, Handler.gated, named, given, State.permitted]

theorem permitted_lane (s : State) (n : Fin 4) (set : BitVec 7) :
    (s.permitted n set).lane n = { s.lane n with classes := set } := lane_setLane_same s n _

theorem permitted_otherLane (s : State) (n m : Fin 4) (set : BitVec 7) (other : m ≠ n) :
    (s.permitted n set).lane m = s.lane m := lane_setLane_other s n m _ other

/-- No lane's reply number moves. -/
theorem permitted_replyNo (s : State) (n m : Fin 4) (set : BitVec 7) :
    ((s.permitted n set).lane m).replyNo = (s.lane m).replyNo := by
  by_cases e : m = n
  · subst e; rw [permitted_lane]
  · rw [permitted_otherLane s n m set e]

/-! ### SETTINGS_WRITE (R102, R179) -/

theorem validProfileField_of_profiles (s t : State) (b : Byte) (profiles : t.pss.profiles = s.pss.profiles) :
    validProfileField t b = validProfileField s b := by
  simp only [validProfileField, State.profileValid, State.child, profiles]

/-- The fields read only the settings and the profiles. -/
theorem settingsFields_of_kept (s t : State) (hold rollover weekend weekStart : Byte) (defaults : Vector Byte 4)
    (settings : t.sc.settings = s.sc.settings) (profiles : t.pss.profiles = s.pss.profiles) :
    settingsFields t hold rollover weekend weekStart defaults = settingsFields s hold rollover weekend weekStart defaults := by
  simp only [settingsFields, settings, validProfileField_of_profiles s t _ profiles]

theorem settingsFields_ok (s : State) (hold rollover weekend weekStart : Byte) (defaults : Vector Byte 4) (u : Settings)
    (good : settingsFields s hold rollover weekend weekStart defaults = .ok u) :
    u.hold = min 30 hold.toNat ∧ u.zone = s.sc.settings.zone ∧ u.rollover = rollover.toNat ∧ u.rollover ≤ 23
      ∧ u.weekStart = weekStart.toNat ∧ u.weekStart ≤ 6 := by
  unfold settingsFields at good
  split at good
  · cases good
  split at good
  · cases good
  next ranges =>
    split at good
    · cases good
      exact ⟨rfl, rfl, rfl, by simp only; omega, rfl, by simp only; omega⟩
    · cases good

/-- SETTINGS_WRITE's owner replaces the settings (R179). -/
def State.withSettings (s : State) (u : Settings) : State := { s with sc.settings := u }.markDirty .settings

theorem settingsWrite_acts (hold rollover weekend weekStart : Byte) (defaults : Vector Byte 4) (u : Settings) (x : TakeCtx)
    (s : State) (good : settingsFields s hold rollover weekend weekStart defaults = .ok u) :
    (settingsWrite hold rollover weekend weekStart defaults).act x s
      = accept (s.withSettings u) (decide (30 < hold.toNat)) u.bytes := by
  simp only [settingsWrite, Handler.gated, good, State.withSettings]

end Sys2Proof.Machine
end

section
open Sys2Proof Sys2Proof.Machine

/-- Settles O38, command by command: each owner's result, past the PIN. -/
theorem pinLaneSettings : Obligations.PinLaneSettings := by
  intro s h passes
  refine ⟨fun newPin ds ready digits => ?_, fun lane classes n set ready named given => ?_,
    fun hold rollover weekend weekStart defaults u ready good => ?_⟩
  · obtain ⟨body, parts⟩ : ∃ body, recordParts (.pinSet h newPin) = some (h, 0x69, body) := ⟨_, rfl⟩
    have kept := onlyCount_comparedIf (s.closedIn h 0x69 body) s.pinRequired
    have tables := onlyTables_comparedIf (s.closedIn h 0x69 body) s.pinRequired
    obtain ⟨t, runs, answered, posted, written⟩ := gated_answered (.pinSet h newPin) .admin 8 _ h 0x69 body s _
      .pin parts rfl ready passes (fun x => pinSet_acts newPin ds x _ digits) kept.lc (isDirty_markDirty_same _ _)
    obtain ⟨traffic, quiet, raised, sdu, vtu⟩ := posted.onlyTables { tables with }
    refine ⟨t, runs, answered, posted.pss.trans ?_, newPinDigits_length newPin ds digits, written, traffic, quiet, raised,
      posted.classesKept kept.lc, ⟨posted.settings.trans kept.settings, posted.faultSeen.trans kept.faultSeen⟩, sdu, vtu⟩
    simp only [accept_state, State.withPin, markDirty_pss, comparedIf_pss]
    rfl
  · obtain ⟨body, parts⟩ : ∃ body, recordParts (.lanePermit h lane classes) = some (h, 0x6A, body) := ⟨_, rfl⟩
    have kept := onlyCount_comparedIf (s.closedIn h 0x6A body) s.pinRequired
    have tables := onlyTables_comparedIf (s.closedIn h 0x6A body) s.pinRequired
    have lanes := lane_of_lc _ _ kept.lc
    have judged := judged_gatedPasses (.lanePermit h lane classes) .admin 2 _ h 0x6A body s _ rfl ready passes
      (fun x => lanePermit_acts lane classes n set x _ named given)
    have posted := presentRecord_posted (.lanePermit h lane classes) h 0x6A body s ready.toListening
    obtain ⟨number, entry⟩ := presentRecord_replied _ h 0x6A body s _ ready.toListening judged
      ((permitted_replyNo _ n h.lane set).trans (by rw [lanes, closedIn_lane]))
    have others m := presentRecord_otherLane _ h 0x6A body s _ m ready.toListening judged
    have written := presentRecord_writtenSoon (.lanePermit h lane classes) h 0x6A body s .lane ready.toListening
    rw [judged] at posted written
    obtain ⟨traffic, quiet, raised, sdu, vtu⟩ := posted.onlyTables { tables with }
    have classesOf m : ((s.closedIn h 0x6A body).comparedIf s.pinRequired |>.lane m).classes
        = (s.lane m).classes := by rw [lanes]; exact classes_closedIn s h _ _ m
    rw [accept_payload, classesOf] at entry
    refine ⟨_, runs_record _ _ h 0x6A body s parts rfl, (posted.classes n).trans ?_, permitLane_ne_zero named,
      fun m other => (posted.classes m).trans ?_, fun m other away => (others m away).trans ?_, number, entry,
      written (isDirty_markDirty_same _ _), pinKept_of_pss posted.pss, ?_, ?_, traffic, quiet, raised,
      ⟨posted.settings.trans kept.settings, posted.faultSeen.trans kept.faultSeen⟩, sdu, vtu⟩
    · exact congrArg Lane.classes (permitted_lane _ n set)
    · exact (congrArg Lane.classes (permitted_otherLane _ n m set other)).trans (classesOf m)
    · exact (permitted_otherLane _ n m set other).trans ((lanes m).trans (closedIn_otherLane s h _ _ m away))
    · exact (congrArg PSS.profiles posted.pss).trans kept.profiles
    · exact (congrArg PSS.services posted.pss).trans kept.services
  · obtain ⟨body, parts⟩ : ∃ body, recordParts (.settingsWrite h hold rollover weekend weekStart defaults)
        = some (h, 0x6B, body) := ⟨_, rfl⟩
    have kept := onlyCount_comparedIf (s.closedIn h 0x6B body) s.pinRequired
    have tables := onlyTables_comparedIf (s.closedIn h 0x6B body) s.pinRequired
    have fields := (settingsFields_of_kept s _ hold rollover weekend weekStart defaults kept.settings kept.profiles).trans good
    obtain ⟨t, runs, answered, posted, written⟩ := gated_answered (.settingsWrite h hold rollover weekend weekStart defaults)
      .admin 8 _ h 0x6B _ s _ .settings parts rfl ready passes
      (fun x => settingsWrite_acts hold rollover weekend weekStart defaults u x _ fields) kept.lc (isDirty_markDirty_same _ _)
    obtain ⟨traffic, quiet, raised, sdu, vtu⟩ := posted.onlyTables { tables with }
    obtain ⟨held, zone, roll, rollLe, week, weekLe⟩ := settingsFields_ok s hold rollover weekend weekStart defaults u good
    refine ⟨t, runs, ?_, posted.settings, held, zone, roll, rollLe, week, weekLe, written, pinKept_of_pss posted.pss,
      posted.faultSeen.trans kept.faultSeen, ?_, ?_, traffic, quiet, raised, posted.classesKept kept.lc, sdu, vtu⟩
    · by_cases clamps : 30 < hold.toNat <;> simpa [clamps, ReplyCode.code] using answered
    · exact (congrArg PSS.profiles posted.pss).trans kept.profiles
    · exact (congrArg PSS.services posted.pss).trans kept.services

end

section
/-! PROOFS. SLOT_BIND (R46, R48, R124, R125, R127, R166; logs 13, 17, 18 and 32). -/

namespace Sys2Proof.Machine

/-! ### Binding a profile to a slot (R124, R125, R127) -/

/-- The slot record with profile `p` waiting for two frame starts (R124). -/
def Slot.waiting (x : Slot) (p : Fin 8) (due : Bool) : Slot :=
  { x with pending := some { profile := p, countdown := 2 }, countdownDue := due }

theorem bindSlot_waits (i : Fin 4) (p : Fin 8) (s : State) (picture : (s.slot i).picture = true) :
    bindSlot i p s = s.setSlot i ((s.slot i).waiting p s.vtu.tickDue) :=
  if_pos picture

theorem bindSlot_applies (i : Fin 4) (p : Fin 8) (s : State) (picture : (s.slot i).picture = false) :
    bindSlot i p s = reevaluateAs i (((s.slot i).waiting p s.vtu.tickDue).withBound p)
      (s.setSlot i ((s.slot i).waiting p s.vtu.tickDue)) := by
  have unpictured : ¬ (s.slot i).picture = true := by simp [picture]
  simp only [bindSlot, if_neg unpictured, applyPending, slot_setSlot_same, Slot.waiting]

theorem onlySlots_bindSlot (i : Fin 4) (p : Fin 8) (s : State) : OnlySlots s (bindSlot i p s) := by
  cases picture : (s.slot i).picture with
  | true => exact bindSlot_waits i p s picture ▸ onlySlots_setSlot s i _
  | false => exact bindSlot_applies i p s picture ▸ (onlySlots_setSlot s i _).trans (onlySlots_reevaluateAs i _ _)

/-- A slot record without an unlock is judged without one (R113). -/
theorem reevaluated_locked (s : State) (x : Slot) (locked : x.unlock = none) : (reevaluated s x).unlock = none := by
  rw [reevaluated, reevaluatedAt, locked]
  rfl

/-- What binding makes of the slot: with picture windows the profile waits and nothing else moves; without them it is bound,
the unlock cleared and the slot judged anew (R124, R125, R127). -/
structure Bound (x y : Slot) (p : Fin 8) : Prop where
  item : y.item = x.item
  picture : y.picture = x.picture
  frames : y.frames = x.frames
  waits : x.picture = true → y.pending = some { profile := p, countdown := 2 } ∧ y.bound = x.bound ∧ y.unlock = x.unlock
    ∧ y.decision = x.decision ∧ y.enforcement = x.enforcement
  applies : x.picture = false → y.pending = none ∧ y.bound = p ∧ y.unlock = none
    ∧ (y.enforcement = .hiding ↔ y.decision.permits = false)

theorem bindSlot_slot (i : Fin 4) (p : Fin 8) (s : State) : Bound (s.slot i) ((bindSlot i p s).slot i) p := by
  cases picture : (s.slot i).picture with
  | true =>
    rw [bindSlot_waits i p s picture, slot_setSlot_same]
    exact ⟨rfl, rfl, rfl, fun _ => ⟨rfl, rfl, rfl, rfl, rfl⟩, fun none =>
      absurd (none.symm.trans picture) Bool.false_ne_true⟩
  | false =>
    rw [bindSlot_applies i p s picture, reevaluateAs_slot]
    exact ⟨rfl, rfl, rfl, fun shown => absurd (picture.symm.trans shown) Bool.false_ne_true, fun _ =>
      ⟨rfl, rfl, reevaluated_locked _ _ rfl, nextEnforcement_hiding _ _ _⟩⟩

theorem bindSlot_otherSlots (i : Fin 4) (p : Fin 8) (s : State) : OtherSlotsKept s (bindSlot i p s) i := fun j other => by
  have apart := slot_setSlot_other s i j ((s.slot i).waiting p s.vtu.tickDue) other
  cases picture : (s.slot i).picture with
  | true => rwa [bindSlot_waits i p s picture]
  | false => rwa [bindSlot_applies i p s picture, reevaluateAs_slot_other i j _ _ other]

/-- DECISION is raised exactly where the slot's decision changed (R112). -/
theorem bindSlot_status (i : Fin 4) (p : Fin 8) (s : State) : (bindSlot i p s).au.status = s.au.status
    ||| (if decide (((bindSlot i p s).slot i).decision ≠ (s.slot i).decision) then Cause.decision.bit else 0) := by
  cases picture : (s.slot i).picture with
  | true => simp [bindSlot_waits i p s picture, Slot.waiting]
  | false =>
    rw [bindSlot_applies i p s picture, reevaluateAs_status, reevaluateAs_slot, slot_setSlot_same, setSlot_au]
    generalize reevaluated _ _ = y
    by_cases same : y.decision = (s.slot i).decision <;> simp [same, Slot.waiting]

/-! ### SLOT_BIND's owner (R46, R166) -/

theorem bindFields_eq (s : State) (slot profile : Byte) (i : Fin 4) (p : Fin 8) (place : slotField slot = some i)
    (valid : validProfileField s profile = some p) : bindFields s slot profile = some (i, p) := by
  simp only [bindFields, place, valid]

theorem slotBind_needsPin (s : State) (slot profile : Byte) (i : Fin 4) (p : Fin 8) (place : slotField slot = some i)
    (valid : validProfileField s profile = some p) :
    (slotBind slot profile).needsPin s = (s.pinRequired && !notMorePermissive s p (s.slot i).bound) := by
  simp only [slotBind, bindNeedsPin, bindFields_eq s slot profile i p place valid]

theorem slotBind_waives (s : State) (slot profile : Byte) (i : Fin 4) (p : Fin 8) (place : slotField slot = some i)
    (valid : validProfileField s profile = some p) :
    (slotBind slot profile).waives s = (s.pinRequired && notMorePermissive s p (s.slot i).bound) := by
  simp only [slotBind, bindWaived, bindFields_eq s slot profile i p place valid]

theorem slotBind_acts (slot profile : Byte) (i : Fin 4) (p : Fin 8) (x : TakeCtx) (s : State)
    (place : slotField slot = some i) (valid : validProfileField s profile = some p) :
    (slotBind slot profile).act x s = accept (bindSlot i p s) false (bindPayload x (bindSlot i p s) i) := by
  simp only [slotBind, place, valid]

/-- The reply by the slot it was and the slot it became (R166; logs 13 and 32). -/
theorem bindPayload_bound (x : TakeCtx) (t : State) (i : Fin 4) (p : Fin 8) (old : Slot) (bound : Bound old (t.slot i) p) :
    bindPayload x t i = [openingByte [x.waived, x.compared, !old.picture]] ++ num8 (if old.picture then 2 else 0)
      ++ num8 (t.slot i).bound.val ++ (t.slot i).verdictBytes := by
  cases picture : old.picture with
  | true =>
    obtain ⟨pending, -⟩ := bound.waits picture
    simp only [bindPayload, pending]
    rfl
  | false =>
    obtain ⟨pending, -⟩ := bound.applies picture
    simp only [bindPayload, pending]
    rfl

/-- A record is dirty for the PIN once a compare has cleared a failure count that was not 0 (R48, R98). -/
theorem comparedIf_isDirty (s : State) (failed : s.pss.failures ≠ 0) : (s.comparedIf true).isDirty .pin = true :=
  setFailures_isDirty s 0 failed.symm

/-- A compare at failure count 0 changes nothing (log 18). -/
theorem comparedIf_clear (s : State) (needs : Bool) (clear : needs = true → s.pss.failures = 0) : s.comparedIf needs = s := by
  cases needs with
  | false => rfl
  | true =>
    have same := setFailures_same s
    rwa [clear rfl] at same

/-- What SLOT_BIND's owner makes of a ready record whose PIN requirement is met (R46, R48, R166). -/
theorem slotBind_judged (s : State) (hd : Header) (slot profile : Byte) (body : List Byte) (i : Fin 4) (p : Fin 8) (c : Bool)
    (ready : Ready s hd .present 2) (place : slotField slot = some i) (valid : validProfileField s profile = some p)
    (requirement : notMorePermissive s p (s.slot i).bound = true ∨ PinPasses s hd)
    (compared : (s.pinRequired && !notMorePermissive s p (s.slot i).bound) = c) :
    s.judged (handlerOf (.slotBind hd slot profile)) hd 0x31 body
      = accept (bindSlot i p ((s.closedIn hd 0x31 body).comparedIf c)) false
        ([openingByte [s.pinRequired && notMorePermissive s p (s.slot i).bound, c, !(s.slot i).picture]]
          ++ num8 (if (s.slot i).picture then 2 else 0)
          ++ num8 ((bindSlot i p ((s.closedIn hd 0x31 body).comparedIf c)).slot i).bound.val
          ++ ((bindSlot i p ((s.closedIn hd 0x31 body).comparedIf c)).slot i).verdictBytes) := by
  have needs := (slotBind_needsPin s slot profile i p place valid).trans compared
  have waives : (slotBind slot profile).waives (s.closedIn hd 0x31 body) = _ :=
    slotBind_waives s slot profile i p place valid
  have kept := onlyCount_comparedIf (s.closedIn hd 0x31 body) c
  have became := bindSlot_slot i p ((s.closedIn hd 0x31 body).comparedIf c)
  have waived : (!c && (s.pinRequired && notMorePermissive s p (s.slot i).bound))
      = (s.pinRequired && notMorePermissive s p (s.slot i).bound) := by
    rw [← compared]
    cases s.pinRequired <;> cases notMorePermissive s p (s.slot i).bound <;> rfl
  rw [judged_passes (.slotBind hd slot profile) _ hd 0x31 body s rfl ready fun needed => ?_, needs, waives, waived,
    slotBind_acts slot profile i p _ _ place ((validProfileField_of_profiles s _ profile kept.profiles).trans valid),
    bindPayload_bound _ _ i p _ became, slot_of_sdu _ _ kept.sdu i]
  · rfl
  · rw [needs, ← compared, Bool.and_eq_true, Bool.not_eq_true'] at needed
    obtain ⟨required, wider⟩ := needed
    exact pinPasses_required s hd (requirement.resolve_left (by simp [wider])) required

end Sys2Proof.Machine
end

section
open Sys2Proof Sys2Proof.Machine

/-- Settles O30: the owner binds the profile past the PIN, and what binding makes of the slot is what the record answers. -/
theorem slotBindPends : Obligations.SlotBindPends := by
  intro s h slot profile i p ready place valid requirement
  obtain ⟨body, parts⟩ : ∃ body, recordParts (.slotBind h slot profile) = some (h, 0x31, body) := ⟨_, rfl⟩
  obtain ⟨c, compared⟩ : ∃ c, (s.pinRequired && !notMorePermissive s p (s.slot i).bound) = c := ⟨_, rfl⟩
  have judged := slotBind_judged s h slot profile body i p c ready place valid requirement compared
  have kept := onlyCount_comparedIf (s.closedIn h 0x31 body) c
  have slots : ∀ j, ((s.closedIn h 0x31 body).comparedIf c).slot j = s.slot j := slot_of_sdu _ _ kept.sdu
  have only := onlySlots_bindSlot i p ((s.closedIn h 0x31 body).comparedIf c)
  have became := bindSlot_slot i p ((s.closedIn h 0x31 body).comparedIf c)
  have others := bindSlot_otherSlots i p ((s.closedIn h 0x31 body).comparedIf c)
  have status := bindSlot_status i p ((s.closedIn h 0x31 body).comparedIf c)
  have answered := presentRecord_answered (.slotBind h slot profile) h 0x31 body s ready.toListening
  have posted := presentRecord_posted (.slotBind h slot profile) h 0x31 body s ready.toListening
  have written := presentRecord_writtenSoon (.slotBind h slot profile) h 0x31 body s .pin ready.toListening
  have runs := runs_record (.slotBind h slot profile) _ h 0x31 body s parts rfl
  rw [judged] at answered posted written
  replace answered := answered (only.lc.trans kept.lc)
  generalize presentRecord _ h 0x31 body s = t at *
  have shown : ∀ j, t.slot j = (bindSlot i p _).slot j := slot_of_sdu _ _ posted.sdu
  have sc (same : ((s.closedIn h 0x31 body).comparedIf c).sc = s.sc) (settled : s.Settled) : t.sc = s.sc :=
    (posted.sc (by rw [accept_state, State.Settled, only.sc, same]; exact settled)).trans (only.sc.trans same)
  rw [slots] at became status
  rw [accept_payload, ← shown, ← compared] at answered
  rw [← shown] at became status
  rw [comparedIf_au] at status
  refine ⟨t, runs, answered, became.item, became.picture, became.frames, became.waits,
    became.applies, fun j other => (shown j).trans ((others j other).trans (slots j)),
    posted.statusReply.trans (congrArg (· ||| Cause.reply.bit) status),
    ⟨posted.ct.trans (only.ct.trans kept.ct), posted.wd.trans (only.wd.trans kept.wd),
      posted.prt.trans (only.prt.trans kept.prt)⟩,
    ⟨posted.enable.trans (only.enable.trans kept.enable), posted.warned.trans (only.warned.trans kept.warned),
      posted.capture.trans (only.capture.trans kept.capture)⟩,
    posted.classesKept (only.lc.trans kept.lc), posted.vtu.trans (only.vtu.trans kept.vtu), fun free => ?_,
    fun required wider => ?_⟩
  · have uncompared : c = false := by rcases free with off | narrower <;> simp [← compared, *]
    subst uncompared
    exact ⟨posted.pss.trans only.pss, sc rfl⟩
  · have wasCompared : c = true := by simp [← compared, *]
    subst wasCompared
    refine ⟨(posted.pss.trans only.pss).trans (comparedIf_pss _ true),
      ⟨posted.settings.trans ((congrArg SC.settings only.sc).trans kept.settings),
        posted.faultSeen.trans ((congrArg SC.faultSeen only.sc).trans kept.faultSeen)⟩, fun failed => written ?_,
      fun clear => sc ?_⟩
    · rw [accept_state, State.isDirty, only.sc]
      exact comparedIf_isDirty (s.closedIn h 0x31 body) failed
    · rw [comparedIf_clear (s.closedIn h 0x31 body) true fun _ => clear]
      rfl

end

section
/-! PROOFS. INGEST_BEGIN and INGEST_ABORT (R73, R74, R79, R164). -/

namespace Sys2Proof.Machine

/-! ### INGEST_BEGIN (R164) -/

/-- A run begins: its record stands and the stager is zero (R73, R74). -/
def State.ingesting (s : State) (g : Ingest) : State :=
  { s with prt.ingest := some g, prt.stager := List.replicate 32 0 }

theorem ingestBegin_acts (start : BitVec 32) (count : BitVec 16) (k : Fin 16) (w : Window) (x : TakeCtx) (s : State)
    (some1 : 1 ≤ count.toNat) (room : count.toNat ≤ 4096) (aligned : start.toNat % 32 = 0) (idle : s.prt.ingest = none)
    (index : s.wd.ingestIndex = some k) (window : s.wd.ingestWindow = some w) (base : w.base ≤ start.toNat)
    (limit : start.toNat ≤ w.limit) :
    (ingestBegin start count).act x s = accept (s.ingesting
        { lane := x.lane, tag := x.tag, ring := x.ring, remaining := count.toNat, next := start.toNat, taken := 0,
          stale := 0, refused := 0, adjusted := false })
      false (num8 k.val ++ num32 w.base ++ num32 w.limit) := by
  have good : ¬ (count = 0 ∨ 4096 < count.toNat ∨ start.toNat % 32 ≠ 0) := by
    rintro (zero | many | ragged)
    · subst zero; exact absurd some1 (by decide)
    · omega
    · exact ragged aligned
  have inside : w.contains start.toNat = true := decide_eq_true ⟨base, limit⟩
  simp only [ingestBegin, Handler.free, if_neg good, idle, index, window, inside, if_true]
  rfl

/-! ### The end of a run (R79) -/

/-- The INGEST_END reply of a run, under a number (R79). -/
def endEntry (g : Ingest) (outcome : ReplyCode) (number : BitVec 16) : ReplyEntry where
  number := number
  tag := g.tag
  code := ingestEndCode
  outcome := outcome.code
  adjusted := g.adjusted
  ringSlot := g.ring
  payload := fit 24 g.counts

/-- A lane that has posted it as its next reply (R49, R79). -/
def Lane.ended (l : Lane) (g : Ingest) (outcome : ReplyCode) : Lane :=
  { l with
    replyNo := l.replyNo + 1
    ring := putAt l.ring (ringIndex (l.replyNo + 1)) (endEntry g outcome (l.replyNo + 1)) }

theorem endIngest_lane (g : Ingest) (outcome : ReplyCode) (s : State) :
    (endIngest g outcome s).lane g.lane = (s.lane g.lane).ended g outcome :=
  postReply_lane _ _ _ _ _ _ _ _

theorem endIngest_otherLane (g : Ingest) (outcome : ReplyCode) (s : State) (n : Fin 4) (other : n ≠ g.lane) :
    (endIngest g outcome s).lane n = s.lane n :=
  postReply_otherLane _ _ _ _ _ _ _ _ _ other

theorem ingestAbort_acts (g : Ingest) (x : TakeCtx) (s : State) (running : s.prt.ingest = some g) :
    ingestAbort.act x s = accept (endIngest g .aborted s) false g.counts := by
  simp only [ingestAbort, Handler.free, running]

theorem ingestAbort_idle (x : TakeCtx) (s : State) (idle : s.prt.ingest = none) :
    ingestAbort.act x s = refuse s .badState [] := by
  simp only [ingestAbort, Handler.free, idle]

/-! ### Two replies on one lane (R49, R79) -/

theorem nextIndex_eq (s : State) (n : Fin 4) : nextIndex s n = ringIndex ((s.lane n).replyNo + 1) := rfl

theorem ringIndex_succ_ne (n : BitVec 16) : ringIndex (n + 1) ≠ ringIndex (n + 2) := by
  intro same
  have values : (n + 1).toNat % 16 = (n + 2).toNat % 16 := congrArg Fin.val same
  simp only [BitVec.toNat_add, BitVec.reduceToNat] at values
  omega

theorem or_or_comm (a b c : BitVec 10) : ((a ||| b) ||| c) ||| b = (a ||| c) ||| b := by
  rw [BitVec.or_assoc, BitVec.or_assoc, BitVec.or_comm c b, ← BitVec.or_assoc b b c, BitVec.or_self, ← BitVec.or_comm c b,
    ← BitVec.or_assoc]

/-! ### A run aborted from its own lane and from another -/

section
variable (s : State) (hd : Header) (body : List Byte) (g : Ingest) (listening : Listening s hd)
  (judged : s.judged (handlerOf (.ingestAbort hd)) hd 0x24 body
    = accept (endIngest g .aborted (s.closedIn hd 0x24 body)) false g.counts)
include listening judged

theorem abort_otherLane (other : g.lane ≠ hd.lane) :
    (presentRecord (handlerOf (.ingestAbort hd)) hd 0x24 body s).lane g.lane = (s.lane g.lane).ended g .aborted
      ∧ ((presentRecord (handlerOf (.ingestAbort hd)) hd 0x24 body s).lane hd.lane).replyNo
          = (s.lane hd.lane).replyNo + 1
      ∧ ((presentRecord (handlerOf (.ingestAbort hd)) hd 0x24 body s).lane hd.lane).ring[nextIndex s hd.lane]
          = replyEntry s hd 0x24 0 false g.counts := by
  refine ⟨?_, presentRecord_replied _ hd 0x24 body s _ listening judged ?_⟩
  · rw [presentRecord_otherLane _ hd 0x24 body s _ g.lane listening judged other, accept_state, endIngest_lane,
      closedIn_otherLane s hd 0x24 body g.lane other]
  · rw [accept_state, endIngest_otherLane g _ _ hd.lane (Ne.symm other), closedIn_lane]

/-- The reply that follows the INGEST_END reply takes the next number (R49, R79). -/
theorem abort_ownLane (own : g.lane = hd.lane) :
    ((presentRecord (handlerOf (.ingestAbort hd)) hd 0x24 body s).lane hd.lane).replyNo = (s.lane hd.lane).replyNo + 2
      ∧ ((presentRecord (handlerOf (.ingestAbort hd)) hd 0x24 body s).lane hd.lane).ring[nextIndex s hd.lane]
          = endEntry g .aborted ((s.lane hd.lane).replyNo + 1)
      ∧ ((presentRecord (handlerOf (.ingestAbort hd)) hd 0x24 body s).lane hd.lane).ring[ringIndex
            ((s.lane hd.lane).replyNo + 2)]
          = { replyEntry s hd 0x24 0 false g.counts with number := (s.lane hd.lane).replyNo + 2 } := by
  have two : (s.lane hd.lane).replyNo + 1 + 1 = (s.lane hd.lane).replyNo + 2 := BitVec.add_assoc _ _ _
  have ended := endIngest_lane g .aborted (s.closedIn hd 0x24 body)
  rw [own, closedIn_lane] at ended
  have index : nextIndex (endIngest g .aborted (s.closedIn hd 0x24 body)) hd.lane
      = ringIndex ((s.lane hd.lane).replyNo + 2) := by
    rw [nextIndex_eq, ended]
    exact congrArg ringIndex two
  rw [presentRecord_lane _ hd 0x24 body s _ listening judged, accept_state, index, ended]
  refine ⟨two, ?_, ?_⟩
  · exact (putAt_other _ _ _ _ (ringIndex_succ_ne _)).trans (putAt_same _ _ _)
  · simp only [Lane.advance, Lane.ended, two]
    exact putAt_same _ _ _

end

end Sys2Proof.Machine
end

section
open Sys2Proof Sys2Proof.Machine

/-- Settles O28: the owner's run begins; an abort posts the run's own end first, on its lane, whichever that is. -/
theorem ingestBeginAndAbort : Obligations.IngestBeginAndAbort := by
  intro s h
  refine ⟨fun start count k w ready some1 room aligned idle index window base limit => ?_, fun g ready running => ?_,
    fun ready idle => ?_⟩
  · obtain ⟨body, parts⟩ : ∃ body, recordParts (.ingestBegin h start count) = some (h, 0x23, body) := ⟨_, rfl⟩
    have judged := (judged_free (.ingestBegin h start count) _ h 0x23 body s rfl ready rfl).trans
      (ingestBegin_acts start count k w _ _ some1 room aligned idle index window base limit)
    have answered := presentRecord_answered (.ingestBegin h start count) h 0x23 body s ready.toListening
    have posted := presentRecord_posted (.ingestBegin h start count) h 0x23 body s ready.toListening
    rw [judged] at answered posted
    refine ⟨_, runs_record _ _ h 0x23 body s parts rfl, answered rfl, ?_, ?_, ?_, posted.ct, posted.wd, posted.pss,
      posted.sdu, posted.vtu, ⟨posted.enable, posted.warned, posted.capture⟩, posted.status, posted.classesKept rfl,
      posted.sc⟩
    · rw [posted.prt]
      simp only [accept_state, State.ingesting, takeCtx, closedIn_lane]
    · rw [posted.prt]; rfl
    · rw [posted.prt]; rfl
  · have judged := (judged_free (.ingestAbort h) _ h 0x24 [] s rfl ready rfl).trans (ingestAbort_acts g _ _ running)
    have posted := presentRecord_posted (.ingestAbort h) h 0x24 [] s ready.toListening
    have lane := presentRecord_lane (.ingestAbort h) h 0x24 [] s _ ready.toListening judged
    have place := (actKeeps_endIngest g .aborted (s.closedIn h 0x24 [])).places h.lane
    rw [closedIn_lane] at place
    have away := abort_otherLane s h [] g ready.toListening judged
    have own := abort_ownLane s h [] g ready.toListening judged
    rw [judged] at posted
    generalize run : presentRecord (handlerOf (.ingestAbort h)) h 0x24 [] s = t at *
    refine ⟨t, run ▸ runs_record _ _ h 0x24 [] s rfl rfl, ?_, ?_, ?_, fun other => ?_, fun same => ?_, ?_, ?_, ?_,
      ⟨posted.enable, posted.warned, posted.capture⟩, fun n => ?_, posted.ct, posted.wd, posted.pss, posted.sdu,
      posted.vtu, posted.sc⟩
    · rw [posted.prt]; rfl
    · rw [posted.prt]; rfl
    · rw [posted.prt]; rfl
    · obtain ⟨ended, -, reply⟩ := away other
      rw [ended]
      exact ⟨rfl, rfl, putAt_same _ _ _, reply⟩
    · obtain ⟨-, ended, reply⟩ := own same
      exact ⟨ended, reply⟩
    · by_cases same : g.lane = h.lane
      · obtain ⟨number, -⟩ := own same
        rw [number, if_pos same]
      · obtain ⟨-, number, -⟩ := away same
        rw [number, if_neg same]
    · rw [lane]; exact congrArg (· + 1) place.expected
    · exact posted.statusReply.trans (or_or_comm _ _ _)
    · exact ((posted.classes n).trans (classesKept_endIngest g .aborted _ n)).trans (classes_closedIn s h 0x24 [] n)
  · exact refused_of_judged _ h 0x24 [] s .badState [] (runs_record _ _ h 0x24 [] s rfl rfl) ready.toListening
      ((judged_free (.ingestAbort h) _ h 0x24 [] s rfl ready rfl).trans (ingestAbort_idle _ _ idle)) (by decide)

end

section
/-! PROOFS. The record of a command, read back (R40, R200, R201). -/

namespace Sys2Proof.Machine

/-! ### Bytes of a list -/

theorem byteAt_append_left (xs ys : List Byte) (k : Nat) (inside : k < xs.length) : byteAt (xs ++ ys) k = byteAt xs k := by
  simp only [byteAt, List.getD_append _ _ _ _ inside]

theorem byteAt_append_right (xs ys : List Byte) (k n : Nat) (length : xs.length = n) :
    byteAt (xs ++ ys) (k + n) = byteAt ys k := by
  subst length
  rw [byteAt, List.getD_append_right _ _ _ _ (Nat.le_add_left _ _), Nat.add_sub_cancel]
  rfl

/-- A list set to a length reads as the list, with zeros behind it. -/
theorem byteAt_fit (n k : Nat) (bs : List Byte) (inside : k < n) : byteAt (fit n bs) k = byteAt bs k := by
  rw [byteAt, fit, List.getD_eq_getElem?_getD, List.getElem?_take_of_lt inside]
  rcases Nat.lt_or_ge k bs.length with short | past
  · rw [List.getElem?_append_left short]
    rfl
  · rw [List.getElem?_append_right past, byteAt, List.getD_eq_getElem?_getD, List.getElem?_eq_none past,
      List.getElem?_replicate]
    split <;> rfl

theorem recordBytes_length (hd : Header) (code : Byte) (body : List Byte) (toggle : Bool) :
    (recordBytes hd code body toggle).length = 64 := by
  simp [recordBytes, fit_length, le16]

/-! ### The fields every record has (R40, R200) -/

section
variable (hd : Header) (code : Byte) (body : List Byte) (toggle : Bool)

theorem byteAt_recordCode : byteAt (recordBytes hd code body toggle) 0 = code := rfl

/-- The body stands from byte 10 on (R40). -/
theorem byteAt_recordBody (k : Nat) (inside : k < 50) :
    byteAt (recordBytes hd code body toggle) (k + 10) = byteAt body k := by
  have split : recordBytes hd code body toggle
      = (code :: hd.len :: hd.pin.toList) ++ (fit 50 body ++ (le16 hd.tag ++ [flagByte toggle, 0x5A])) := by
    simp [recordBytes]
  rw [split, byteAt_append_right _ _ k 10 (by simp), byteAt_append_left _ _ k (by rw [fit_length]; exact inside),
    byteAt_fit 50 k body inside]

/-- The closing word stands last: the tag, the toggle and the mark (R40, R42). -/
theorem recordBytes_closing : ∃ front : List Byte, front.length = 60
    ∧ recordBytes hd code body toggle = front ++ (le16 hd.tag ++ [flagByte toggle, 0x5A]) :=
  ⟨code :: hd.len :: (hd.pin.toList ++ fit 50 body), by simp [fit_length], by simp [recordBytes]⟩

theorem byteAt_recordTag (k : Nat) :
    byteAt (recordBytes hd code body toggle) (k + 60) = byteAt (le16 hd.tag ++ [flagByte toggle, 0x5A]) k := by
  obtain ⟨front, length, split⟩ := recordBytes_closing hd code body toggle
  rw [split, byteAt_append_right _ _ k 60 length]

end

/-! ### Numbers, low byte first (R40) -/

theorem join16 (x : BitVec 16) : x.extractLsb' 8 8 ++ x.extractLsb' 0 8 = x :=
  (BitVec.extractLsb'_append_extractLsb'_eq_extractLsb' (by rfl)).trans BitVec.extractLsb'_eq_self

theorem join32 (x : BitVec 32) :
    x.extractLsb' 24 8 ++ x.extractLsb' 16 8 ++ x.extractLsb' 8 8 ++ x.extractLsb' 0 8 = x := by
  have high : x.extractLsb' 24 8 ++ x.extractLsb' 16 8 = x.extractLsb' 16 16 :=
    BitVec.extractLsb'_append_extractLsb'_eq_extractLsb' (by rfl)
  have upper : x.extractLsb' 16 16 ++ x.extractLsb' 8 8 = x.extractLsb' 8 24 :=
    BitVec.extractLsb'_append_extractLsb'_eq_extractLsb' (by rfl)
  rw [high, upper]
  exact (BitVec.extractLsb'_append_extractLsb'_eq_extractLsb' (by rfl)).trans BitVec.extractLsb'_eq_self

/-- A number is read where it stands. -/
theorem halfAt_le16 (x : BitVec 16) (rest : List Byte) :
    halfAt (x.extractLsb' 0 8 :: x.extractLsb' 8 8 :: rest) 0 = x := join16 x

theorem wordAt_le32 (x : BitVec 32) (rest : List Byte) :
    wordAt (x.extractLsb' 0 8 :: x.extractLsb' 8 8 :: x.extractLsb' 16 8 :: x.extractLsb' 24 8 :: rest) 0 = x := join32 x

/-- A vector's bytes are read where they stand. -/
theorem bytesAt_append {n : Nat} (v : Vector Byte n) (rest : List Byte) : bytesAt n (v.toList ++ rest) 0 = v := by
  ext k hk
  have inside : k < v.toList.length := by rwa [Vector.length_toList]
  rw [bytesAt, Vector.getElem_ofFn, Nat.zero_add, byteAt_append_left _ _ k inside, byteAt,
    List.getD_eq_getElem _ _ inside, Vector.getElem_toList]

theorem bytesAt_toList {n : Nat} (v : Vector Byte n) : bytesAt n v.toList 0 = v := by
  simpa using bytesAt_append v []

/-! ### Past the first byte -/

theorem byteAt_cons (b : Byte) (bs : List Byte) (k : Nat) : byteAt (b :: bs) (k + 1) = byteAt bs k := rfl

theorem byteAt_head (b : Byte) (bs : List Byte) : byteAt (b :: bs) 0 = b := rfl

theorem halfAt_cons (b : Byte) (bs : List Byte) (k : Nat) : halfAt (b :: bs) (k + 1) = halfAt bs k := rfl

theorem wordAt_cons (b : Byte) (bs : List Byte) (k : Nat) : wordAt (b :: bs) (k + 1) = wordAt bs k := rfl

theorem bytesAt_cons {n : Nat} (b : Byte) (bs : List Byte) (k : Nat) : bytesAt n (b :: bs) (k + 1) = bytesAt n bs k := by
  simp only [bytesAt, Nat.add_right_comm k 1, byteAt_cons]

/-! ### The record's fields, its body's first -/

section
variable (hd : Header) (code : Byte) (body : List Byte) (toggle : Bool)

theorem headerAt_recordBytes : headerAt hd.lane (recordBytes hd code body toggle) = hd := by
  have pin : bytesAt 8 (recordBytes hd code body toggle) 2 = hd.pin := by
    simp only [recordBytes, List.append_assoc, bytesAt_cons, bytesAt_append]
  have tag : halfAt (recordBytes hd code body toggle) 60 = hd.tag := by
    rw [halfAt, byteAt_recordTag hd code body toggle 0, byteAt_recordTag hd code body toggle 1]
    exact join16 hd.tag
  rw [headerAt, pin, tag]
  rfl

theorem halfAt_recordBody (k : Nat) (inside : k < 49) :
    halfAt (recordBytes hd code body toggle) (k + 10) = halfAt body k := by
  rw [halfAt, Nat.add_right_comm, byteAt_recordBody hd code body toggle (k + 1) (by omega),
    byteAt_recordBody hd code body toggle k (by omega)]
  rfl

theorem wordAt_recordBody (k : Nat) (inside : k < 47) :
    wordAt (recordBytes hd code body toggle) (k + 10) = wordAt body k := by
  simp only [wordAt, Nat.add_right_comm k 10]
  rw [byteAt_recordBody hd code body toggle (k + 3) (by omega), byteAt_recordBody hd code body toggle (k + 2) (by omega),
    byteAt_recordBody hd code body toggle (k + 1) (by omega), byteAt_recordBody hd code body toggle k (by omega)]

theorem bytesAt_recordBody (n k : Nat) (inside : k + n ≤ 50) :
    bytesAt n (recordBytes hd code body toggle) (k + 10) = bytesAt n body k := by
  ext j hj
  rw [bytesAt, bytesAt, Vector.getElem_ofFn, Vector.getElem_ofFn, Nat.add_right_comm,
    byteAt_recordBody hd code body toggle (k + j) (by omega)]

end

/-! ### The bodies that are made of fields of fields -/

theorem eventCoreAt_bytes (core : EventCore) : eventCoreAt core.bytes 0 = core := by
  simp only [eventCoreAt, EventCore.bytes, le16, le32, List.cons_append, List.nil_append, Nat.zero_add, halfAt_le16,
    halfAt_cons, wordAt_cons, wordAt_le32, byteAt_cons, byteAt_head]

theorem profileFieldsAt_bytes (f : ProfileFields) : profileFieldsAt f.bytes 0 = f := by
  have ceilings : bytesAt 4 f.bytes 0 = f.ceilings := by
    simp only [ProfileFields.bytes, List.append_assoc, bytesAt_append]
  obtain ⟨a, b, c, d, four⟩ : ∃ a b c d, f.ceilings.toList = [a, b, c, d] :=
    List.length_eq_four.mp Vector.length_toList
  have weights : bytesAt 4 f.bytes 16 = f.weights := by
    simp only [ProfileFields.bytes, four, le16, List.cons_append, List.nil_append, bytesAt_cons, bytesAt_toList]
  rw [profileFieldsAt, ceilings, weights]
  simp only [ProfileFields.bytes, four, le16, List.cons_append, List.nil_append, Nat.zero_add,
    halfAt_le16, halfAt_cons, byteAt_cons, byteAt_head]

theorem curfewFieldAt_bytes (w : CurfewField) (rest : List Byte) : curfewFieldAt (w.bytes ++ rest) 0 = w := by
  simp only [curfewFieldAt, CurfewField.bytes, le16, List.cons_append, List.nil_append, Nat.zero_add, halfAt_le16,
    halfAt_cons, byteAt_head]

theorem curfewFieldAt_past (w : CurfewField) (rest : List Byte) (k : Nat) :
    curfewFieldAt (w.bytes ++ rest) (k + 5) = curfewFieldAt rest k := rfl

theorem curfewFieldAt_cons (b : Byte) (bs : List Byte) (k : Nat) :
    curfewFieldAt (b :: bs) (k + 1) = curfewFieldAt bs k := by
  simp only [curfewFieldAt, Nat.add_right_comm k 1, byteAt_cons, halfAt_cons]

theorem profileFieldsAt_cons (b : Byte) (bs : List Byte) (k : Nat) :
    profileFieldsAt (b :: bs) (k + 1) = profileFieldsAt bs k := by
  simp only [profileFieldsAt, Nat.add_right_comm k 1, byteAt_cons, halfAt_cons, bytesAt_cons]

section
variable (hd : Header) (code : Byte) (body : List Byte) (toggle : Bool)

theorem eventCoreAt_recordBody : eventCoreAt (recordBytes hd code body toggle) 10 = eventCoreAt body 0 := by
  simp [eventCoreAt, byteAt_recordBody, halfAt_recordBody, wordAt_recordBody]

theorem profileFieldsAt_recordBody : profileFieldsAt (recordBytes hd code body toggle) 11 = profileFieldsAt body 1 := by
  simp [profileFieldsAt, byteAt_recordBody, halfAt_recordBody, bytesAt_recordBody]

theorem curfewFieldAt_recordBody (k : Nat) (inside : k < 46) :
    curfewFieldAt (recordBytes hd code body toggle) (k + 10) = curfewFieldAt body k := by
  simp only [curfewFieldAt, Nat.add_right_comm k 10]
  rw [byteAt_recordBody hd code body toggle k (by omega), halfAt_recordBody hd code body toggle (k + 1) (by omega),
    halfAt_recordBody hd code body toggle (k + 3) (by omega)]

end

theorem vector_four {α : Type} (v : Vector α 4) : #v[v[0], v[1], v[2], v[3]] = v := by
  ext k hk
  interval_cases k <;> rfl

/-- The four curfew windows, each read past the ones before it. -/
theorem curfewFields_read (profile count : Byte) (windows : Vector CurfewField 4) (bs : List Byte)
    (made : bs = profile :: count :: (windows[0].bytes ++ windows[1].bytes ++ windows[2].bytes ++ windows[3].bytes)) :
    #v[curfewFieldAt bs 2, curfewFieldAt bs 7, curfewFieldAt bs 12, curfewFieldAt bs 17] = windows := by
  have last : curfewFieldAt windows[3].bytes 0 = windows[3] := by simpa using curfewFieldAt_bytes windows[3] []
  simp only [made, curfewFieldAt_cons, List.append_assoc, curfewFieldAt_past, curfewFieldAt_bytes, last]
  exact vector_four windows

/-- A code that names no command is read as such (R47). -/
theorem decodeRecord_unknown (lane : Fin 4) (bs : List Byte) (unknown : bodyLength (byteAt bs 0) = none) :
    decodeRecord lane bs = .unknownCommand (headerAt lane bs) (byteAt bs 0) := by
  unfold decodeRecord
  split
  case h_38 => rfl
  all_goals
    next code => rw [bodyLength, code] at unknown; cases unknown

/-- A record command is read back from its record: every body is a row of fields, each read where it stands (R200, R201). -/
theorem decodeRecord_recordBytes (i : Instr) (hd : Header) (code : Byte) (body : List Byte) (toggle : Bool)
    (parts : recordParts i = some (hd, code, body)) (formed : i.wellFormed = true) :
    decodeRecord hd.lane (recordBytes hd code body toggle) = i := by
  cases i <;> cases parts
  case unknownCommand =>
    have unknown : bodyLength code = none := Option.isNone_iff_eq_none.mp formed
    rw [decodeRecord_unknown _ (recordBytes hd code [] toggle) unknown, headerAt_recordBytes, byteAt_recordCode]
  case profileCurfew profile count windows =>
    have read := curfewFields_read profile count windows _ rfl
    simp only [decodeRecord, byteAt_recordCode, headerAt_recordBytes, byteAt_recordBody, curfewFieldAt_recordBody,
      Nat.reduceLT, BitVec.reduceToNat, read, byteAt_head, byteAt_cons]
  all_goals
    simp only [decodeRecord, byteAt_recordCode, headerAt_recordBytes, halfAt_recordBody, wordAt_recordBody,
      byteAt_recordBody, bytesAt_recordBody, eventCoreAt_recordBody, profileFieldsAt_recordBody, le16, le32, halfAt_le16,
      halfAt_cons, byteAt_cons, byteAt_head, wordAt_le32, wordAt_cons, bytesAt_cons, bytesAt_toList, eventCoreAt_bytes,
      profileFieldsAt_cons, profileFieldsAt_bytes, BitVec.reduceToNat, Nat.reduceLT, Nat.reduceAdd, Nat.reduceLeDiff,
      List.cons_append, List.nil_append]

end Sys2Proof.Machine
end

section
/-! PROOFS. A record that reaches its lane in two bursts (R40 to R44; log 5). -/

namespace Sys2Proof.Machine

/-! ### A record command's run, and the taking of a closed record -/

/-- A well-formed record command closes its record in its lane, whether or not it names a command (log 5). -/
theorem runs_recordParts (i : Instr) (hd : Header) (code : Byte) (body : List Byte) (s : State)
    (parts : recordParts i = some (hd, code, body)) (formed : i.wellFormed = true) :
    Runs i s (presentRecord (handlerOf i) hd code body s) := by
  cases handler : handlerOf i with
  | some H => exact handler ▸ runs_record i H hd code body s parts handler
  | none =>
    cases i <;> cases parts <;> cases handler
    exact runs_unknownCommand s hd code (Option.isNone_iff_eq_none.mp formed)

theorem presentRecord_takes (H : Option Handler) (hd : Header) (code : Byte) (body : List Byte) (s : State)
    (listening : Listening s hd) :
    presentRecord H hd code body s = takeOne hd.lane (takeRecord H code hd (s.closedIn hd code body)) := by
  have reaches : s.trafficReaches = true := by
    simp [State.trafficReaches, State.decodes, State.tracks, State.isReleased, listening.running, listening.line,
      listening.enabled, listening.active]
  have running : s.isRunning = true := decide_eq_true listening.running
  simp only [presentRecord, reaches, listening.curOpen, running, Bool.not_false, if_true]
  rfl

/-- What stands closed in a lane is taken as the command it names (R44, R47). -/
theorem takeHeld_closedIn (i : Instr) (hd : Header) (code : Byte) (body : List Byte) (s : State)
    (parts : recordParts i = some (hd, code, body)) (formed : i.wellFormed = true) (listening : Listening s hd) :
    takeHeld hd.lane (s.closedIn hd code body) = presentRecord (handlerOf i) hd code body s := by
  have taken : takeOne hd.lane (s.closedIn hd code body) = takeRecord (handlerOf i) code hd (s.closedIn hd code body) := by
    simp only [takeOne, closedIn_lane, if_true, decodeRecord_recordBytes i hd code body _ parts formed,
      byteAt_recordCode, headerAt_recordBytes]
  rw [takeHeld, taken, presentRecord_takes _ hd code body s listening]

/-! ### Bytes laid over a buffer (R41) -/

theorem overlay_whole (bs new : List Byte) (fits : new.length ≤ bs.length) :
    overlay bs (new.map some) = new ++ bs.drop new.length := by
  induction bs generalizing new with
  | nil => rw [List.eq_nil_of_length_eq_zero (Nat.le_zero.mp fits)]; rfl
  | cons b bs ih =>
    cases new with
    | nil => rfl
    | cons n new => exact congrArg (n :: ·) (ih new (Nat.le_of_succ_le_succ fits))

/-- Two unmasked halves laid over a buffer of their joint length replace it. -/
theorem overlayAt_halves (bs new : List Byte) (half : Nat) (old : bs.length = 2 * half) (length : new.length = 2 * half) :
    overlayAt (overlayAt bs 0 ((new.take half).map some)) half ((new.drop half).map some) = new := by
  have front : (new.take half).length = half := by rw [List.length_take]; omega
  have first : overlayAt bs 0 ((new.take half).map some) = new.take half ++ bs.drop half := by
    rw [overlayAt, List.take_zero, List.drop_zero, List.nil_append, overlay_whole _ _ (by omega), front]
  have rest : (bs.drop half).length = (new.drop half).length := by rw [List.length_drop, List.length_drop, old, length]
  rw [first, overlayAt, List.take_left' front, List.drop_left' front, overlay_whole _ _ (le_of_eq rest.symm), ← rest,
    List.drop_length, List.append_nil, List.take_append_drop]

/-! ### The two bursts (R42, R43) -/

theorem closingToggle_short (d : Delivery) (short : d.block % 64 + d.bytes.length ≠ 64) : d.closingToggle = none :=
  if_neg short

/-- A burst that ends in the record's closing word, unmasked, closes with its toggle. -/
theorem closingToggle_record (hd : Header) (code : Byte) (body : List Byte) (toggle : Bool) (d : Delivery)
    (place : d.block % 64 = 32) (bytes : d.bytes = ((recordBytes hd code body toggle).drop 32).map some) :
    d.closingToggle = some (flagByte toggle) := by
  obtain ⟨front, length, closing⟩ := recordBytes_closing hd code body toggle
  have size : d.bytes.length = 32 := by rw [bytes, List.length_map, List.length_drop, recordBytes_length]
  have last : d.bytes.drop (d.bytes.length - 4) = (le16 hd.tag ++ [flagByte toggle, 0x5A]).map some := by
    rw [size, bytes, ← List.map_drop, List.drop_drop, closing, List.drop_left' length]
  rw [Delivery.closingToggle, if_pos (by rw [place, size]), last]
  rfl

theorem setLane_setLane (s : State) (n : Fin 4) (x y : Lane) : (s.setLane n x).setLane n y = s.setLane n y := by
  simp only [State.setLane, putAt, Vector.set_set]

/-- The first burst is copied into the open buffer and closes nothing. -/
theorem laneDelivery_firstHalf (s : State) (lane : Fin 4) (d : Delivery) (opened : (s.lane lane).cur.closed = false)
    (short : d.closingToggle = none) :
    laneDelivery lane (s.lane lane).expected d s = s.setLane lane
      { s.lane lane with cur := { bytes := overlayAt (s.lane lane).cur.bytes (d.block % 64) d.bytes, closed := false } } := by
  obtain ⟨-, -, -, -, -, copied, -⟩ := laneDeliveryRules s lane (s.lane lane).expected d
  exact copied rfl opened (by simp [short])

end Sys2Proof.Machine
end

section
open Sys2Proof Sys2Proof.Machine

/-- Settles O19: the two bursts leave the lane's buffer as the record closed whole leaves it, and what is taken from it is
the record's own command. -/
theorem wholeRecordByBursts : Obligations.WholeRecordByBursts := by
  intro i h code body s low high parts formed listening size lowPlace lowBytes highPlace highBytes
  have opened := listening.curOpen
  have lowShort : low.closingToggle = none := closingToggle_short low (by
    rw [lowPlace, lowBytes, List.length_map, List.length_take, recordBytes_length]; decide)
  have closes := closingToggle_record h code body _ high highPlace highBytes
  have first := laneDelivery_firstHalf s h.lane low opened lowShort
  generalize laneDelivery h.lane (s.lane h.lane).expected low s = mid at first ⊢
  have lane : mid.lane h.lane = { s.lane h.lane with
      cur := { bytes := overlayAt (s.lane h.lane).cur.bytes (low.block % 64) low.bytes, closed := false } } :=
    first ▸ lane_setLane_same s h.lane _
  have staged : stagedCur h.lane high mid = s.closedIn h code body := by
    have bytes := overlayAt_halves _ (recordBytes h code body (s.lane h.lane).toggle) 32 size (recordBytes_length _ _ _ _)
    rw [stagedCur_open _ _ _ (by rw [lane]), lane, first, setLane_setLane, lowPlace, lowBytes, highPlace, highBytes, bytes]
    simp only [closes, decide_true]
    rfl
  have running : mid.isRunning = true := first ▸ decide_eq_true listening.running
  have second := laneDelivery_expected h.lane high mid
  rw [running, staged, lane, Bool.not_false, Bool.and_true, if_pos rfl,
    takeHeld_closedIn i h code body s parts formed listening] at second
  exact second ▸ runs_recordParts i h code body s parts formed

end

section
/-! PROOFS. The programme rating table as a list: its order, what an entry's insertion keeps of its laws, and the entry a full
table gives up (R58, R61 to R65). -/

namespace Sys2Proof.Machine

/-! ### The order of the table (R61) -/

theorem intersects_iff (e f : Entry) :
    e.intersects f = true ↔ e.start < f.start + f.duration ∧ f.start < e.start + e.duration := decide_eq_true_iff

theorem before_iff (e f : Entry) :
    e.before f = true ↔ e.service < f.service ∨ (e.service = f.service ∧ e.start < f.start) := decide_eq_true_iff

theorem Entry.precedes.trans {e f g : Entry} (a : e.precedes f) (b : f.precedes g) : e.precedes g := by
  simp only [Entry.precedes] at *
  omega

/-- Every part of a lawful table is lawful. -/
theorem TableLawful.sublist {t u : List Entry} (lawful : TableLawful t) (part : u.Sublist t) : TableLawful u := by
  obtain ⟨size, ranges, order, keys⟩ := lawful
  exact ⟨part.length_le.trans size, fun e member => ranges e (part.subset member), order.sublist part, keys.sublist part⟩

/-- Two entries whose spans do not intersect, or of two services, stand in one order or the other: `before` tells which
(R61). -/
theorem precedes_of_before {e f : Entry} (apart : f.service = e.service → ¬ f.intersects e = true)
    (lasts : 1 ≤ f.duration) (before : e.before f = true) : e.precedes f := by
  rw [intersects_iff] at apart
  rcases (before_iff e f).mp before with earlier | ⟨same, starts⟩
  · exact .inl earlier
  · have := apart same.symm
    exact .inr ⟨same, by omega⟩

theorem precedes_of_not_before {e f : Entry} (apart : f.service = e.service → ¬ f.intersects e = true)
    (lasts : 1 ≤ e.duration) (after : ¬ e.before f = true) : f.precedes e := by
  rw [intersects_iff] at apart
  rw [before_iff] at after
  rcases Nat.lt_trichotomy f.service e.service with earlier | same | later
  · exact .inl earlier
  · have := apart same
    exact .inr ⟨same, by omega⟩
  · exact absurd (.inl later) after

theorem insertSorted_perm (e : Entry) (t : List Entry) : (insertSorted e t).Perm (e :: t) := by
  induction t with
  | nil => exact .refl _
  | cons x xs ih =>
    rw [insertSorted]
    split
    · exact .refl _
    · exact (ih.cons x).trans (.swap e x xs)

theorem mem_insertSorted (e f : Entry) (t : List Entry) : f ∈ insertSorted e t ↔ f = e ∨ f ∈ t := by
  rw [(insertSorted_perm e t).mem_iff, List.mem_cons]

theorem insertSorted_length (e : Entry) (t : List Entry) : (insertSorted e t).length = t.length + 1 :=
  (insertSorted_perm e t).length_eq

/-- An entry that intersects none of its service takes its place in the order (R61). -/
theorem insertSorted_ordered (e : Entry) (t : List Entry) (lasts : 1 ≤ e.duration) (ranges : ∀ f ∈ t, f.Lawful)
    (order : t.Pairwise Entry.precedes) (apart : ∀ f ∈ t, f.service = e.service → ¬ f.intersects e = true) :
    (insertSorted e t).Pairwise Entry.precedes := by
  induction t with
  | nil => exact List.pairwise_singleton _ e
  | cons x xs ih =>
    obtain ⟨first, rest⟩ := List.pairwise_cons.mp order
    obtain ⟨rangeX, rangeXs⟩ := List.forall_mem_cons.mp ranges
    obtain ⟨apartX, apartXs⟩ := List.forall_mem_cons.mp apart
    rw [insertSorted]
    split
    next before =>
      obtain ⟨-, -, -, lastsX, -, -⟩ := rangeX
      have front := precedes_of_before apartX lastsX before
      refine List.pairwise_cons.mpr ⟨fun f member => ?_, order⟩
      rcases List.mem_cons.mp member with rfl | later
      · exact front
      · exact front.trans (first f later)
    next after =>
      refine List.pairwise_cons.mpr ⟨fun f member => ?_, ih rangeXs rest apartXs⟩
      rcases (mem_insertSorted e f xs).mp member with rfl | later
      · exact precedes_of_not_before apartX lasts after
      · exact first f later

/-! ### What an insert leaves (R63) -/

/-- What steps 2 and 3 of an insert leave of a table (R63). -/
def sparedBy (e : Entry) (t : List Entry) : List Entry := t.filter fun f => decide (e.Spares f)

theorem sparedBy_sublist (e : Entry) (t : List Entry) : (sparedBy e t).Sublist t := List.filter_sublist

theorem mem_sparedBy (e f : Entry) (t : List Entry) : f ∈ sparedBy e t ↔ f ∈ t ∧ e.Spares f := by
  rw [sparedBy, List.mem_filter, decide_eq_true_eq]

/-- Among entries of other keys, the service's entries whose spans intersect are those that give way. -/
theorem spares_iff {e f : Entry} (other : f.key ≠ e.key) :
    (!(decide (f.service = e.service) && f.intersects e)) = decide (e.Spares f) := by
  rw [Bool.eq_iff_iff, Bool.not_eq_true', Bool.and_eq_false_iff, decide_eq_false_iff_not, decide_eq_true_eq,
    ← Bool.not_eq_true, intersects_iff]
  simp only [Entry.Spares, Entry.GivesWay]
  tauto

/-- Steps 4 and 5 of an insert on what the steps before have left (R63, R64). -/
def makeRoom (now : Option Nat) (pinned : List Key) (e : Entry) (replaced : Bool) (overlap : Nat) (kept : List Entry) :
    InsertResult :=
  if kept.length < 1024 then .stored (insertSorted e kept) replaced overlap none
  else
    match evictee now pinned e kept with
    | some x => .stored (insertSorted e (kept.erase x)) replaced overlap (some x)
    | none => .full

/-- The insert's steps 3 to 5 on a table without the new key. -/
theorem storeEntry_eq (now : Option Nat) (pinned : List Key) (e : Entry) (replaced : Bool) (t : List Entry)
    (other : ∀ f ∈ t, f.key ≠ e.key) :
    storeEntry now pinned e replaced t
      = makeRoom now pinned e replaced (t.filter fun f => decide (e.GivesWay f)).length (sparedBy e t) := by
  have kept : (t.filter fun f => !(decide (f.service = e.service) && f.intersects e)) = sparedBy e t :=
    List.filter_congr fun f member => spares_iff (other f member)
  have gone : t.length - (sparedBy e t).length = (t.filter fun f => decide (e.GivesWay f)).length := by
    have split := List.length_eq_length_filter_add (l := t) fun f => decide (e.GivesWay f)
    have rest : (t.filter fun f => !decide (e.GivesWay f)) = sparedBy e t :=
      List.filter_congr fun f member => by
        rw [Bool.eq_iff_iff, Bool.not_eq_true', decide_eq_false_iff_not, decide_eq_true_eq]
        exact ⟨fun stays => ⟨other f member, stays⟩, fun spared => spared.2⟩
    rw [rest] at split
    omega
  rw [storeEntry, kept]
  simp only [gone]
  rfl

theorem storeEntry_newKey (now : Option Nat) (pinned : List Key) (e : Entry) (replaced : Bool) (t : List Entry) :
    storeEntry now pinned e replaced (t.filter fun f => f.key ≠ e.key)
      = makeRoom now pinned e replaced (t.filter fun f => decide (e.GivesWay f)).length (sparedBy e t) := by
  have gone : ((t.filter fun f => f.key ≠ e.key).filter fun f => decide (e.GivesWay f))
      = t.filter fun f => decide (e.GivesWay f) := by
    rw [List.filter_filter]
    refine List.filter_congr fun f _ => ?_
    rw [Bool.eq_iff_iff, Bool.and_eq_true, decide_eq_true_eq, decide_eq_true_eq]
    exact and_iff_left_of_imp And.left
  have kept : sparedBy e (t.filter fun f => f.key ≠ e.key) = sparedBy e t := by
    rw [sparedBy, sparedBy, List.filter_filter]
    refine List.filter_congr fun f _ => ?_
    rw [Bool.eq_iff_iff, Bool.and_eq_true, decide_eq_true_eq, decide_eq_true_eq]
    exact and_iff_left_of_imp And.left
  rw [storeEntry_eq _ _ _ _ _ fun f member => by simpa using (List.mem_filter.mp member).2, gone, kept]

theorem entryOfKey_none (t : List Entry) (k : Key) : entryOfKey t k = none ↔ ∀ f ∈ t, f.key ≠ k := by
  simp [entryOfKey]

/-- Under one key a lawful table holds one entry at most (R58). -/
theorem entryOfKey_eq_some {t : List Entry} (keys : t.Pairwise fun e f => e.key ≠ f.key) {k : Key} {e : Entry}
    (held : e ∈ t) (key : e.key = k) : entryOfKey t k = some e := by
  induction t with
  | nil => cases held
  | cons x xs ih =>
    obtain ⟨first, rest⟩ := List.pairwise_cons.mp keys
    rw [entryOfKey, List.find?_cons]
    rcases List.mem_cons.mp held with rfl | later
    · simp [key]
    · have differs : x.key ≠ k := key ▸ first e later
      simp only [differs, decide_false]
      exact ih rest later

theorem versionNewer_iff (new old : Nat) : versionNewer new old = true ↔ Newer new old := by
  simp [versionNewer]

/-- A table that holds the key under a version the new one is not newer than (R62). -/
theorem insertEntry_stale (now : Option Nat) (pinned : List Key) (e old : Entry) (t : List Entry)
    (held : entryOfKey t e.key = some old) (older : ¬ Newer e.version old.version) :
    insertEntry now pinned e t = .stale old := by
  simp only [insertEntry, held, mt (versionNewer_iff _ _).mp older, Bool.false_eq_true, if_false]

/-- A table that holds the key under a version the new one is newer than (R62, R63). -/
theorem insertEntry_newer (now : Option Nat) (pinned : List Key) (e old : Entry) (t : List Entry)
    (held : entryOfKey t e.key = some old) (newer : Newer e.version old.version) :
    insertEntry now pinned e t
      = makeRoom now pinned e true (t.filter fun f => decide (e.GivesWay f)).length (sparedBy e t) := by
  simp only [insertEntry, held, (versionNewer_iff _ _).mpr newer, if_true]
  exact storeEntry_newKey now pinned e true t

/-- A table that does not hold the key (R63). -/
theorem insertEntry_absent (now : Option Nat) (pinned : List Key) (e : Entry) (t : List Entry)
    (absent : entryOfKey t e.key = none) :
    insertEntry now pinned e t
      = makeRoom now pinned e false (t.filter fun f => decide (e.GivesWay f)).length (sparedBy e t) := by
  simp only [insertEntry, absent]
  exact storeEntry_eq now pinned e false t ((entryOfKey_none t e.key).mp absent)

/-- An insert refuses a version not newer than its key's, or makes room among what it spares (R63). -/
theorem insertEntry_cases (now : Option Nat) (pinned : List Key) (e : Entry) (t : List Entry) :
    (∃ old, insertEntry now pinned e t = .stale old)
      ∨ ∃ replaced overlap, insertEntry now pinned e t = makeRoom now pinned e replaced overlap (sparedBy e t) := by
  cases held : entryOfKey t e.key with
  | none => exact .inr ⟨_, _, insertEntry_absent now pinned e t held⟩
  | some old =>
    by_cases newer : Newer e.version old.version
    · exact .inr ⟨_, _, insertEntry_newer now pinned e old t held newer⟩
    · exact .inl ⟨old, insertEntry_stale now pinned e old t held newer⟩

/-! ### The entry a full table gives up (R64, R65) -/

theorem earliestEnd_eq_argmin (t : List Entry) : earliestEnd t = t.argmin Entry.stop := by
  induction t with
  | nil => rfl
  | cons e es ih =>
    rw [earliestEnd, ih, List.argmin_cons]
    cases es.argmin Entry.stop <;> rfl

theorem latestStart_eq_argmax (t : List Entry) : latestStart t = t.argmax Entry.start := by
  induction t with
  | nil => rfl
  | cons e es ih =>
    rw [latestStart, ih, List.argmax_cons]
    cases es.argmax Entry.start <;> rfl

/-- In a lawful table the order of the list is the order of services, then of starts (R61). -/
theorem idxOf_le_iff {t : List Entry} (lawful : TableLawful t) {x f : Entry} (heldX : x ∈ t) (heldF : f ∈ t) :
    t.idxOf x ≤ t.idxOf f ↔ x.service < f.service ∨ (x.service = f.service ∧ x.start ≤ f.start) := by
  obtain ⟨-, ranges, order, -⟩ := lawful
  have strict : ∀ {a b}, a ∈ t → b ∈ t → t.idxOf a < t.idxOf b →
      a.service < b.service ∨ (a.service = b.service ∧ a.start < b.start) := by
    intro a b heldA heldB ahead
    have precedes := List.pairwise_iff_getElem.mp order _ _ (List.idxOf_lt_length_of_mem heldA)
      (List.idxOf_lt_length_of_mem heldB) ahead
    rw [List.getElem_idxOf, List.getElem_idxOf] at precedes
    obtain ⟨-, -, -, lasts, -, -⟩ := ranges a heldA
    simp only [Entry.precedes] at precedes
    omega
  constructor
  · intro ahead
    rcases Nat.lt_or_eq_of_le ahead with less | same
    · have := strict heldX heldF less
      omega
    · rw [(List.idxOf_inj heldX).mp same]
      exact .inr ⟨rfl, le_rfl⟩
  · intro first
    by_contra behind
    have := strict heldF heldX (Nat.lt_of_not_le behind)
    omega

/-- Rule a's choice is the first entry of the earliest end (R64 a). -/
theorem earliestEnd_iff (w : Nat) {t : List Entry} (lawful : TableLawful t) (x : Entry) :
    earliestEnd (t.filter fun e => decide (e.stop ≤ w)) = some x ↔ EndedFirst w t x := by
  have listed : ∀ f, f ∈ (t.filter fun e => decide (e.stop ≤ w)) ↔ f ∈ t ∧ f.start + f.duration ≤ w := fun f => by
    rw [List.mem_filter, decide_eq_true_eq, Entry.stop]
  have part := lawful.sublist (List.filter_sublist (p := fun e => decide (e.stop ≤ w)))
  rw [earliestEnd_eq_argmin, ← Option.mem_def, List.mem_argmin_iff, listed]
  constructor
  · rintro ⟨⟨held, ended⟩, least, first⟩
    refine ⟨held, ended, fun f heldF endedF => ?_⟩
    rcases Nat.lt_or_eq_of_le (least f ((listed f).mpr ⟨heldF, endedF⟩)) with less | same
    · exact .inl less
    · exact .inr ⟨same, (idxOf_le_iff part ((listed x).mpr ⟨held, ended⟩) ((listed f).mpr ⟨heldF, endedF⟩)).mp
        (first f ((listed f).mpr ⟨heldF, endedF⟩) (le_of_eq same.symm))⟩
  · rintro ⟨held, ended, first⟩
    refine ⟨⟨held, ended⟩, fun f member => ?_, fun f member least => ?_⟩
    · obtain ⟨heldF, endedF⟩ := (listed f).mp member
      rcases first f heldF endedF with less | ⟨same, -⟩
      · exact le_of_lt less
      · exact le_of_eq same
    · obtain ⟨heldF, endedF⟩ := (listed f).mp member
      refine (idxOf_le_iff part ((listed x).mpr ⟨held, ended⟩) member).mpr ?_
      rcases first f heldF endedF with less | ⟨-, order⟩
      · exact absurd (lt_of_lt_of_le less least) (lt_irrefl _)
      · exact order

/-- Rule b's choice is the first unpinned entry of the latest start (R64 b, R65). -/
theorem latestUnpinned_iff (pinned : List Key) (e : Entry) {t : List Entry} (lawful : TableLawful t) (x : Entry) :
    latestUnpinned pinned t = some x ∧ e.start < x.start ↔ LatestFirst pinned e t x := by
  have free : ∀ f, f ∈ (t.filter fun f => !pinned.contains f.key) ↔ f ∈ t ∧ f.key ∉ pinned := fun f => by
    simp [List.mem_filter]
  have part := lawful.sublist (List.filter_sublist (p := fun f => !pinned.contains f.key))
  rw [latestUnpinned, latestStart_eq_argmax, ← Option.mem_def, List.mem_argmax_iff, free]
  constructor
  · rintro ⟨⟨⟨held, unpinned⟩, greatest, first⟩, nearer⟩
    refine ⟨held, unpinned, fun f heldF unpinnedF => ?_, nearer⟩
    rcases Nat.lt_or_eq_of_le (greatest f ((free f).mpr ⟨heldF, unpinnedF⟩)) with less | same
    · exact .inl less
    · have order := (idxOf_le_iff part ((free x).mpr ⟨held, unpinned⟩) ((free f).mpr ⟨heldF, unpinnedF⟩)).mp
        (first f ((free f).mpr ⟨heldF, unpinnedF⟩) (le_of_eq same.symm))
      exact .inr ⟨same, by omega⟩
  · rintro ⟨held, unpinned, latest, nearer⟩
    refine ⟨⟨⟨held, unpinned⟩, fun f member => ?_, fun f member greatest => ?_⟩, nearer⟩
    · obtain ⟨heldF, unpinnedF⟩ := (free f).mp member
      rcases latest f heldF unpinnedF with less | ⟨same, -⟩
      · exact le_of_lt less
      · exact le_of_eq same
    · obtain ⟨heldF, unpinnedF⟩ := (free f).mp member
      refine (idxOf_le_iff part ((free x).mpr ⟨held, unpinned⟩) member).mpr ?_
      rcases latest f heldF unpinnedF with less | ⟨same, order⟩ <;> omega

theorem earliestEnd_none (w : Nat) (t : List Entry) :
    earliestEnd (t.filter fun e => decide (e.stop ≤ w)) = none ↔ ∀ f ∈ t, w < f.start + f.duration := by
  rw [earliestEnd_eq_argmin, List.argmin_eq_none, List.filter_eq_nil_iff]
  simp only [decide_eq_true_eq, Nat.not_le]
  rfl

/-- Rule a is tried first; where the clock is UNSET or no entry has ended it names none (R64). -/
theorem evictee_ended (w : Nat) (pinned : List Key) (e x : Entry) (t : List Entry)
    (first : earliestEnd (t.filter fun e => decide (e.stop ≤ w)) = some x) : evictee (some w) pinned e t = some x := by
  simp only [evictee, Option.bind_some, first]

theorem evictee_running (now : Option Nat) (pinned : List Key) (e x : Entry) (t : List Entry)
    (running : ∀ w, now = some w → ∀ f ∈ t, w < f.start + f.duration) :
    evictee now pinned e t = some x ↔ latestUnpinned pinned t = some x ∧ e.start < x.start := by
  have none : (now.bind fun w => earliestEnd (t.filter fun e => decide (e.stop ≤ w))) = none := by
    cases now with
    | none => rfl
    | some w => exact (earliestEnd_none w t).mpr (running w rfl)
  rw [evictee, none]
  cases latestUnpinned pinned t with
  | none => simp
  | some y =>
    simp only [Option.some.injEq, Option.ite_none_right_eq_some]
    constructor
    · rintro ⟨nearer, rfl⟩; exact ⟨rfl, nearer⟩
    · rintro ⟨rfl, nearer⟩; exact ⟨nearer, rfl⟩

/-- A full table gives up the entry that R64 names. -/
theorem evictee_iff (now : Option Nat) (pinned : List Key) (e : Entry) {t : List Entry} (lawful : TableLawful t)
    (x : Entry) : evictee now pinned e t = some x ↔ GivenUp now pinned e t x := by
  by_cases running : ∀ w, now = some w → ∀ f ∈ t, w < f.start + f.duration
  · rw [evictee_running now pinned e x t running, latestUnpinned_iff pinned e lawful]
    refine ⟨fun latest => .inr ⟨running, latest⟩, ?_⟩
    rintro (⟨w, rfl, held, ended, -⟩ | ⟨-, latest⟩)
    · exact absurd (running w rfl x held) (Nat.not_lt.mpr ended)
    · exact latest
  · push Not at running
    obtain ⟨w, rfl, f, held, ended⟩ := running
    have some : earliestEnd (t.filter fun e => decide (e.stop ≤ w)) ≠ none := fun none =>
      absurd ((earliestEnd_none w t).mp none f held) (Nat.not_lt.mpr ended)
    obtain ⟨y, first⟩ := Option.ne_none_iff_exists'.mp some
    rw [evictee_ended w pinned e y t first, ← first, earliestEnd_iff w lawful]
    refine ⟨fun ended => .inl ⟨w, rfl, ended⟩, ?_⟩
    rintro (⟨v, same, ended⟩ | ⟨running, -⟩)
    · exact Option.some.inj same ▸ ended
    · exact absurd (running w rfl f held) (Nat.not_lt.mpr ended)

theorem latestUnpinned_mem {pinned : List Key} {t : List Entry} {x : Entry} (h : latestUnpinned pinned t = some x) :
    x ∈ t := by
  rw [latestUnpinned, latestStart_eq_argmax] at h
  exact (List.mem_filter.mp (List.argmax_mem h)).1

/-- What is given up stood in the table. -/
theorem evictee_mem {now : Option Nat} {pinned : List Key} {e x : Entry} {t : List Entry}
    (h : evictee now pinned e t = some x) : x ∈ t := by
  by_cases running : ∀ w, now = some w → ∀ f ∈ t, w < f.start + f.duration
  · exact latestUnpinned_mem ((evictee_running now pinned e x t running).mp h).1
  · push Not at running
    obtain ⟨w, rfl, f, held, ended⟩ := running
    have some : earliestEnd (t.filter fun e => decide (e.stop ≤ w)) ≠ none := fun none =>
      absurd ((earliestEnd_none w t).mp none f held) (Nat.not_lt.mpr ended)
    obtain ⟨y, first⟩ := Option.ne_none_iff_exists'.mp some
    rw [evictee_ended w pinned e y t first] at h
    rw [earliestEnd_eq_argmin, Option.some.inj h] at first
    exact (List.mem_filter.mp (List.argmin_mem first)).1

/-! ### What a stored insert leaves (R61, R63) -/

theorem makeRoom_roomy (now : Option Nat) (pinned : List Key) (e : Entry) (replaced : Bool) (overlap : Nat)
    (kept : List Entry) (room : kept.length < 1024) :
    makeRoom now pinned e replaced overlap kept = .stored (insertSorted e kept) replaced overlap none := if_pos room

theorem makeRoom_evicts (now : Option Nat) (pinned : List Key) (e x : Entry) (replaced : Bool) (overlap : Nat)
    (kept : List Entry) (crowded : 1024 ≤ kept.length) (given : evictee now pinned e kept = some x) :
    makeRoom now pinned e replaced overlap kept
      = .stored (insertSorted e (kept.erase x)) replaced overlap (some x) := by
  rw [makeRoom, if_neg (Nat.not_lt.mpr crowded), given]

theorem makeRoom_full (now : Option Nat) (pinned : List Key) (e : Entry) (replaced : Bool) (overlap : Nat)
    (kept : List Entry) (crowded : 1024 ≤ kept.length) (given : evictee now pinned e kept = none) :
    makeRoom now pinned e replaced overlap kept = .full := by
  rw [makeRoom, if_neg (Nat.not_lt.mpr crowded), given]

/-- What a stored insert left of `kept` around the new entry. -/
structure Stored (e : Entry) (kept table : List Entry) (evicted : Option Entry) : Prop where
  made : ∃ part, table = insertSorted e part ∧ part.Sublist kept ∧ (kept.length ≤ 1024 → part.length < 1024)
  others : ∀ f ∈ kept, evicted ≠ some f → f ∈ table

theorem insertEntry_stored {now : Option Nat} {pinned : List Key} {e : Entry} {t table : List Entry} {replaced : Bool}
    {overlap : Nat} {evicted : Option Entry} (stored : insertEntry now pinned e t = .stored table replaced overlap evicted) :
    Stored e (sparedBy e t) table evicted := by
  rcases insertEntry_cases now pinned e t with ⟨old, stale⟩ | ⟨r, n, made⟩
  · rw [stale] at stored; cases stored
  rw [made] at stored
  rcases Nat.lt_or_ge (sparedBy e t).length 1024 with room | crowded
  · rw [makeRoom_roomy _ _ _ _ _ _ room] at stored
    cases stored
    exact ⟨⟨_, rfl, .refl _, fun _ => room⟩, fun f held _ => (mem_insertSorted e f _).mpr (.inr held)⟩
  · cases given : evictee now pinned e (sparedBy e t) with
    | none => rw [makeRoom_full _ _ _ _ _ _ crowded given] at stored; cases stored
    | some x =>
      rw [makeRoom_evicts _ _ _ x _ _ _ crowded given] at stored
      cases stored
      have size := List.length_erase_of_mem (evictee_mem given)
      refine ⟨⟨_, rfl, List.erase_sublist, fun full => by omega⟩, fun f held stays => ?_⟩
      have other : f ≠ x := fun same => stays (congrArg some same.symm)
      exact (mem_insertSorted e f _).mpr (.inr ((List.mem_erase_of_ne other).mpr held))

theorem Stored.mem {e : Entry} {kept table : List Entry} {evicted : Option Entry} (h : Stored e kept table evicted) :
    e ∈ table := by
  obtain ⟨part, rfl, -⟩ := h.made
  exact (mem_insertSorted e e part).mpr (.inl rfl)

/-- An insert keeps the laws of the table (R58, R61). -/
theorem insertEntry_lawful {now : Option Nat} {pinned : List Key} {e : Entry} {t table : List Entry} {replaced : Bool}
    {overlap : Nat} {evicted : Option Entry} (lawful : TableLawful t) (range : e.Lawful)
    (stored : insertEntry now pinned e t = .stored table replaced overlap evicted) : TableLawful table := by
  obtain ⟨part, rfl, sub, room⟩ := (insertEntry_stored stored).made
  have spared := lawful.sublist (sparedBy_sublist e t)
  obtain ⟨-, ranges, order, keys⟩ := spared.sublist sub
  have apart : ∀ f ∈ part, e.Spares f := fun f member => ((mem_sparedBy e f t).mp (sub.subset member)).2
  have lasts : 1 ≤ e.duration := by obtain ⟨-, -, -, lasts, -⟩ := range; exact lasts
  refine ⟨?_, fun f member => ?_, insertSorted_ordered e part lasts ranges order fun f member same => ?_, ?_⟩
  · rw [insertSorted_length]
    exact room spared.1
  · rcases (mem_insertSorted e f part).mp member with rfl | old
    · exact range
    · exact ranges f old
  · obtain ⟨other, stays⟩ := apart f member
    exact fun meets => stays ⟨other, same, (intersects_iff f e).mp meets⟩
  · refine ((insertSorted_perm e part).pairwise_iff fun differs same => differs same.symm).mpr ?_
    exact List.pairwise_cons.mpr ⟨fun f member => ((apart f member).1).symm, keys⟩

/-- An event core that R60 accepts, its start a time, is stored with its fields in range (R58, R60). -/
theorem entryOf_lawful {core : EventCore} {e : Entry} (start : core.start ≠ 0xFFFFFFFF) (made : entryOf core = some e) :
    e.Lawful := by
  unfold entryOf at made
  split at made
  next ratings category _ _ =>
    split at made
    · cases made
    next good =>
      rw [not_or] at good
      obtain ⟨lasts, version⟩ := good
      cases made
      have started : core.start.toNat ≠ 4294967295 := fun same => start (BitVec.eq_of_toNat_eq same)
      have nonzero : core.duration.toNat ≠ 0 := fun zero => lasts (BitVec.eq_of_toNat_eq zero)
      have service := core.service.isLt
      have event := core.event.isLt
      have time := core.start.isLt
      refine ⟨?_, ?_, ?_, ?_, ?_, ?_⟩ <;> simp only <;> omega
  next => cases made

end Sys2Proof.Machine
end

section
/-! PROOFS. The service table as a list: the entries SERVICE_WRITE accepts, and what putting, removing and stripping entries
keep of its laws (R59, R92 to R95, R101). -/

namespace Sys2Proof.Machine

/-! ### The entries SERVICE_WRITE accepts (R59, R94) -/

/-- A stored rating has a value below 15 (R59). -/
theorem ratingPosition_value {b : Byte} {r : Rating} (read : ratingPosition b = some (some r)) : r.value < 15 := by
  unfold ratingPosition at read
  split at read
  · cases read
  next used =>
    split at read <;> cases read
    exact Nat.lt_of_le_of_ne (Nat.le_of_lt_succ (Nat.mod_lt _ (by decide))) used

/-- A rating field stores what the load accepts of a rating list (R59, R191). -/
theorem ratingField_good {r0 r1 : Byte} {rs : List Rating} (read : ratingField r0 r1 = some rs) : goodRatings rs = true := by
  unfold ratingField at read
  split at read
  · cases read; rfl
  next a first _ => cases read; simp [goodRatings, ratingPosition_value first]
  next b _ second => cases read; simp [goodRatings, ratingPosition_value second]
  next a b first second =>
    have lowA := ratingPosition_value first
    have lowB := ratingPosition_value second
    split at read
    · cases read
    next differ =>
      split at read <;> cases read
      next rising => simp [goodRatings, lowA, lowB, rising]
      next falling =>
        have other : a.scheme.val ≠ b.scheme.val := fun same => differ (Fin.ext same)
        simp only [goodRatings, List.all_cons, List.all_nil, lowA, lowB, decide_true, Bool.and_self, Bool.true_and,
          decide_eq_true_eq]
        omega
  · cases read
  · cases read

theorem profileSetField_open {b : Byte} {set : BitVec 8} (read : profileSetField b = some set) : set.getLsbD 0 = false := by
  unfold profileSetField at read
  split at read <;> cases read
  next clear => exact Bool.eq_false_iff.mpr clear

/-- The entry of a SERVICE_WRITE's fields keeps an entry's rules (R93, R94). -/
theorem serviceFields_inRange {service : BitVec 16} {r0 r1 category allow block : Byte} {e : ServiceEntry}
    (made : serviceFields service r0 r1 category allow block = some e) : e.inRange = true := by
  unfold serviceFields at made
  split at made
  next ratings _ a b readRatings _ readAllow readBlock =>
    split at made
    · cases made
    next apart =>
      cases made
      have size := service.isLt
      have small : service.toNat ≤ 65535 := by omega
      simp only [ServiceEntry.inRange, small, ratingField_good readRatings, profileSetField_open readAllow,
        profileSetField_open readBlock, not_not.mp apart]
      rfl
  next => cases made

/-! ### The table (R92) -/

theorem servicesLawful_iff (t : List ServiceEntry) : ServicesLawful t ↔
    t.length ≤ 256 ∧ (t.Pairwise fun e f => e.service < f.service) ∧ ∀ e ∈ t, e.inRange = true := by
  simp only [serviceEntry_inRange_iff]

theorem servicesLawful_nil : ServicesLawful [] := ⟨Nat.zero_le _, .nil, nofun⟩

/-- Every part of a lawful service table is lawful. -/
theorem ServicesLawful.sublist {t u : List ServiceEntry} (lawful : ServicesLawful t) (part : u.Sublist t) :
    ServicesLawful u := by
  obtain ⟨size, rising, ranges⟩ := lawful
  exact ⟨part.length_le.trans size, rising.sublist part, fun e member => ranges e (part.subset member)⟩

theorem serviceEntry_none (t : List ServiceEntry) (service : Nat) :
    serviceEntry t service = none ↔ ∀ e ∈ t, e.service ≠ service := by
  simp [serviceEntry]

theorem mem_putService {e f : ServiceEntry} {t : List ServiceEntry} (member : f ∈ putService e t) : f = e ∨ f ∈ t := by
  induction t with
  | nil => exact .inl (List.mem_singleton.mp member)
  | cons x xs ih =>
    rw [putService] at member
    split at member
    · exact List.mem_cons.mp member
    · split at member
      · exact (List.mem_cons.mp member).imp_right (List.mem_cons_of_mem x)
      · rcases List.mem_cons.mp member with rfl | later
        · exact .inr List.mem_cons_self
        · exact (ih later).imp_right (List.mem_cons_of_mem x)

/-- An entry put takes its place in the order, where its service's entry stood if it had one (R92). -/
theorem putService_rising (e : ServiceEntry) (t : List ServiceEntry) (rising : t.Pairwise fun e f => e.service < f.service) :
    (putService e t).Pairwise fun e f => e.service < f.service := by
  induction t with
  | nil => exact List.pairwise_singleton _ e
  | cons x xs ih =>
    obtain ⟨first, rest⟩ := List.pairwise_cons.mp rising
    rw [putService]
    split
    next before =>
      refine List.pairwise_cons.mpr ⟨fun f member => ?_, rising⟩
      rcases List.mem_cons.mp member with rfl | later
      · exact before
      · exact before.trans (first f later)
    next notBefore =>
      split
      next same => exact List.pairwise_cons.mpr ⟨fun f later => same ▸ first f later, rest⟩
      next other =>
        refine List.pairwise_cons.mpr ⟨fun f member => ?_, ih rest⟩
        rcases mem_putService member with rfl | later
        · omega
        · exact first f later

/-- It lengthens the table where its service had no entry. -/
theorem putService_length (e : ServiceEntry) (t : List ServiceEntry) (rising : t.Pairwise fun e f => e.service < f.service) :
    (putService e t).length = t.length + if (serviceEntry t e.service).isNone then 1 else 0 := by
  induction t with
  | nil => rfl
  | cons x xs ih =>
    obtain ⟨first, rest⟩ := List.pairwise_cons.mp rising
    rw [putService]
    split
    next before =>
      have absent : serviceEntry (x :: xs) e.service = none := (serviceEntry_none _ _).mpr fun f member => by
        rcases List.mem_cons.mp member with rfl | later
        · omega
        · have := first f later
          omega
      rw [absent]
      rfl
    next notBefore =>
      split
      next same => simp [serviceEntry, same]
      next other =>
        have skipped : serviceEntry (x :: xs) e.service = serviceEntry xs e.service := by
          simp [serviceEntry, Ne.symm other]
        rw [skipped, List.length_cons, List.length_cons, ih rest]
        omega

/-- SERVICE_WRITE's table, where it had the service or had room (R92, R94, R175). -/
theorem putService_lawful {e : ServiceEntry} {t : List ServiceEntry} (lawful : ServicesLawful t) (range : e.inRange = true)
    (room : (serviceEntry t e.service).isNone = true → t.length < 256) : ServicesLawful (putService e t) := by
  obtain ⟨size, rising, ranges⟩ := (servicesLawful_iff t).mp lawful
  refine (servicesLawful_iff _).mpr ⟨?_, putService_rising e t rising, fun f member => ?_⟩
  · rw [putService_length e t rising]
    split
    next new => exact room new
    next => exact size
  · rcases mem_putService member with rfl | old
    · exact range
    · exact ranges f old

/-- Sets from which a profile is taken keep an entry's rules (R94, R101). -/
theorem without_inRange {e : ServiceEntry} (p : Fin 8) (range : e.inRange = true) : (e.without p).inRange = true := by
  obtain ⟨service, pair, order, values, allow, block, apart⟩ := (serviceEntry_inRange_iff e).mp range
  have stripped : ∀ set : BitVec 8, inSet set 0 = false → inSet (set &&& ~~~(1#8 <<< p.val)) 0 = false := fun set clear => by
    rw [inSet, BitVec.getLsbD_and, show set.getLsbD 0 = false from clear, Bool.false_and]
  refine (serviceEntry_inRange_iff _).mpr ⟨service, pair, order, values, stripped _ allow, stripped _ block, ?_⟩
  rw [ServiceEntry.without, BitVec.and_assoc, BitVec.and_comm (~~~_), BitVec.and_assoc, BitVec.and_self,
    ← BitVec.and_assoc, apart]
  exact BitVec.zero_and

theorem map_without_lawful {t : List ServiceEntry} (p : Fin 8) (lawful : ServicesLawful t) :
    ServicesLawful (t.map fun e => e.without p) := by
  obtain ⟨size, rising, ranges⟩ := (servicesLawful_iff t).mp lawful
  refine (servicesLawful_iff _).mpr ⟨by rwa [List.length_map], List.pairwise_map.mpr rising, fun f member => ?_⟩
  obtain ⟨e, held, rfl⟩ := List.mem_map.mp member
  exact without_inRange p (ranges e held)

end Sys2Proof.Machine
end

section
/-! PROOFS. What every act of a second keeps, every timer's command keeps: the expiries, the beginning of a second and the
accounting tick, packaged once (R116, R128, R135; log 3). -/

namespace Sys2Proof.Machine

/-- `R` holds between the states before and after each act of a second: the expiries, the application of a pending profile,
the beginning of the second, and the tick. -/
structure KeptBySeconds (R : State → State → Prop) : Prop where
  refl : ∀ s, R s s
  trans : ∀ {s t u}, R s t → R t u → R s u
  slots : ∀ {s t}, OnlySlots s t → R s t
  lockout : ∀ s, R s (expireLockout s)
  extension : ∀ c s, R s (expireExtension c s)
  age : ∀ c s, R s (expireUsageAge c s)
  second : ∀ s, R s (beginSecond s)
  tick : ∀ s, R s (startCommit (tickBody { s with vtu.tickDue := false }))

theorem onlySlots_fallCountdown (i : Fin 4) (s : State) : OnlySlots s (fallCountdown i s) := by
  unfold fallCountdown
  split
  · exact onlySlots_setSlot s i _
  · split
    · exact onlySlots_applyPending i s
    · exact onlySlots_setSlot s i _

namespace KeptBySeconds

variable {R : State → State → Prop} (K : KeptBySeconds R)
include K

theorem whenDue (due : State → Bool) (act : State → State) (kept : ∀ s, R s (act s)) (s : State) :
    R s (whenDue due act s) := by
  unfold Machine.whenDue
  split
  · exact kept s
  · exact K.refl s

theorem flushSlot (i : Fin 4) (s : State) : R s (flushSlot i s) :=
  K.trans (K.trans (K.trans (K.trans
    (K.whenDue _ _ (fun t => K.slots (onlySlots_reevaluateAs i _ t)) s)
    (K.whenDue _ _ (fun t => K.slots (onlySlots_reevaluateAs i _ t)) _))
    (K.whenDue _ _ (fun t => K.slots (onlySlots_expireUnlock i t)) _))
    (K.whenDue _ _ (fun t => K.slots (onlySlots_fallCountdown i t)) _))
    (K.whenDue _ _ (fun t => K.slots (onlySlots_setSlot t i _)) _)

theorem flushChild (c : Fin 7) (s : State) : R s (flushChild c s) :=
  K.trans (K.whenDue _ _ (K.extension c) s) (K.whenDue _ _ (K.age c) _)

theorem nextSecond (s : State) : R s (nextSecond s) := by
  have lockout := K.whenDue lockoutDue expireLockout K.lockout s
  have slots := forSlots_induct (P := R s) Machine.flushSlot (fun i t h => K.trans h (K.flushSlot i t)) _ lockout
  have flushed : R s (flushSecond s) :=
    forChildren_induct (P := R s) Machine.flushChild (fun c t h => K.trans h (K.flushChild c t)) _ slots
  exact K.trans flushed (K.second _)

/-- An expiry does its own act, at once or in the next second, or nothing (log 3). -/
theorem expiry (due : State → Bool) (act : State → State) (kept : ∀ s, R s (act s)) (s : State) :
    R s (expiry due act s) := by
  unfold Machine.expiry
  repeat' split
  · exact kept s
  · exact K.refl s
  · exact K.trans (K.nextSecond s) (kept _)
  · exact K.refl s
  · exact K.refl s

theorem accountingTick (s : State) : R s (accountingTick s) := by
  simp only [Machine.accountingTick]
  split
  · split
    · exact K.tick s
    · exact K.trans (K.nextSecond s) (K.tick _)
  · exact K.refl s

end KeptBySeconds

end Sys2Proof.Machine
end

section
/-! PROOFS. The laws of the programme rating table and of the service table under every kind of step (R58, R61, R92 to
R94). -/

namespace Sys2Proof.Machine

/-! ### Effects that leave both tables as they stand -/

/-- The programme rating table and the service table are kept. -/
structure TablesStand (s t : State) : Prop where
  entries : t.prt.entries = s.prt.entries
  services : t.pss.services = s.pss.services

theorem TablesStand.refl (s : State) : TablesStand s s := ⟨rfl, rfl⟩

theorem TablesStand.trans {s t u : State} (a : TablesStand s t) (b : TablesStand t u) : TablesStand s u :=
  ⟨b.entries.trans a.entries, b.services.trans a.services⟩

theorem tablesStand_of_blocks {s t : State} (prt : t.prt = s.prt) (pss : t.pss = s.pss) : TablesStand s t :=
  ⟨congrArg PRT.entries prt, congrArg PSS.services pss⟩

theorem OnlySlots.tables {s t : State} (h : OnlySlots s t) : TablesStand s t := tablesStand_of_blocks h.prt h.pss

theorem OnlyViewing.tables {s t : State} (h : OnlyViewing s t) : TablesStand s t := tablesStand_of_blocks h.prt h.pss

theorem OnlyCommit.tables {s t : State} (h : OnlyCommit s t) : TablesStand s t := tablesStand_of_blocks h.prt h.pss

theorem OnlyChannel.tables {s t : State} (h : OnlyChannel s t) : TablesStand s t := tablesStand_of_blocks h.prt h.pss

theorem OnlyCount.tables {s t : State} (h : OnlyCount s t) : TablesStand s t := ⟨congrArg PRT.entries h.prt, h.services⟩

theorem tablesStand_setChild (s : State) (c : Fin 7) (p : Profile) : TablesStand s (s.setChild c p) := ⟨rfl, rfl⟩

theorem tablesStand_setSuspended (c : Fin 7) (b : Bool) (s : State) : TablesStand s (setSuspended c b s) :=
  (tablesStand_setChild s c _).trans ((onlyViewing_markDirty _ _).trans (onlySlots_reportProfile _ _).viewing).tables

theorem tablesStand_storeCurfews (c : Fin 7) (cs : List Curfew) (s : State) : TablesStand s (storeCurfews c cs s) :=
  (tablesStand_setChild s c _).trans (((onlyViewing_recomputeCurfew c _).trans (onlyViewing_markDirty _ _)).trans
    (onlySlots_reportProfile _ _).viewing).tables

theorem tablesStand_storeProfile (c : Fin 7) (p : Profile) (s : State) : TablesStand s (storeProfile c p s) := by
  unfold storeProfile
  refine TablesStand.trans ?_ ((onlyViewing_markDirty _ _).trans (onlySlots_reportProfile _ _).viewing).tables
  split
  · exact (tablesStand_setChild s c p).trans ((onlyViewing_lowerCarry _ _).trans (onlyViewing_restore _ _)).tables
  · exact (tablesStand_setChild s c _).trans (((onlyViewing_setUsage _ _ _).trans (onlyViewing_setCurfew _ _ _)).trans
      (onlyViewing_markDirty _ _)).tables

theorem tablesStand_forChildren (f : Fin 7 → State → State) (h : ∀ c s, TablesStand s (f c s)) (s : State) :
    TablesStand s (forChildren f s) :=
  forChildren_induct (P := TablesStand s) f (fun c t ht => ht.trans (h c t)) s (.refl s)

theorem tablesStand_setClock (wall : Nat) (zone : Int) (s : State) : TablesStand s (setClock wall zone s) := by
  have clock : TablesStand s
      { s with vtu.clock := some { wall := wall, since := s.vtu.uptime }, sc.settings.zone := zone } := ⟨rfl, rfl⟩
  have started : TablesStand s (startClock wall zone s) :=
    clock.trans (tablesStand_forChildren _ (fun c t => (onlyViewing_setUsage t c _).tables) _)
  have ended : ∀ t, TablesStand t (endPastExtensions wall t) := fun t =>
    tablesStand_forChildren _ (fun c u => by
      split
      · exact (onlyViewing_setUsage u c _).tables
      · exact .refl u) t
  have slots : ∀ t, TablesStand t (clockToSlots wall t) := fun t =>
    ((onlyViewing_forSlots _ (fun i u => (onlySlots_setSlot u i _).viewing) t).trans
      (onlySlots_reevaluateWhere _ _).viewing).tables
  exact (((started.trans (ended _)).trans ((onlyViewing_rolloverCheck _).trans (onlyViewing_recomputeCurfews _)).tables).trans
    ((onlyViewing_markDirty _ .settings).trans (onlyViewing_reportDiffering s _)).tables).trans (slots _)

theorem tablesStand_changeWindows (wd : WD) (s : State) : TablesStand s (changeWindows wd s) := by
  have stored : TablesStand s { s with wd := wd } := ⟨rfl, rfl⟩
  exact stored.trans (onlySlots_changeWindows wd s).tables

/-- A grant or a reset of a usage record, restored (R144, R176). -/
theorem tablesStand_restoreUsage (c : Fin 7) (u : Usage) (s : State) :
    TablesStand s (restore c ((s.setUsage c u).markDirty (.usage c))) :=
  (((onlyViewing_setUsage s _ _).trans (onlyViewing_markDirty _ _)).trans (onlyViewing_restore _ _)).tables

theorem tablesStand_endIngest (g : Ingest) (outcome : ReplyCode) (s : State) : TablesStand s (endIngest g outcome s) :=
  ⟨rfl, rfl⟩

/-! ### What a command's owner does to the tables -/

/-- The laws of both tables are kept. -/
structure TableLawsKept (s t : State) : Prop where
  entries : TableLawful s.prt.entries → TableLawful t.prt.entries
  services : ServicesLawful s.pss.services → ServicesLawful t.pss.services

theorem TablesStand.laws {s t : State} (h : TablesStand s t) : TableLawsKept s t :=
  ⟨fun lawful => h.entries ▸ lawful, fun lawful => h.services ▸ lawful⟩

theorem TableLawsKept.refl (s : State) : TableLawsKept s s := ⟨id, id⟩

theorem TableLawsKept.trans {s t u : State} (a : TableLawsKept s t) (b : TableLawsKept t u) : TableLawsKept s u :=
  ⟨fun lawful => b.entries (a.entries lawful), fun lawful => b.services (a.services lawful)⟩

/-- A new content of the rating table whose services are reported (R71). -/
theorem laws_reportEntries (l : List Nat) {table : List Entry} {s : State}
    (kept : TableLawful s.prt.entries → TableLawful table) : TableLawsKept s (reportServices l (s.setEntries table)) := by
  have stored : TableLawsKept s (s.setEntries table) := ⟨kept, id⟩
  exact stored.trans (onlySlots_reportServices l _).tables.laws

theorem laws_withdraw (k : Key) (s : State) : TableLawsKept s (withdraw k s) :=
  laws_reportEntries _ fun lawful => lawful.sublist List.filter_sublist

theorem laws_applyInsert {e : Entry} (range : e.Lawful) (s : State) :
    TableLawsKept s (applyInsert e (insertEntry s.wallNow s.pinnedKeys e s.prt.entries) s) := by
  unfold applyInsert
  split
  next stored => exact laws_reportEntries _ fun lawful => insertEntry_lawful lawful range stored
  · exact .refl s
  · exact .refl s

theorem laws_eventNotice (core : EventCore) (x : TakeCtx) (s : State) :
    TableLawsKept s ((eventNotice core).act x s).state := by
  simp only [eventNotice, Handler.free]
  split
  · exact .refl s
  next start =>
    split
    · exact .refl s
    next e made =>
      have kept := laws_applyInsert (entryOf_lawful start made) s
      split
      · rwa [accept_state]
      · exact .refl s
      · exact .refl s

/-- A new content of the service table, marked and reported (R95). -/
theorem laws_storeServices (service : Nat) {table : List ServiceEntry} {s : State}
    (kept : ServicesLawful s.pss.services → ServicesLawful table) : TableLawsKept s (storeServices service table s) := by
  have stored : TableLawsKept s ({ s with pss.services := table }.markDirty .services) := ⟨id, kept⟩
  exact stored.trans (onlySlots_reportServiceEntry service _).tables.laws

theorem laws_serviceWrite (service : BitVec 16) (r0 r1 category allow block : Byte) (x : TakeCtx) (s : State) :
    TableLawsKept s ((serviceWrite service r0 r1 category allow block).act x s).state := by
  simp only [serviceWrite, Handler.gated]
  split
  · exact .refl s
  next e made =>
    split
    · exact .refl s
    next room =>
      refine laws_storeServices _ fun lawful => putService_lawful lawful (serviceFields_inRange made) fun new => ?_
      simpa [new] using room

theorem laws_dropProfile (c : Fin 7) (s : State) : TableLawsKept s (dropProfile c s) := by
  have others : (s.setChild c .invalid).pss.services = s.pss.services := rfl
  simp only [dropProfile]
  split
  all_goals exact ⟨by simp, fun lawful => by simpa [others] using map_without_lawful (childNumber c) lawful⟩

/-- What every record command's own effect keeps: EVENT_NOTICE, EVENT_WITHDRAW and SERVICE_EVENTS_CLEAR alone touch the
rating table, SERVICE_WRITE, SERVICE_REMOVE and PROFILE_REMOVE the service table. -/
theorem laws_handlerOf (i : Instr) (H : Handler) (h : handlerOf i = some H) (x : TakeCtx) (s : State) :
    TableLawsKept s (H.act x s).state := by
  cases i <;> simp only [handlerOf, Option.some.injEq, reduceCtorEq] at h <;> subst h
  case eventNotice => exact laws_eventNotice _ x s
  case eventWithdraw =>
    simp only [eventWithdraw, Handler.free]
    split
    · exact .refl s
    · exact laws_withdraw _ s
  case serviceEventsClear =>
    simp only [serviceEventsClear, Handler.free, accept_state]
    split
    · exact .refl s
    · exact laws_reportEntries _ fun lawful => lawful.sublist List.filter_sublist
  case serviceWrite => exact laws_serviceWrite _ _ _ _ _ _ x s
  case serviceRemove =>
    simp only [serviceRemove, Handler.gated]
    split
    · exact .refl s
    · exact laws_storeServices _ fun lawful => lawful.sublist List.filter_sublist
  case profileRemove =>
    simp only [profileRemove, Handler.gated]
    split
    · exact .refl s
    · split
      · exact .refl s
      · exact laws_dropProfile _ s
  all_goals refine TablesStand.laws ?_
  case readEvent | ratingCheck | readProfile | readUsage | readSlot | readService | readCapture | readWindow =>
    simp only [readEvent, ratingCheck, readProfile, readUsage, readSlot, readService, readCapture, readWindow,
      Handler.free]
    repeat' split
    all_goals exact .refl s
  case attentionSet | attentionClear | captureClear | pinSet | settingsWrite | lanePermit | windowLock | fillTileWrite
      | ingestBegin | ingestAbort =>
    simp only [attentionSet, attentionClear, captureClear, pinSet, settingsWrite, lanePermit, windowLock, fillTileWrite,
      ingestBegin, ingestAbort, Handler.free, Handler.gated]
    repeat' split
    all_goals exact ⟨rfl, rfl⟩
  case windowDefine | windowRemove | clockSet =>
    simp only [windowDefine, windowRemove, clockSet, Handler.free]
    repeat' split
    all_goals simp only [accept_state, refuse_state, TablesStand.refl, tablesStand_changeWindows, tablesStand_setClock]
  case slotTune | slotBind | slotUnlock | slotRelock =>
    simp only [slotTune, tuneSlot, slotBind, slotUnlock, unlockSlot, slotRelock, relockSlot, Handler.free,
      Handler.gated]
    repeat' split
    all_goals simp only [accept_state, refuse_state, TablesStand.refl, (onlySlots_bindSlot _ _ s).tables,
      (onlySlots_reevaluateAs _ _ s).tables]
  case profileWrite | profileCurfew | profileSuspend | profileResume | allowanceGrant | usageReset =>
    simp only [profileWrite, profileCurfew, profileSuspend, profileResume, allowanceGrant, usageReset, Handler.gated]
    repeat' split
    all_goals simp only [accept_state, refuse_state, TablesStand.refl, tablesStand_storeProfile, tablesStand_storeCurfews,
      tablesStand_setSuspended, tablesStand_restoreUsage]

theorem keptByTaking_laws : KeptByTaking TableLawsKept where
  refl := .refl
  trans := TableLawsKept.trans
  acts := laws_handlerOf
  matched s := (onlyCount_setFailures s 0).tables.laws
  failed s := (onlyCount_failCompare s).tables.laws
  replied _ _ _ _ _ _ _ _ := ⟨id, id⟩
  advanced _ _ := ⟨id, id⟩
  committed s := (onlyCommit_startCommit s).tables.laws
  staged _ _ _ _ := ⟨id, id⟩
  misplaced s _ _ _ _ := (tablesStand_of_blocks (report_prt s _ _ _ _ _) (report_pss s _ _ _ _ _)).laws

/-! ### The ingest (R75 to R79) -/

theorem laws_processRecord (core : EventCore) (s : State) : TableLawsKept s (processRecord core s).1 := by
  unfold processRecord
  split
  · simp only
    split
    · exact .refl s
    · exact laws_withdraw _ s
  next start =>
    split
    · exact .refl s
    next e made => exact laws_applyInsert (entryOf_lawful start made) s

theorem tablesStand_advanceIngest (g : Ingest) (s : State) : TablesStand s (advanceIngest g s) := by
  simp only [advanceIngest]
  split
  · exact tablesStand_endIngest _ _ s
  · exact ⟨rfl, rfl⟩

theorem laws_ingestDelivery (d : Delivery) (s : State) : TableLawsKept s (ingestDelivery d s) := by
  have staged : TableLawsKept s { s with prt.stager := overlayAt s.prt.stager (d.block % 32) d.bytes } := ⟨id, id⟩
  unfold ingestDelivery
  split
  · exact .refl s
  next g _ =>
    simp only
    split
    · split
      · exact (staged.trans (laws_processRecord _ _)).trans (tablesStand_advanceIngest _ _).laws
      · exact staged
    · split
      · exact ((tablesStand_of_blocks (report_prt s _ _ _ _ _) (report_pss s _ _ _ _ _)).trans
          (tablesStand_endIngest g .aborted _)).laws
      · exact .refl s

theorem BeatCase.laws {s t : State} (h : BeatCase s t) : TableLawsKept s t := by
  cases h with
  | unlisted out => exact ⟨id, id⟩
  | counted out index b c => exact ⟨id, id⟩
  | finished out index => exact (lineKept_lastBeat out index s).only.tables.laws
  | toLane out index _ _ lane ring d =>
    exact (lineKept_lastBeat out index s).only.tables.laws.trans (keptByTaking_laws.laneDelivery lane ring d _)
  | toIngest out index _ _ d =>
    exact (lineKept_lastBeat out index s).only.tables.laws.trans (laws_ingestDelivery d _)

/-! ### The channel, the reset and start-up -/

theorem laws_present (l : Lines) (s : State) : TableLawsKept s (present l s) := by
  rcases present_tables l s with ⟨u, only, -, e⟩ | only
  · exact e ▸ only.tables.laws.trans (keptByTaking_laws.resumeTaking u)
  · exact only.tables.laws

/-- A channel reset keeps both tables, though it drops an ingest (R80). -/
theorem tablesStand_lineReset (s : State) :
    TablesStand s (assertLine (if s.isReleased then resetChannel s else s)) := by
  split
  · have before : TablesStand s (resetBeforeFrames s) := by rw [resetBeforeFrames_eq]; exact ⟨rfl, rfl⟩
    exact (before.trans (onlyViewing_zeroFrames _).tables).trans ⟨rfl, rfl⟩
  · exact ⟨rfl, rfl⟩

theorem laws_endStartup (order : List (Fin 4)) (s : State) : TableLawsKept s (endStartup order s) := by
  have running : TableLawsKept s { s with phase := .running, vtu.tickDue := false } := ⟨id, id⟩
  simp only [endStartup]
  split
  · exact ⟨id, id⟩
  · exact running.trans (keptByTaking_laws.takeAll order _)

theorem tableLawful_nil : TableLawful [] := ⟨Nat.zero_le _, nofun, .nil, .nil⟩

/-- The load takes a service table that is lawful, or none (R191). -/
theorem loadServices_lawful (s : State) : ServicesLawful (loadServices s).pss.services := by
  by_cases sound : s.sc.store.services.complete = true ∧ ServicesLawful s.sc.store.services.content
  · rw [loadServices_sound s sound.1 sound.2]
    exact sound.2
  · have bad : s.sc.store.services.complete = false ∨ ¬ ServicesLawful s.sc.store.services.content := by
      rwa [not_and_or, Bool.not_eq_true] at sound
    rw [(loadServices_failed s bad).1]
    exact servicesLawful_nil

theorem release_services (arr : Bool) (cb : Byte) (fclr : Bool) (s : State) :
    ServicesLawful (release arr cb fclr s).pss.services := by
  cases fclr with
  | true =>
    rw [release_clear, (beginClear_frame (s.sampled arr cb)).pss]
    exact servicesLawful_nil
  | false =>
    rw [release_load, ← loadEnd, loadEnd_services]
    exact loadServices_lawful _

/-! ### Timers and the store -/

/-- No act of a second touches either table. -/
theorem keptBySeconds_tables : KeptBySeconds TablesStand where
  refl := .refl
  trans := TablesStand.trans
  slots := OnlySlots.tables
  lockout _ := ⟨rfl, rfl⟩
  extension c s := ((onlyViewing_setUsage s c _).trans (onlySlots_reportProfile _ _).viewing).tables
  age c s := (onlyViewing_markDirty s _).tables.trans (onlyCommit_startCommit _).tables
  second _ := ⟨rfl, rfl⟩
  tick s := by
    have begun : TablesStand s { s with vtu.tickDue := false } := ⟨rfl, rfl⟩
    exact (begun.trans (onlyViewing_tickBody _).tables).trans (onlyCommit_startCommit _).tables

theorem tablesStand_afterWrite (s : State) : TablesStand s (afterWrite s) := by
  have ended : TablesStand s { s with sc.writing := none } := ⟨rfl, rfl⟩
  have reopened : TablesStand s { s with sc.writing := none, sc.failed := Vector.replicate 18 false } := ⟨rfl, rfl⟩
  simp only [afterWrite, continueClear, continueCommit]
  split
  · split
    · exact (onlyCommit_beginWrite _ s).tables
    · exact tablesStand_of_blocks (finishLoad_path s).2.2.2.1 (finishLoad_pss s)
  · split
    · exact ended.trans (onlyCommit_beginWrite _ _).tables
    · exact reopened.trans (onlyCommit_startCommit _).tables

theorem tablesStand_completeWrite (s : State) : TablesStand s (completeWrite s) := by
  unfold completeWrite
  split <;> exact ⟨rfl, rfl⟩

theorem tablesStand_failWrite (s : State) : TablesStand s (failWrite s) := by
  unfold failWrite
  split <;> exact ⟨rfl, rfl⟩

/-- Every run of a command keeps the laws of both tables. -/
theorem exec_laws (i : Instr) (s : State) : ∃ t, exec i s = .next t ∧ TableLawsKept s t := by
  have timer : ∀ due act, (∀ t, TablesStand t (act t)) → TableLawsKept s (expiry due act s) := fun due act kept =>
    (keptBySeconds_tables.expiry due act kept s).laws
  have closes : ∀ j, TableLawsKept s (closeRecord j (handlerOf j) s) := fun j => by
    unfold closeRecord
    split
    · exact keptByTaking_laws.presentRecord j _ _ _ s
    · exact .refl s
  cases record : (handlerOf i).isSome with
  | true => exact ⟨_, exec_record i record s, closes i⟩
  | false =>
    cases i
    case bankOpen | readBurst | writeBurst | bankClose | closeAll | refresh | modeLoad => exact ⟨_, rfl, laws_present _ s⟩
    case restEntry | idleEntry => exact ⟨_, rfl, (fallEnable_only _ s).tables.laws⟩
    case restExit | idleExit => exact ⟨_, rfl, (riseEnable_only s).tables.laws⟩
    case channelReset => exact ⟨_, rfl, (tablesStand_lineReset s).laws⟩
    case dataBeat => exact ⟨_, rfl, (passBeat_case _ _ _ _ s).laws⟩
    case unknownCommand hd code =>
      refine ⟨_, rfl, ?_⟩
      split
      · exact closes (.unknownCommand hd code)
      · exact .refl s
    case lockoutExpiry => exact ⟨_, rfl, timer _ _ keptBySeconds_tables.lockout⟩
    case accountingTick => exact ⟨_, rfl, (keptBySeconds_tables.accountingTick s).laws⟩
    case extensionExpiry c => exact ⟨_, rfl, timer _ _ (keptBySeconds_tables.extension c)⟩
    case boundaryExpiry n | holdExpiry n => exact ⟨_, rfl, timer _ _ fun t => (onlySlots_reevaluateAs n _ t).tables⟩
    case unlockExpiry n => exact ⟨_, rfl, timer _ _ fun t => (onlySlots_expireUnlock n t).tables⟩
    case pendingCountdown n => exact ⟨_, rfl, timer _ _ fun t => (onlySlots_fallCountdown n t).tables⟩
    case countdownExpiry n => exact ⟨_, rfl, timer _ _ fun t => (onlySlots_applyPending n t).tables⟩
    case recordingLengthExpiry n => exact ⟨_, rfl, timer _ _ fun t => (onlySlots_setSlot t n _).tables⟩
    case usageAgeExpiry c => exact ⟨_, rfl, timer _ _ (keptBySeconds_tables.age c)⟩
    case storeWriteComplete =>
      refine ⟨_, rfl, TablesStand.laws ?_⟩
      split
      · exact (tablesStand_completeWrite s).trans (tablesStand_afterWrite _)
      · exact .refl s
    case storeWriteFail =>
      refine ⟨_, rfl, TablesStand.laws ?_⟩
      split
      · exact (tablesStand_failWrite s).trans (tablesStand_afterWrite _)
      · exact .refl s
    case partReset => exact ⟨_, rfl, fun _ => tableLawful_nil, fun _ => servicesLawful_nil⟩
    case partResetRelease arr cb fclr =>
      refine ⟨_, rfl, ?_⟩
      split
      · exact .refl s
      · obtain ⟨-, -, prt, -⟩ := release_blocks arr cb fclr s
        exact ⟨fun _ => prt ▸ tableLawful_nil, fun _ => release_services arr cb fclr s⟩
    case startupEnd order =>
      refine ⟨_, rfl, ?_⟩
      split
      · exact laws_endStartup order s
      · exact .refl s
    case startupSecond =>
      refine ⟨_, rfl, TablesStand.laws ?_⟩
      split <;> exact ⟨rfl, rfl⟩
    all_goals exact absurd record.symm Bool.false_ne_true

end Sys2Proof.Machine
end

section
open Sys2Proof Sys2Proof.Machine

/-- Settles O53, by what each command's run does to the two tables: an insert and a put keep the order, the ranges and the
size, every other change takes entries out. -/
theorem tableLawfulKept : Obligations.TableLawfulKept := by
  intro s t h
  unfold step at h
  split at h
  · cases h; exact ⟨id, id⟩
  next c rest _ =>
    obtain ⟨u, runs, kept⟩ := exec_laws c { s with pending := rest }
    obtain rfl : u = t := Host.Outcome.next.inj (runs.symm.trans h)
    exact ⟨kept.entries, kept.services⟩

end

section
/-! PROOFS. A new content of the programme rating table and the slots it is reported to, and the guide commands that store one
(R62 to R68, R71, R162, R163). -/

namespace Sys2Proof.Machine

/-! ### The slots a report re-evaluates (R71, R114) -/

/-- Each slot that is picked is re-evaluated, which keeps what a re-evaluation does not set; the others are kept. -/
theorem slotsTouched_reevaluateWhere (hit : Slot → Bool) (s : State) : SlotsTouched s (reevaluateWhere hit s) hit := by
  intro i
  have apart : ∀ i j t, j ≠ i → ((if hit (t.slot i) then reevaluate i t else t).slot j) = t.slot j := by
    intro i j t other
    split
    · exact reevaluateAs_slot_other i j _ t other
    · rfl
  obtain ⟨t, same, became⟩ := forSlots_slot (fun i t => if hit (t.slot i) then reevaluate i t else t) apart s i
  have touched : (reevaluateWhere hit s).slot i = if hit (s.slot i) then reevaluated t (s.slot i) else s.slot i := by
    refine became.trans ?_
    rw [same]
    split
    · rw [reevaluate, reevaluateAs_slot, same]
    · exact same
  cases picked : hit (s.slot i) with
  | false =>
    rw [picked, if_neg Bool.false_ne_true] at touched
    exact ⟨⟨congrArg _ touched, congrArg _ touched, congrArg _ touched, congrArg _ touched, congrArg _ touched⟩,
      fun _ => touched⟩
  | true =>
    rw [picked, if_pos rfl] at touched
    obtain ⟨item, bound, pending, picture, frames⟩ := reevaluated_basis t (s.slot i)
    exact ⟨⟨touched ▸ item, touched ▸ bound, touched ▸ pending, touched ▸ picture, touched ▸ frames⟩, nofun⟩

theorem SlotsTouched.mono {s t : State} {hit more : Slot → Bool} (touched : SlotsTouched s t hit)
    (within : ∀ x, hit x = true → more x = true) : SlotsTouched s t more := fun i => by
  obtain ⟨basis, missed⟩ := touched i
  refine ⟨basis, fun unhit => missed ?_⟩
  rw [← Bool.not_eq_true]
  exact fun picked => absurd (unhit.symm.trans (within _ picked)) Bool.false_ne_true

/-- The slots alone tell what was touched. -/
theorem SlotsTouched.congr {s t r u : State} {hit : Slot → Bool} (touched : SlotsTouched s t hit) (before : r.sdu = s.sdu)
    (after : u.sdu = t.sdu) : SlotsTouched r u hit := fun i => by
  obtain ⟨⟨item, bound, pending, picture, frames⟩, missed⟩ := touched i
  have old := slot_of_sdu _ _ before i
  have new := slot_of_sdu _ _ after i
  refine ⟨⟨?_, ?_, ?_, ?_, ?_⟩, ?_⟩ <;> rw [new, old] <;> assumption

/-- The slot's item is LIVE on one of the services. -/
def Slot.liveOn (services : List Nat) (x : Slot) : Bool := services.any fun n => x.item = .live n

theorem Slot.liveOn_iff (services : List Nat) (x : Slot) :
    x.liveOn services = true ↔ ∃ n ∈ services, x.item = .live n := by
  simp [Slot.liveOn]

/-! ### A new content of the table -/

/-- Between `s` and `t` the rating table became `table`, and only slots that `hit` picks were re-evaluated for it. -/
structure TableBecame (s t : State) (table : List Entry) (hit : Slot → Bool) : Prop where
  only : OnlySlots (s.setEntries table) t
  slots : SlotsTouched s t hit

theorem tableBecame_self (s : State) (hit : Slot → Bool) : TableBecame s s s.prt.entries hit :=
  ⟨.refl s, fun _ => ⟨⟨rfl, rfl, rfl, rfl, rfl⟩, fun _ => rfl⟩⟩

theorem slotsTouched_reportServices (l : List Nat) (s : State) :
    SlotsTouched s (reportServices l s) (Slot.liveOn l) := by
  unfold reportServices
  refine (slotsTouched_reevaluateWhere _ s).mono fun x picked => (x.liveOn_iff l).mpr ?_
  cases item : x.item <;> simp [item] at picked
  exact ⟨_, picked, rfl⟩

theorem tableBecame_reportServices (l : List Nat) (table : List Entry) (s : State) :
    TableBecame s (reportServices l (s.setEntries table)) table (Slot.liveOn l) :=
  ⟨onlySlots_reportServices l _, (slotsTouched_reportServices l (s.setEntries table)).congr rfl rfl⟩

theorem TableBecame.mono {s t : State} {table : List Entry} {hit more : Slot → Bool} (h : TableBecame s t table hit)
    (within : ∀ x, hit x = true → more x = true) : TableBecame s t table more :=
  ⟨h.only, h.slots.mono within⟩

/-- A withdrawal takes the key's entry out and reports its service (R67, R71). -/
theorem withdraw_became (k : Key) (s : State) :
    TableBecame s (withdraw k s) (withoutKey s.prt.entries k) (Slot.liveOn [k.service]) :=
  tableBecame_reportServices _ _ s

/-- An insert that is stored reports the entry's service and that of an evicted entry (R66, R71). -/
theorem applyInsert_became (e : Entry) (table : List Entry) (replaced : Bool) (overlap : Nat) (evicted : Option Entry)
    (s : State) : TableBecame s (applyInsert e (.stored table replaced overlap evicted) s) table
      (Slot.liveOn (e.service :: (evicted.map Entry.service).toList)) :=
  tableBecame_reportServices _ _ s

theorem liveOn_one (n : Nat) (x : Slot) (live : x.liveOn [n] = true) : decide (x.item = .live n) = true := by
  obtain ⟨m, member, item⟩ := (x.liveOn_iff [n]).mp live
  exact decide_eq_true (List.mem_singleton.mp member ▸ item)

/-- A ready GUIDE record whose owner accepts it and leaves a new table: the reply, the table, the slots re-evaluated, and
nothing else (R47, R49, R71). -/
theorem guideCommand (i : Instr) (length : Nat) (act : TakeCtx → State → Taken) (hd : Header) (code : Byte)
    (body : List Byte) (s u : State) (adjusted : Bool) (payload : List Byte) (table : List Entry) (hit : Slot → Bool)
    (parts : recordParts i = some (hd, code, body)) (handler : handlerOf i = some (.free .guide length act))
    (ready : Ready s hd .guide length)
    (acts : ∀ x, act x (s.closedIn hd code body) = accept u adjusted payload)
    (became : TableBecame (s.closedIn hd code body) u table hit) :
    ∃ t, Runs i s t ∧ Answered s t hd code (if adjusted then 1 else 0) adjusted payload
      ∧ t.prt = { s.prt with entries := table } ∧ SlotsTouched s t hit
      ∧ t.ct = s.ct ∧ t.wd = s.wd ∧ t.pss = s.pss ∧ t.vtu = s.vtu ∧ QuietAttention s t ∧ ClassesKept s t
      ∧ (s.Settled → t.sc = s.sc) := by
  obtain ⟨only, slots⟩ := became
  obtain ⟨t, runs, answered, posted⟩ := free_answered i _ _ act hd code body s _ parts handler ready acts only.lc
  have reply : Answered s t hd code (if adjusted then 1 else 0) adjusted payload := by
    cases adjusted <;> exact answered
  refine ⟨t, runs, reply, posted.prt.trans only.prt, slots.congr rfl posted.sdu, posted.ct.trans only.ct,
    posted.wd.trans only.wd, posted.pss.trans only.pss, posted.vtu.trans only.vtu,
    ⟨posted.enable.trans only.enable, posted.warned.trans only.warned, posted.capture.trans only.capture⟩,
    posted.classesKept only.lc, fun settled => ?_⟩
  have sc : u.sc = s.sc := only.sc
  exact (posted.sc (by rw [accept_state, State.Settled, sc]; exact settled)).trans sc

end Sys2Proof.Machine
end

section
/-! PROOFS. The insert procedure on a lawful table, and EVENT_NOTICE (R62 to R66, R162). -/

namespace Sys2Proof.Machine

theorem mem_of_entryOfKey {t : List Entry} {k : Key} {e : Entry} (held : entryOfKey t k = some e) : e ∈ t ∧ e.key = k :=
  ⟨List.mem_of_find?_eq_some held, by simpa using List.find?_some held⟩

/-- With room, the entry of the key and those that overlap go, and the new one takes its place (R63). -/
theorem insertEntry_roomy (now : Option Nat) (pinned : List Key) (e : Entry) (t : List Entry)
    (newer : ∀ old ∈ t, old.key = e.key → Newer e.version old.version) (room : (sparedBy e t).length < 1024) :
    insertEntry now pinned e t = .stored (insertSorted e (sparedBy e t)) (t.any fun f => decide (f.key = e.key))
      (t.filter fun f => decide (e.GivesWay f)).length none := by
  cases held : entryOfKey t e.key with
  | none =>
    have absent : (t.any fun f => decide (f.key = e.key)) = false := by
      simpa using (entryOfKey_none t e.key).mp held
    rw [insertEntry_absent now pinned e t held, makeRoom_roomy _ _ _ _ _ _ room, absent]
  | some old =>
    obtain ⟨member, key⟩ := mem_of_entryOfKey held
    have present : (t.any fun f => decide (f.key = e.key)) = true :=
      List.any_eq_true.mpr ⟨old, member, decide_eq_true key⟩
    rw [insertEntry_newer now pinned e old t held (newer old member key), makeRoom_roomy _ _ _ _ _ _ room, present]

/-- Where a table of legal size keeps 1,024 entries the insert takes none out before step 4 (R63). -/
theorem insertEntry_crowded (now : Option Nat) (pinned : List Key) (e : Entry) (t : List Entry) (size : t.length ≤ 1024)
    (crowded : (sparedBy e t).length = 1024) : insertEntry now pinned e t = makeRoom now pinned e false 0 t := by
  have all : sparedBy e t = t := (sparedBy_sublist e t).eq_of_length_le (by omega)
  have spared : ∀ f ∈ t, e.Spares f := fun f member => ((mem_sparedBy e f t).mp (all.symm ▸ member)).2
  have absent : entryOfKey t e.key = none := (entryOfKey_none t e.key).mpr fun f member => (spared f member).1
  have none : (t.filter fun f => decide (e.GivesWay f)) = [] :=
    List.filter_eq_nil_iff.mpr fun f member gives => (spared f member).2 (of_decide_eq_true gives)
  rw [insertEntry_absent now pinned e t absent, all, none]
  rfl

theorem TableLawful.nodup {t : List Entry} (lawful : TableLawful t) : t.Nodup := by
  obtain ⟨-, -, -, keys⟩ := lawful
  exact keys.imp fun differs same => differs (congrArg Entry.key same)

/-- The evicted entry leaves its place to the new one (R64). -/
theorem mem_insertSorted_erase {t : List Entry} (lawful : TableLawful t) (e x f : Entry) :
    f ∈ insertSorted e (t.erase x) ↔ f = e ∨ (f ∈ t ∧ f ≠ x) := by
  rw [mem_insertSorted, lawful.nodup.mem_erase_iff, and_comm (a := f ≠ x)]

section
variable (core : EventCore) (e : Entry) (x : TakeCtx) (s : State) (start : core.start ≠ 0xFFFFFFFF)
  (made : entryOf core = some e)
include start made

theorem eventNotice_stored (table : List Entry) (replaced : Bool) (overlap : Nat) (evicted : Option Entry)
    (result : insertEntry s.wallNow s.pinnedKeys e s.prt.entries = .stored table replaced overlap evicted) :
    (eventNotice core).act x s = accept (applyInsert e (.stored table replaced overlap evicted) s) (coreClamped core)
      (noticePayload s e (.stored table replaced overlap evicted)) := by
  simp only [eventNotice, Handler.free, if_neg start, made, result]

theorem eventNotice_stale (held : Entry)
    (result : insertEntry s.wallNow s.pinnedKeys e s.prt.entries = .stale held) :
    (eventNotice core).act x s = refuse s .stale (noticePayload s e (.stale held)) := by
  simp only [eventNotice, Handler.free, if_neg start, made, result]

theorem eventNotice_full (result : insertEntry s.wallNow s.pinnedKeys e s.prt.entries = .full) :
    (eventNotice core).act x s = refuse s .tableFull (noticePayload s e .full) := by
  simp only [eventNotice, Handler.free, if_neg start, made, result]

end

end Sys2Proof.Machine
end

section
open Sys2Proof Sys2Proof.Machine

/-- Settles O26: the owner stores what the insert procedure gives, and the procedure by the cases of its steps, the evicted
entry by the order of a lawful table. -/
theorem eventNoticeInserts : Obligations.EventNoticeInserts := by
  refine ⟨fun s h core e ready start made => ?_, fun now pinned e t lawful _ => ?_⟩
  · obtain ⟨body, parts⟩ : ∃ body, recordParts (.eventNotice h core) = some (h, 0x20, body) := ⟨_, rfl⟩
    have runs := runs_record (.eventNotice h core) _ h 0x20 body s parts rfl
    have judged := judged_free (.eventNotice h core) _ h 0x20 body s rfl ready rfl
    refine ⟨fun table replaced overlap evicted stored => ?_, fun held stale => ?_, fun full => ?_⟩
    · obtain ⟨t, runs, answered, prt, slots, ct, wd, pss, vtu, quiet, classes, sc⟩ :=
        guideCommand (.eventNotice h core) 20 _ h 0x20 body s _ _ _ table _ parts rfl ready
          (fun x => eventNotice_stored core e x _ start made table replaced overlap evicted stored)
          (applyInsert_became e table replaced overlap evicted _)
      have left := insertEntry_stored stored
      have entries : t.prt.entries = table := by rw [prt]
      refine ⟨t, runs, answered, entries, entries ▸ left.mem, fun f held other stays => ?_, by rw [prt], by rw [prt],
        slots.mono fun x live => ?_, ct, wd, pss, vtu, quiet, classes, sc⟩
      · have spared : e.Spares f := ⟨fun same => other (congrArg Key.service same), fun ⟨_, same, _⟩ => other same⟩
        exact entries ▸ left.others f ((mem_sparedBy e f _).mpr ⟨held, spared⟩) stays
      · obtain ⟨n, member, item⟩ := (x.liveOn_iff _).mp live
        cases evicted <;> simpa [item] using member
    · exact refused_of_judged _ h 0x20 body s .stale _ runs ready.toListening
        (judged.trans (eventNotice_stale core e _ _ start made held stale)) (by decide)
    · exact refused_of_judged _ h 0x20 body s .tableFull _ runs ready.toListening
        (judged.trans (eventNotice_full core e _ _ start made full)) (by decide)
  · have ⟨size, _, _, keys⟩ := lawful
    refine ⟨fun old held key older => ?_, fun newer room => ?_, fun crowded => ⟨fun x given => ?_, fun kept => ?_⟩⟩
    · exact insertEntry_stale now pinned e old t (entryOfKey_eq_some keys held key) older
    · exact ⟨_, insertEntry_roomy now pinned e t newer room, fun f => by rw [mem_insertSorted, mem_sparedBy],
        insertSorted_length e _⟩
    · have out := (evictee_iff now pinned e lawful x).mpr given
      have whole : t.length = 1024 := le_antisymm size (crowded ▸ (sparedBy_sublist e t).length_le)
      refine ⟨_, (insertEntry_crowded now pinned e t size crowded).trans
        (makeRoom_evicts now pinned e x false 0 t (le_of_eq whole.symm) out), mem_insertSorted_erase lawful e x, ?_⟩
      rw [insertSorted_length, List.length_erase_of_mem (evictee_mem out), whole]
    · have out : evictee now pinned e t = none :=
        Option.eq_none_iff_forall_ne_some.mpr fun x given => kept x ((evictee_iff now pinned e lawful x).mp given)
      have whole : 1024 ≤ t.length := crowded ▸ (sparedBy_sublist e t).length_le
      exact (insertEntry_crowded now pinned e t size crowded).trans (makeRoom_full now pinned e false 0 t whole out)

end

section
/-! PROOFS. EVENT_WITHDRAW and SERVICE_EVENTS_CLEAR (R67, R68, R163). -/

namespace Sys2Proof.Machine

theorem eventWithdraw_acts (service event : BitVec 16) (e : Entry) (x : TakeCtx) (s : State)
    (held : entryOfKey s.prt.entries ⟨service.toNat, event.toNat⟩ = some e) :
    (eventWithdraw service event).act x s = accept (withdraw ⟨service.toNat, event.toNat⟩ s) false
      ([openingByte [s.pinnedKeys.contains ⟨service.toNat, event.toNat⟩]] ++ num32 e.start ++ num32 e.duration
        ++ num8 e.version ++ num16 (withoutKey s.prt.entries ⟨service.toNat, event.toNat⟩).length) := by
  simp only [eventWithdraw, Handler.free, held]

theorem eventWithdraw_absent (service event : BitVec 16) (x : TakeCtx) (s : State)
    (absent : entryOfKey s.prt.entries ⟨service.toNat, event.toNat⟩ = none) :
    (eventWithdraw service event).act x s = refuse s .notFound (num16 s.prt.entries.length) := by
  simp only [eventWithdraw, Handler.free, absent]

/-- The table that SERVICE_EVENTS_CLEAR leaves, reported where an entry went (R68, R71). -/
def clearService (service : Nat) (s : State) : State :=
  if s.prt.entries.length - (withoutService s.prt.entries service).length = 0 then s
  else reportServices [service] (s.setEntries (withoutService s.prt.entries service))

theorem serviceEventsClear_acts (service : BitVec 16) (x : TakeCtx) (s : State) :
    (serviceEventsClear service).act x s = accept (clearService service.toNat s) false
      (num16 (s.prt.entries.length - (withoutService s.prt.entries service.toNat).length)
        ++ num16 (withoutService s.prt.entries service.toNat).length) := rfl

/-- Where no entry goes the table is the one that stood. -/
theorem clearService_became (service : Nat) (s : State) :
    TableBecame s (clearService service s) (withoutService s.prt.entries service) (Slot.liveOn [service]) := by
  rw [clearService]
  split
  next unchanged =>
    have same : withoutService s.prt.entries service = s.prt.entries :=
      List.filter_sublist.eq_of_length_le (Nat.sub_eq_zero_iff_le.mp unchanged)
    rw [same]
    exact tableBecame_self s _
  · exact tableBecame_reportServices _ _ s

theorem mem_withoutKey (t : List Entry) (k : Key) (f : Entry) : f ∈ withoutKey t k ↔ f ∈ t ∧ f.key ≠ k := by
  rw [withoutKey, List.mem_filter, decide_eq_true_eq]

theorem mem_withoutService (t : List Entry) (service : Nat) (f : Entry) :
    f ∈ withoutService t service ↔ f ∈ t ∧ f.service ≠ service := by
  rw [withoutService, List.mem_filter, decide_eq_true_eq]

end Sys2Proof.Machine
end

section
open Sys2Proof Sys2Proof.Machine

/-- Settles O27: the owner's new table is the old one without the entries named. -/
theorem withdrawAndClear : Obligations.WithdrawAndClear := by
  intro s h service event
  refine ⟨fun e ready held => ?_, fun ready absent => ?_, fun ready => ?_⟩
  · obtain ⟨body, parts⟩ : ∃ body, recordParts (.eventWithdraw h service event) = some (h, 0x21, body) := ⟨_, rfl⟩
    obtain ⟨t, runs, answered, prt, slots, kept⟩ := guideCommand (.eventWithdraw h service event) 4 _ h 0x21 body s
      _ _ _ _ _ parts rfl ready (fun x => eventWithdraw_acts service event e x _ held)
      ((withdraw_became _ _).mono (liveOn_one service.toNat))
    have entries : t.prt.entries = withoutKey s.prt.entries ⟨service.toNat, event.toNat⟩ := by rw [prt]; rfl
    exact ⟨t, runs, entries ▸ answered, fun f => entries ▸ mem_withoutKey _ _ f, by rw [prt], slots, kept⟩
  · obtain ⟨body, parts⟩ : ∃ body, recordParts (.eventWithdraw h service event) = some (h, 0x21, body) := ⟨_, rfl⟩
    have judged := judged_free (.eventWithdraw h service event) _ h 0x21 body s rfl ready rfl
    exact refused_of_judged _ h 0x21 body s .notFound _ (runs_record _ _ h 0x21 body s parts rfl) ready.toListening
      (judged.trans (eventWithdraw_absent service event _ _ absent)) (by decide)
  · obtain ⟨body, parts⟩ : ∃ body, recordParts (.serviceEventsClear h service) = some (h, 0x22, body) := ⟨_, rfl⟩
    obtain ⟨t, runs, answered, prt, slots, kept⟩ := guideCommand (.serviceEventsClear h service) 2 _ h 0x22 body s
      _ _ _ _ _ parts rfl ready (fun x => serviceEventsClear_acts service x _)
      ((clearService_became _ _).mono (liveOn_one service.toNat))
    have entries : t.prt.entries = withoutService s.prt.entries service.toNat := by rw [prt]; rfl
    exact ⟨t, runs, entries ▸ answered, fun f => entries ▸ mem_withoutService _ _ f, by rw [prt], slots, kept⟩

end

section
/-! PROOFS. Deliveries to the ingest stager (R75 to R79; log 29). -/

namespace Sys2Proof.Machine

/-! ### The end of a run (R79) -/

theorem endIngest_status (g : Ingest) (outcome : ReplyCode) (s : State) : (endIngest g outcome s).au.status
    = s.au.status ||| Cause.reply.bit ||| Cause.ingest.bit := rfl

/-- Ending a run on a state with the lanes of `s`: its INGEST_END reply is the next on its lane. -/
theorem ingestEnded_endIngest (g : Ingest) (outcome : ReplyCode) {s u : State} (lc : u.lc = s.lc) :
    IngestEnded s (endIngest g outcome u) g outcome where
  idle := rfl
  stager := rfl
  lane := by rw [endIngest_lane, lane_of_lc _ _ lc]; rfl
  otherLanes n other := by rw [endIngest_otherLane g outcome u n other, lane_of_lc _ _ lc]
  raised := by rw [endIngest_status, BitVec.or_assoc]; exact or_and_self _ _

/-! ### What a delivery cannot touch -/

theorem IngestFrame.trans {s t u : State} (a : IngestFrame s t) (b : IngestFrame t u) : IngestFrame s u where
  ct := b.ct.trans a.ct
  wd := b.wd.trans a.wd
  pss := b.pss.trans a.pss
  vtu := b.vtu.trans a.vtu
  sc := b.sc.trans a.sc
  enable := b.enable.trans a.enable
  warned := b.warned.trans a.warned
  phase := b.phase.trans a.phase
  pending := b.pending.trans a.pending

theorem ingestFrame_endIngest (g : Ingest) (outcome : ReplyCode) (s : State) : IngestFrame s (endIngest g outcome s) :=
  ⟨rfl, rfl, rfl, rfl, rfl, rfl, rfl, rfl, rfl⟩

theorem ingestFrame_report (s : State) (k : CaptureKind) (block : Nat) (bank : BitVec 3) (row col : Nat) :
    IngestFrame s (s.report k block bank row col) := by
  unfold State.report
  split <;> exact ⟨rfl, rfl, rfl, rfl, rfl, rfl, rfl, rfl, rfl⟩

/-! ### The processing of a record (R77) -/

section
variable (core : EventCore) (s : State)

theorem processRecord_withdrawn (e : Entry) (start : core.start = 0xFFFFFFFF)
    (held : entryOfKey s.prt.entries (coreKey core) = some e) :
    processRecord core s = (withdraw (coreKey core) s, .taken) := by
  rw [coreKey] at *
  simp only [processRecord, if_pos start, held]

theorem processRecord_absent (start : core.start = 0xFFFFFFFF) (absent : entryOfKey s.prt.entries (coreKey core) = none) :
    processRecord core s = (s, .refused) := by
  rw [coreKey] at *
  simp only [processRecord, if_pos start, absent]

theorem processRecord_bad (start : core.start ≠ 0xFFFFFFFF) (bad : entryOf core = none) :
    processRecord core s = (s, .refused) := by
  simp only [processRecord, if_neg start, bad]

variable (e : Entry) (start : core.start ≠ 0xFFFFFFFF) (made : entryOf core = some e)
include start made

theorem processRecord_stored (table : List Entry) (replaced : Bool) (overlap : Nat) (evicted : Option Entry)
    (result : insertEntry s.wallNow s.pinnedKeys e s.prt.entries = .stored table replaced overlap evicted) :
    processRecord core s = (applyInsert e (.stored table replaced overlap evicted) s,
      if coreClamped core then .adjusted else .taken) := by
  simp only [processRecord, if_neg start, made, result]

theorem processRecord_stale (old : Entry)
    (result : insertEntry s.wallNow s.pinnedKeys e s.prt.entries = .stale old) :
    processRecord core s = (s, .stale) := by
  simp only [processRecord, if_neg start, made, result, applyInsert]

theorem processRecord_full (result : insertEntry s.wallNow s.pinnedKeys e s.prt.entries = .full) :
    processRecord core s = (s, .refused) := by
  simp only [processRecord, if_neg start, made, result, applyInsert]

end

/-- A record changes the table at most, with the slots it is reported to. -/
theorem processRecord_became (core : EventCore) (s : State) :
    ∃ table hit, TableBecame s (processRecord core s).1 table hit := by
  by_cases start : core.start = 0xFFFFFFFF
  · cases held : entryOfKey s.prt.entries (coreKey core) with
    | none => exact processRecord_absent core s start held ▸ ⟨_, fun _ => false, tableBecame_self s _⟩
    | some e => exact processRecord_withdrawn core s e start held ▸ ⟨_, _, withdraw_became _ s⟩
  · cases made : entryOf core with
    | none => exact processRecord_bad core s start made ▸ ⟨_, fun _ => false, tableBecame_self s _⟩
    | some e =>
      cases result : insertEntry s.wallNow s.pinnedKeys e s.prt.entries with
      | stored table replaced overlap evicted =>
        exact processRecord_stored core s e start made table replaced overlap evicted result ▸
          ⟨_, _, applyInsert_became e table replaced overlap evicted s⟩
      | stale old => exact processRecord_stale core s e start made old result ▸ ⟨_, fun _ => false, tableBecame_self s _⟩
      | full => exact processRecord_full core s e start made result ▸ ⟨_, fun _ => false, tableBecame_self s _⟩

/-- The slots of an insert's report, in the words of the statement (R71). -/
theorem liveOn_insert (e : Entry) (evicted : Option Entry) (x : Slot)
    (live : x.liveOn (e.service :: (evicted.map Entry.service).toList) = true) :
    (decide (x.item = .live e.service) || evicted.any fun f => decide (x.item = .live f.service)) = true := by
  obtain ⟨n, member, item⟩ := (x.liveOn_iff _).mp live
  cases evicted <;> simpa [item] using member

theorem count_stored (g : Ingest) (clamped : Bool) : g.count (if clamped then .adjusted else .taken)
    = { g with taken := g.taken + 1, adjusted := g.adjusted || clamped } := by
  cases clamped <;> simp [Ingest.count]

/-- The record in the stager is processed as R77 says, whatever the run's advance does after it. -/
theorem processed_record (core : EventCore) (g : Ingest) (stager : List Byte) {s u : State} {r : State × Counted}
    (processing : processRecord core { s with prt.stager := stager } = r) (entries : u.prt.entries = r.1.prt.entries)
    (sdu : u.sdu = r.1.sdu) : Processed s u core g (g.count r.2) where
  withdrawn start present := by
    obtain ⟨e, held⟩ := Option.isSome_iff_exists.mp present
    obtain rfl := (processRecord_withdrawn core { s with prt.stager := stager } e start held).symm.trans processing
    have became := withdraw_became (coreKey core) { s with prt.stager := stager }
    exact ⟨entries.trans (congrArg PRT.entries became.only.prt), rfl,
      ((became.mono (liveOn_one _)).slots.congr rfl sdu)⟩
  absent start absent := by
    obtain rfl := (processRecord_absent core { s with prt.stager := stager } start absent).symm.trans processing
    exact ⟨⟨entries, sdu⟩, rfl⟩
  bad start bad := by
    obtain rfl := (processRecord_bad core { s with prt.stager := stager } start bad).symm.trans processing
    exact ⟨⟨entries, sdu⟩, rfl⟩
  stored e table replaced overlap evicted start made result := by
    obtain rfl := (processRecord_stored core { s with prt.stager := stager } e start made table replaced overlap evicted
      result).symm.trans processing
    have became := applyInsert_became e table replaced overlap evicted { s with prt.stager := stager }
    exact ⟨entries.trans (congrArg PRT.entries became.only.prt), count_stored g _,
      ((became.mono (liveOn_insert e evicted)).slots.congr rfl sdu)⟩
  stale e old start made result := by
    obtain rfl := (processRecord_stale core { s with prt.stager := stager } e start made old result).symm.trans processing
    exact ⟨⟨entries, sdu⟩, rfl⟩
  full e start made result := by
    obtain rfl := (processRecord_full core { s with prt.stager := stager } e start made result).symm.trans processing
    exact ⟨⟨entries, sdu⟩, rfl⟩

/-! ### The advance of the run (R78) -/

/-- A run after a processed record (R78). -/
def Ingest.advanced (g : Ingest) (wd : WD) : Ingest :=
  { g with remaining := g.remaining - 1, next := advanceAddress wd g.next }

theorem advanceIngest_last (g : Ingest) (s : State) (last : g.remaining ≤ 1) :
    advanceIngest g s = endIngest (g.advanced s.wd) .done s := if_pos (Nat.sub_eq_zero_of_le last)

theorem advanceIngest_more (g : Ingest) (s : State) (more : 1 < g.remaining) :
    advanceIngest g s = { s with prt.ingest := some (g.advanced s.wd), prt.stager := List.replicate 32 0 } :=
  if_neg (Nat.sub_ne_zero_of_lt more)

/-- What an advance leaves as it stands, and the stager it zeroes. -/
structure Advanced (s t : State) : Prop where
  frame : IngestFrame s t
  capture : t.au.capture = s.au.capture
  entries : t.prt.entries = s.prt.entries
  sdu : t.sdu = s.sdu
  stager : t.prt.stager = List.replicate 32 0

theorem advanced_advanceIngest (g : Ingest) (s : State) : Advanced s (advanceIngest g s) := by
  rcases Nat.lt_or_ge 1 g.remaining with more | last
  · rw [advanceIngest_more g s more]
    exact ⟨⟨rfl, rfl, rfl, rfl, rfl, rfl, rfl, rfl, rfl⟩, rfl, rfl, rfl, rfl⟩
  · rw [advanceIngest_last g s last]
    exact ⟨ingestFrame_endIngest _ _ s, rfl, rfl, rfl, rfl⟩

theorem advanceAddress_window (wd : WD) (next : Nat) (w : Window) (window : wd.ingestWindow = some w) :
    advanceAddress wd next = if w.limit < next + 32 then w.base else next + 32 := by
  simp only [advanceAddress, window]

theorem count_place (g : Ingest) (c : Counted) : (g.count c).remaining = g.remaining ∧ (g.count c).next = g.next := by
  cases c <;> exact ⟨rfl, rfl⟩

/-! ### A delivery (R75, R76) -/

/-- The state with a delivery's bytes gathered in the stager (R75). -/
def State.gathered (s : State) (d : Delivery) : State :=
  { s with prt.stager := overlayAt s.prt.stager (d.block % 32) d.bytes }

section
variable (d : Delivery) (s : State) (g : Ingest) (running : s.prt.ingest = some g)
include running

theorem ingestDelivery_closing (place : d.block - d.block % 32 = g.next) (closes : d.closesIngest = true) :
    ingestDelivery d s
      = advanceIngest (g.count (processRecord (eventCoreAt (s.gathered d).prt.stager 0) (s.gathered d)).2)
        (processRecord (eventCoreAt (s.gathered d).prt.stager 0) (s.gathered d)).1 := by
  simp only [ingestDelivery, State.gathered, running, if_pos place, closes, if_true]

theorem ingestDelivery_gathers (place : d.block - d.block % 32 = g.next) (opens : d.closesIngest = false) :
    ingestDelivery d s = s.gathered d := by
  simp only [ingestDelivery, State.gathered, running, if_pos place, opens, Bool.false_eq_true, if_false]

theorem ingestDelivery_misplaced (place : d.block - d.block % 32 ≠ g.next) (closes : d.closesIngest = true) :
    ingestDelivery d s = endIngest g .aborted (s.report .ingestOrder d.block d.bank d.row d.col) := by
  simp only [ingestDelivery, running, if_neg place, closes, if_true]

theorem ingestDelivery_ignored (place : d.block - d.block % 32 ≠ g.next) (opens : d.closesIngest = false) :
    ingestDelivery d s = s := by
  simp only [ingestDelivery, running, if_neg place, opens, Bool.false_eq_true, if_false]

end

end Sys2Proof.Machine
end

section
open Sys2Proof Sys2Proof.Machine

/-- Settles O18: a record that closes at the next address is processed and the run advances, one that closes elsewhere ends
the run. -/
theorem ingestDeliveryRules : Obligations.IngestDeliveryRules := by
  intro s d
  refine ⟨fun idle => ?_, fun g w running window place closes => ?_, fun g running place closes => ?_,
    fun g running place opens => ingestDelivery_ignored d s g running place opens,
    fun g running place opens => ingestDelivery_gathers d s g running place opens⟩
  · simp only [ingestDelivery, idle]
  · rw [ingestDelivery_closing d s g running place closes]
    generalize processing : processRecord (eventCoreAt (s.gathered d).prt.stager 0) (s.gathered d) = r
    obtain ⟨table, hit, ⟨only, -⟩⟩ : ∃ table hit, TableBecame (s.gathered d) r.1 table hit :=
      processing ▸ processRecord_became _ _
    have advanced := advanced_advanceIngest (g.count r.2) r.1
    obtain ⟨remaining, next⟩ := count_place g r.2
    have lc : r.1.lc = s.lc := only.lc
    have address : advanceAddress r.1.wd g.next = if w.limit < g.next + 32 then w.base else g.next + 32 :=
      advanceAddress_window _ _ w ((congrArg WD.ingestWindow only.wd).trans window)
    have kept : IngestFrame s r.1 :=
      ⟨only.ct, only.wd, only.pss, only.vtu, only.sc, only.enable, only.warned, only.phase, only.pending⟩
    refine ⟨kept.trans advanced.frame, advanced.capture.trans only.capture, advanced.stager, g.count r.2,
      processed_record _ g _ processing advanced.entries advanced.sdu, fun last => ?_, fun more => ?_⟩
    · rw [advanceIngest_last _ _ (remaining ▸ last)]
      have ended := ingestEnded_endIngest ((g.count r.2).advanced r.1.wd) .done lc
      exact ⟨ended.idle, ended.stager, ended.lane, ended.otherLanes, ended.raised⟩
    · rw [advanceIngest_more _ _ (remaining ▸ more)]
      refine ⟨lc, only.status, ?_⟩
      rw [Ingest.advanced, remaining, next, address]
  · have entries := congrArg PRT.entries (report_prt s .ingestOrder d.block d.bank d.row d.col)
    rw [ingestDelivery_misplaced d s g running place closes]
    refine ⟨ingestEnded_endIngest g .aborted (report_lc s _ _ _ _ _), ⟨entries, report_sdu s _ _ _ _ _⟩,
      (ingestFrame_report s _ _ _ _ _).trans (ingestFrame_endIngest g .aborted _), fun empty => ?_, fun c filled => ?_⟩
    · have au := report_empty s .ingestOrder d.block d.bank d.row d.col empty
      exact ⟨by rw [endIngest_status, au], congrArg AU.capture au⟩
    · have au := report_filled s .ingestOrder d.block d.bank d.row d.col c filled
      exact ⟨congrArg AU.capture au, by rw [endIngest_status, au]⟩

end

section
/-! PROOFS. The decision function by its gates and steps (R107, R108). -/

namespace Sys2Proof.Machine

theorem childOf_childNumber (c : Fin 7) : childOf (childNumber c) = some c := by
  simp [childOf, childNumber]

theorem curfewHeld_child (s : State) (c : Fin 7) : s.curfewHeld (childNumber c) = s.curfewActive c := by
  rw [State.curfewHeld, childOf_childNumber]

/-- An item that presents something has a key (R104). -/
theorem itemKey_ne_none (item : Item) (current : Option Key) (presents : item ≠ .nothing) :
    itemKey item current ≠ none := by
  cases item with
  | nothing => exact absurd rfl presents
  | live service => cases current <;> exact Option.some_ne_none _
  | recording r => exact Option.some_ne_none _
  | external input => exact Option.some_ne_none _

/-- An extension covers the key of a presented item where it is of that key (R142). -/
theorem extensionCovers_iff (u : Usage) {key : Option ItemKey} (presents : key ≠ none) :
    u.extensionCovers key = true ↔ u.ext.map Extension.key = key := by
  rw [Usage.extensionCovers]
  cases u.ext with
  | none => exact ⟨nofun, fun same => absurd same.symm presents⟩
  | some e => exact decide_eq_true_iff.trans eq_comm

/-! ### Gate 6 (R107) -/

section
variable {t : List ServiceEntry} {p : Fin 8} {service : Nat} (mode : ServiceMode)

theorem serviceGate_blocked {e : ServiceEntry} (held : serviceEntry t service = some e)
    (block : inSet e.block p.val = true) :
    serviceGate t p mode service = some { decision := .blocked .service, step := 6 } := by
  simp only [serviceGate, held, block, if_true]

theorem serviceGate_allowed {e : ServiceEntry} (held : serviceEntry t service = some e)
    (block : inSet e.block p.val = false) (allow : inSet e.allow p.val = true) :
    serviceGate t p mode service = some { decision := .clear, step := 6 } := by
  simp only [serviceGate, held, block, allow, if_true, Bool.false_eq_true, if_false]

/-- A service the table says nothing of passes under OPEN alone. -/
theorem serviceGate_unnamed (unnamed : ∀ e, serviceEntry t service = some e →
      inSet e.block p.val = false ∧ inSet e.allow p.val = false) :
    serviceGate t p mode service
      = if mode.isAllowList then some { decision := .blocked .service, step := 6 } else none := by
  cases held : serviceEntry t service with
  | none => simp only [serviceGate, held]
  | some e =>
    obtain ⟨block, allow⟩ := unnamed e held
    simp only [serviceGate, held, block, allow, Bool.false_eq_true, if_false]

end

/-! ### Gates 2 to 5 (R107) -/

section
variable (s : State) (c : Fin 7) (curfew : Bool) (item : Item) (key : Option ItemKey)

theorem gates_openProfile : gates s 0 curfew item key = some { decision := .clear, step := 2 } := rfl

theorem gates_suspended (suspended : (s.child c).suspended = true) :
    gates s (childNumber c) curfew item key = some { decision := .blocked .suspended, step := 3 } := by
  simp only [gates, childOf_childNumber, suspended, if_true]

variable (active : (s.child c).suspended = false)
include active

theorem gates_curfew :
    gates s (childNumber c) true item key = some { decision := .blocked .curfew, step := 4 } := by
  simp only [gates, childOf_childNumber, active, if_true, Bool.false_eq_true, if_false]

theorem gates_time (exhausted : (s.usage c).exhausted = true) (uncovered : (s.usage c).extensionCovers key = false) :
    gates s (childNumber c) false item key = some { decision := .blocked .time, step := 5 } := by
  simp only [gates, childOf_childNumber, active, exhausted, uncovered, Bool.not_false, Bool.and_true, if_true,
    Bool.false_eq_true, if_false]

theorem gates_service (time : (s.usage c).exhausted = true → (s.usage c).extensionCovers key = true) :
    gates s (childNumber c) false item key
      = item.service.bind (serviceGate s.pss.services (childNumber c) (s.child c).mode) := by
  have passes : ((s.usage c).exhausted && !(s.usage c).extensionCovers key) = false := by
    cases exhausted : (s.usage c).exhausted with
    | false => rfl
    | true => rw [time exhausted]; rfl
  simp only [gates, childOf_childNumber, active, passes, Bool.false_eq_true, if_false]

end

/-! ### Steps 7 to 10 (R108) -/

section
variable (p : Profile)

theorem judgeRatings_held : judgeRatings p [] 0 true = { decision := .pending, step := 7 } := rfl

theorem judgeRatings_unrated : (judgeRatings p [] 0 false).decision
    = if p.unrated = .allow then .clear else .blocked .unrated := by
  rw [judgeRatings]
  cases p.unrated <;> rfl

variable {ratings : List Rating} {flags : BitVec 8} (held : Bool)

/-- An item with a rating or a flag is not for step 7. -/
theorem judgeRatings_rated (rated : (ratings, flags) ≠ ([], 0)) : judgeRatings p ratings flags held
    = if ratings.any p.overCeiling then { decision := .blocked .rating, step := 8 }
      else if flags &&& p.blocked ≠ 0 then { decision := .blocked .content, step := 9 }
      else { decision := .clear, step := 10 } := by
  refine if_neg fun unrated => rated ?_
  obtain ⟨none, plain⟩ := (Bool.and_eq_true _ _).mp unrated
  rw [List.isEmpty_iff.mp none, of_decide_eq_true plain]

theorem any_overCeiling_eq_false (within : ∀ r ∈ ratings, r.value ≤ p.ceilings[r.scheme]) :
    ratings.any p.overCeiling = false :=
  List.any_eq_false.mpr fun r member above =>
    absurd (of_decide_eq_true above) (Nat.not_lt.mpr (within r member))

theorem judgeRatings_rating {r : Rating} (member : r ∈ ratings) (above : p.ceilings[r.scheme] < r.value) :
    judgeRatings p ratings flags held = { decision := .blocked .rating, step := 8 } := by
  rw [judgeRatings_rated p held fun none => ?_, List.any_eq_true.mpr ⟨r, member, decide_eq_true above⟩, if_pos rfl]
  obtain ⟨rfl, -⟩ := Prod.mk.inj none
  exact absurd member List.not_mem_nil

theorem judgeRatings_content (within : ∀ r ∈ ratings, r.value ≤ p.ceilings[r.scheme])
    (flagged : flags &&& p.blocked ≠ 0) :
    judgeRatings p ratings flags held = { decision := .blocked .content, step := 9 } := by
  have rated : (ratings, flags) ≠ ([], 0) := fun none => by
    obtain ⟨-, rfl⟩ := Prod.mk.inj none
    exact flagged BitVec.zero_and
  rw [judgeRatings_rated p held rated, any_overCeiling_eq_false p within, if_neg Bool.false_ne_true, if_pos flagged]

theorem judgeRatings_clear (rated : (ratings, flags) ≠ ([], 0))
    (within : ∀ r ∈ ratings, r.value ≤ p.ceilings[r.scheme]) (unflagged : flags &&& p.blocked = 0) :
    judgeRatings p ratings flags held = { decision := .clear, step := 10 } := by
  rw [judgeRatings_rated p held rated, any_overCeiling_eq_false p within, if_neg Bool.false_ne_true,
    if_neg (not_not.mpr unflagged)]

end

/-! ### The whole function -/

/-- An unrated gap has no rating and no flag (R108, R113). -/
theorem effective_gap (t : List ServiceEntry) (item : Item) (event : Option Entry) (gap : unratedGap t item event = true) :
    effective t item event = ([], 0) := by
  cases item <;> cases event <;> simp only [unratedGap, Bool.false_eq_true] at gap
  simp only [effective, List.isEmpty_iff.mp gap]

theorem judge_gated {s : State} {p : Fin 8} {curfew : Bool} {item : Item} {event : Option Entry} (held : Bool) {v : Verdict}
    (gate : gates s p curfew item (itemKey item (event.map Entry.key)) = some v) :
    judge s p curfew item event held = v := by
  simp only [judge, gate]

theorem judge_passed {s : State} {c : Fin 7} {curfew : Bool} {item : Item} {event : Option Entry} (held : Bool)
    (passed : gates s (childNumber c) curfew item (itemKey item (event.map Entry.key)) = none) :
    judge s (childNumber c) curfew item event held
      = judgeRatings (s.child c) (effective s.pss.services item event).1 (effective s.pss.services item event).2 held := by
  simp only [judge, passed, State.settingsOf, childOf_childNumber]

/-- Gates 3 to 6 let a presented item pass to the ratings (R107). -/
theorem gates_toRatings {s : State} {c : Fin 7} {x : Slot} (passed : ToRatings s c x) (presents : x.item ≠ .nothing) :
    gates s (childNumber c) (s.curfewActive c) x.item (itemKey x.item x.current) = none := by
  obtain ⟨⟨active, noCurfew, time⟩, service⟩ := passed
  have covers := extensionCovers_iff (s.usage c) (itemKey_ne_none x.item x.current presents)
  rw [noCurfew, gates_service s c x.item _ active fun exhausted => covers.mpr (time exhausted)]
  cases named : x.item.service with
  | none => rfl
  | some n =>
    obtain ⟨unnamed, mode⟩ := service n named
    rw [Option.bind_some, serviceGate_unnamed _ unnamed, mode]
    rfl

/-- A slot record on an event, whose decision is the judgement of its item, is decided by the gates and steps of R107 and
R108; its hold runs in an unrated gap alone. -/
theorem decidedByRules_of_judge {s : State} {c : Fin 7} {x : Slot} {event : Option Entry} (presents : x.item ≠ .nothing)
    (current : x.current = event.map Entry.key)
    (gap : x.hold.isRunning = true → unratedGap s.pss.services x.item event = true)
    (decided : x.decision = (judge s (childNumber c) (s.curfewActive c) x.item event
      (unratedGap s.pss.services x.item event && x.hold.isRunning)).decision) : DecidedByRules s c x event := by
  rw [Bool.and_eq_right_iff_imp.mpr gap] at decided
  have covers := extensionCovers_iff (s.usage c) (itemKey_ne_none x.item x.current presents)
  have gated : ∀ v, gates s (childNumber c) (s.curfewActive c) x.item (itemKey x.item x.current) = some v →
      x.decision = v.decision := fun v gate =>
    decided.trans (congrArg Verdict.decision (judge_gated _ (current ▸ gate)))
  have atService : GatesPassed s c x → ∀ n, x.item.service = some n → ∀ v,
      serviceGate s.pss.services (childNumber c) (s.child c).mode n = some v → x.decision = v.decision := by
    rintro ⟨active, noCurfew, time⟩ n named v gate
    refine gated v ?_
    rw [noCurfew, gates_service s c x.item _ active fun exhausted => covers.mpr (time exhausted), named, Option.bind_some,
      gate]
  have rated : ToRatings s c x → x.decision = (judgeRatings (s.child c) (effective s.pss.services x.item event).1
      (effective s.pss.services x.item event).2 x.hold.isRunning).decision := fun passed =>
    decided.trans (congrArg Verdict.decision (judge_passed _ (current ▸ gates_toRatings passed presents)))
  constructor
  case suspended => exact fun suspended => gated _ (gates_suspended s c _ x.item _ suspended)
  case curfew => exact fun active inCurfew => gated _ (inCurfew ▸ gates_curfew s c x.item _ active)
  case time =>
    intro active noCurfew exhausted other
    have uncovered := Bool.eq_false_iff.mpr (mt covers.mp other)
    exact gated _ (noCurfew ▸ gates_time s c x.item _ active exhausted uncovered)
  case serviceBlocked =>
    exact fun passed n e named held block =>
      atService passed n named _ (serviceGate_blocked _ held block)
  case serviceAllowed =>
    exact fun passed n e named held block allow =>
      atService passed n named _ (serviceGate_allowed _ held block allow)
  case unlisted =>
    intro passed n named unnamed mode
    refine atService passed n named { decision := .blocked .service, step := 6 } ((serviceGate_unnamed _ unnamed).trans ?_)
    rw [mode]
    rfl
  case held =>
    intro passed running
    rw [rated passed, running, effective_gap _ _ _ (gap running)]
    exact congrArg Verdict.decision (judgeRatings_held _)
  case unrated =>
    intro passed idle unrated
    rw [rated passed, idle, unrated]
    exact judgeRatings_unrated _
  case rating =>
    exact fun passed r member above =>
      (rated passed).trans (congrArg Verdict.decision (judgeRatings_rating _ _ member above))
  case content =>
    exact fun passed within flagged =>
      (rated passed).trans (congrArg Verdict.decision (judgeRatings_content _ _ within flagged))
  case clear =>
    exact fun passed some within unflagged =>
      (rated passed).trans (congrArg Verdict.decision (judgeRatings_clear _ _ some within unflagged))

end Sys2Proof.Machine
end

section
/-! PROOFS. SLOT_TUNE (R123, R165). -/

namespace Sys2Proof.Machine

/-- Without an unlock a slot that presents an item is decided as its item is judged (R109). -/
theorem decideSlot_locked (s : State) (x : Slot) (event : Option Entry) (presents : x.item ≠ .nothing)
    (locked : x.unlock = none) : decideSlot s x event = (judge s x.bound (s.curfewHeld x.bound) x.item event
      (unratedGap s.pss.services x.item event && x.hold.isRunning)).decision := by
  rw [decideSlot]
  cases item : x.item with
  | nothing => exact absurd item presents
  | live service => simp [locked]
  | recording r => simp [locked]
  | external input => simp [locked]

/-- The slot record that a tune leaves (R123). -/
def Slot.retuned (x : Slot) (s : State) (item : Item) : Slot := reevaluated s (x.tuned item)

section
variable (s : State) (x : Slot) (item : Item)

theorem retuned_hold : (x.retuned s item).hold = if unratedGap s.pss.services item (position s item).1 then
    if s.sc.settings.hold = 0 then .spent else .running s.sc.settings.hold else .none := rfl

/-- A hold starts in an unrated gap alone (R113, R118). -/
theorem retuned_gap (running : (x.retuned s item).hold.isRunning = true) :
    unratedGap s.pss.services item (position s item).1 = true := by
  by_contra rated
  rw [retuned_hold, if_neg rated] at running
  cases running

theorem retuned_vacant : (x.retuned s .nothing).decision = .vacant := rfl

variable (presents : item ≠ .nothing)
include presents

theorem retuned_decision : (x.retuned s item).decision = (judge s x.bound (s.curfewHeld x.bound) item (position s item).1
    (unratedGap s.pss.services item (position s item).1 && (x.retuned s item).hold.isRunning)).decision :=
  decideSlot_locked s { x.retuned s item with decision := x.decision, enforcement := x.enforcement } _ presents
    (reevaluated_locked s (x.tuned item) rfl)

theorem retuned_clear (bound : x.bound = 0) : (x.retuned s item).decision = .clear := by
  rw [retuned_decision s x item presents, bound]
  exact congrArg Verdict.decision (judge_gated _ (gates_openProfile s _ item _))

theorem retuned_rules (c : Fin 7) (bound : x.bound = childNumber c) :
    DecidedByRules s c (x.retuned s item) (position s item).1 := by
  refine decidedByRules_of_judge presents rfl (retuned_gap s x item) ((retuned_decision s x item presents).trans ?_)
  rw [bound, curfewHeld_child]
  rfl

end

theorem boundaryLeft_of_vtu {s t : State} (vtu : t.vtu = s.vtu) (x : Slot) : t.boundaryLeft x = s.boundaryLeft x := by
  simp only [State.boundaryLeft, State.wallNow, vtu]

theorem tunePayload_congr {s t : State} (i : Fin 4) (slot : t.slot i = s.slot i) (vtu : t.vtu = s.vtu) :
    tunePayload t i = tunePayload s i := by
  simp only [tunePayload, slot, boundaryLeft_of_vtu vtu]

theorem slotTune_acts (slot kind : Byte) (item : Vector Byte 16) (i : Fin 4) (it : Item) (x : TakeCtx) (s : State)
    (place : slotField slot = some i) (made : itemField kind item = some it) :
    (slotTune slot kind item).act x s = accept (tuneSlot i it s) false (tunePayload (tuneSlot i it s) i) := by
  simp only [slotTune, Handler.free, place, made]

/-- DECISION is raised exactly where the tune changed the slot's decision (R112). -/
theorem tuneSlot_status (i : Fin 4) (item : Item) (s : State) : (tuneSlot i item s).au.status = s.au.status
    ||| (if decide (((s.slot i).retuned s item).decision ≠ (s.slot i).decision) then Cause.decision.bit else 0) := by
  rw [tuneSlot, reevaluateAs_status, ← Slot.retuned]
  by_cases same : ((s.slot i).retuned s item).decision = (s.slot i).decision <;> simp [same]

end Sys2Proof.Machine
end

section
open Sys2Proof Sys2Proof.Machine

/-- Settles O29: the owner re-evaluates the tuned record, which its gates and steps decide without an unlock. -/
theorem slotTuneReplaces : Obligations.SlotTuneReplaces := by
  intro s h slot kind item i it ready place made
  obtain ⟨body, parts⟩ : ∃ body, recordParts (.slotTune h slot kind item) = some (h, 0x30, body) := ⟨_, rfl⟩
  have only : OnlySlots (s.closedIn h 0x30 body) (tuneSlot i it (s.closedIn h 0x30 body)) := onlySlots_reevaluateAs i _ _
  obtain ⟨t, runs, answered, posted⟩ := free_answered (.slotTune h slot kind item) _ _ _ h 0x30 body s _ parts rfl ready
    (fun x => slotTune_acts slot kind item i it x _ place made) only.lc
  have shown : ∀ j, t.slot j = (tuneSlot i it (s.closedIn h 0x30 body)).slot j := slot_of_sdu _ _ posted.sdu
  have became : t.slot i = (s.slot i).retuned s it := (shown i).trans (reevaluateAs_slot i _ _)
  have payload := tunePayload_congr i (shown i) posted.vtu
  have status : (tuneSlot i it (s.closedIn h 0x30 body)).au.status = s.au.status
      ||| (if decide (((s.slot i).retuned s it).decision ≠ (s.slot i).decision) then Cause.decision.bit else 0) :=
    tuneSlot_status i it _
  have others : OtherSlotsKept s t i := fun j other => (shown j).trans (reevaluateAs_slot_other i j _ _ other)
  have raised : RaisedReply s t (decide (((s.slot i).retuned s it).decision ≠ (s.slot i).decision)) :=
    posted.statusReply.trans (congrArg (· ||| Cause.reply.bit) status)
  have sc : (tuneSlot i it (s.closedIn h 0x30 body)).sc = s.sc := only.sc
  refine ⟨t, runs, payload ▸ answered, ?_⟩
  rw [became]
  exact ⟨rfl, reevaluated_locked _ _ rfl, rfl, rfl, rfl, rfl, nextEnforcement_hiding _ _ _,
    fun nothing => nothing ▸ retuned_vacant s _, retuned_clear s _ it, rfl, rfl, retuned_hold s _ it,
    fun presents c bound => retuned_rules s _ it presents c bound, others, raised,
    ⟨posted.ct.trans only.ct, posted.wd.trans only.wd, posted.prt.trans only.prt⟩,
    ⟨posted.enable.trans only.enable, posted.warned.trans only.warned, posted.capture.trans only.capture⟩,
    posted.classesKept only.lc, posted.pss.trans only.pss, posted.vtu.trans only.vtu, fun settled =>
      (posted.sc (by rw [accept_state, State.Settled, sc]; exact settled)).trans sc⟩

end

section
/-! PROOFS. What an edit of one child profile, of its usage record or of its curfew state leaves alone, and the usage record
that R86 and R144 make of one (R85 to R87, R101, R144). -/

namespace Sys2Proof.Machine

/-! ### Slots touched in succession (R114) -/

theorem SlotsTouched.of_sdu {s t : State} (hit : Slot → Bool) (sdu : t.sdu = s.sdu) : SlotsTouched s t hit := fun i => by
  have same := slot_of_sdu s t sdu i
  exact ⟨⟨congrArg _ same, congrArg _ same, congrArg _ same, congrArg _ same, congrArg _ same⟩, fun _ => same⟩

theorem SlotsTouched.trans {s t u : State} {hit : Slot → Bool} (a : SlotsTouched s t hit) (b : SlotsTouched t u hit) :
    SlotsTouched s u hit := fun i => by
  obtain ⟨⟨item, bound, pending, picture, frames⟩, missed⟩ := a i
  obtain ⟨⟨item', bound', pending', picture', frames'⟩, missed'⟩ := b i
  refine ⟨⟨item'.trans item, bound'.trans bound, pending'.trans pending, picture'.trans picture, frames'.trans frames⟩,
    fun unhit => ?_⟩
  have stays := missed unhit
  exact (missed' (stays ▸ unhit)).trans stays

/-- A report of a profile re-evaluates the slots bound to it (R87, R115). -/
theorem slotsTouched_reportProfile (p : Fin 8) (s : State) :
    SlotsTouched s (reportProfile p s) (fun x => decide (x.bound = p)) := slotsTouched_reevaluateWhere _ s

/-- Where each application moves its own slot alone, a slot is what its own application makes of the record it had, in a
state that differs from the first by slots. -/
theorem forSlots_slot_only (f : Fin 4 → State → State) (apart : ∀ i j t, j ≠ i → (f i t).slot j = t.slot j)
    (only : ∀ i t, OnlySlots t (f i t)) (s : State) (i : Fin 4) :
    ∃ t, OnlySlots s t ∧ t.slot i = s.slot i ∧ (forSlots f s).slot i = (f i t).slot i := by
  obtain ⟨before, after, split⟩ := List.mem_iff_append.mp (mem_slotList i)
  have nodup : (before ++ i :: after).Nodup := split ▸ (by decide : slotList.Nodup)
  obtain ⟨-, rest, disjoint⟩ := List.nodup_append'.mp nodup
  have earlier : i ∉ before := fun h => disjoint h List.mem_cons_self
  refine ⟨before.foldl (fun t j => f j t) s, ?_, foldl_slot_absent f apart before s i earlier, ?_⟩
  · exact List.foldlRecOn before _ (.refl s) fun t sofar j _ => sofar.trans (only j t)
  · rw [forSlots, split, List.foldl_append]
    exact foldl_slot_absent f apart after _ i (List.nodup_cons.mp rest).1

/-- A slot that a report picks is re-evaluated, in a state that differs from the first by the slots before it (R114). -/
theorem reevaluateWhere_picked (hit : Slot → Bool) (s : State) (i : Fin 4) (picked : hit (s.slot i) = true) :
    ∃ t, OnlySlots s t ∧ (reevaluateWhere hit s).slot i = reevaluated t (s.slot i) := by
  have apart : ∀ i j t, j ≠ i → ((if hit (t.slot i) then reevaluate i t else t).slot j) = t.slot j := by
    intro i j t other
    split
    · exact reevaluateAs_slot_other i j _ t other
    · rfl
  have only : ∀ i t, OnlySlots t (if hit (t.slot i) then reevaluate i t else t) := by
    intro i t
    split
    · exact onlySlots_reevaluateAs i _ t
    · exact .refl t
  obtain ⟨t, kept, same, became⟩ := forSlots_slot_only (fun i t => if hit (t.slot i) then reevaluate i t else t) apart only s i
  refine ⟨t, kept, became.trans ?_⟩
  simp only [same, picked, if_true]
  rw [reevaluate, reevaluateAs_slot, same]

/-- A slot bound to a profile that is reported is re-evaluated (R87, R115). -/
theorem reportProfile_slot (p : Fin 8) (s : State) (i : Fin 4) (bound : (s.slot i).bound = p) :
    ∃ t, OnlySlots s t ∧ (reportProfile p s).slot i = reevaluated t (s.slot i) :=
  reevaluateWhere_picked _ s i (decide_eq_true bound)

/-! ### One child profile -/

/-- Everything is kept but child `c`'s profile, usage record and curfew state, the service table, the marks of the records,
and what re-evaluations set of the slots bound to the profile. -/
structure OnlyChild (c : Fin 7) (s t : State) : Prop extends TrafficKept s t, QuietAttention s t, SettingsKept s t where
  lc : t.lc = s.lc
  pss : t.pss = { s.pss with profiles := t.pss.profiles, services := t.pss.services }
  vtu : t.vtu = { s.vtu with usage := t.vtu.usage, curfew := t.vtu.curfew }
  children : OtherChildrenKept s t c
  usages : OtherUsageKept s t c
  slots : SlotsTouched s t (fun x => decide (x.bound = childNumber c))

section
variable {c : Fin 7}

theorem OnlyChild.refl (s : State) : OnlyChild c s s :=
  ⟨⟨rfl, rfl, rfl⟩, ⟨rfl, rfl, rfl⟩, ⟨rfl, rfl⟩, rfl, rfl, rfl, fun _ _ => rfl, fun _ _ => rfl, .of_sdu _ rfl⟩

theorem OnlyChild.trans {s t u : State} (a : OnlyChild c s t) (b : OnlyChild c t u) : OnlyChild c s u where
  ct := b.ct.trans a.ct
  wd := b.wd.trans a.wd
  prt := b.prt.trans a.prt
  enable := b.enable.trans a.enable
  warned := b.warned.trans a.warned
  capture := b.capture.trans a.capture
  settings := b.settings.trans a.settings
  faultSeen := b.faultSeen.trans a.faultSeen
  lc := b.lc.trans a.lc
  pss := b.pss.trans (by rw [a.pss])
  vtu := b.vtu.trans (by rw [a.vtu])
  children d other := (b.children d other).trans (a.children d other)
  usages d other := (b.usages d other).trans (a.usages d other)
  slots := a.slots.trans b.slots

section
variable {s t : State} (h : OnlyChild c s t)
include h

theorem OnlyChild.acct : t.vtu.acct = s.vtu.acct := by rw [h.vtu]

theorem OnlyChild.clock : t.vtu.clock = s.vtu.clock := by rw [h.vtu]

theorem OnlyChild.uptime : t.vtu.uptime = s.vtu.uptime := by rw [h.vtu]

theorem OnlyChild.pin : t.pss.pin = s.pss.pin := by rw [h.pss]

theorem OnlyChild.failures : t.pss.failures = s.pss.failures := by rw [h.pss]

theorem OnlyChild.lockout : t.pss.lockout = s.pss.lockout := by rw [h.pss]

theorem OnlyChild.lockoutDue : t.pss.lockoutDue = s.pss.lockoutDue := by rw [h.pss]

theorem OnlyChild.localNow : t.localNow = s.localNow := by
  rw [State.localNow, State.wallNow, h.clock, h.uptime, h.settings]
  rfl

theorem OnlyChild.weekendClass : t.weekendClass = s.weekendClass := by
  rw [State.weekendClass, h.settings, h.acct]
  rfl

end

variable (c)

theorem onlyChild_setChild (p : Profile) (s : State) : OnlyChild c s (s.setChild c p) :=
  ⟨⟨rfl, rfl, rfl⟩, ⟨rfl, rfl, rfl⟩, ⟨rfl, rfl⟩, rfl, rfl, rfl, fun d other => child_setChild_other s c d p other,
    fun _ _ => rfl, .of_sdu _ rfl⟩

theorem onlyChild_setUsage (u : Usage) (s : State) : OnlyChild c s (s.setUsage c u) := by
  have others : OtherUsageKept s (s.setUsage c u) c := fun d other => usage_setUsage_other s c d u other
  unfold State.setUsage at others ⊢
  split at others
  next same => rw [if_pos same]; exact .refl s
  next changed =>
    rw [if_neg changed]
    exact ⟨⟨rfl, rfl, rfl⟩, ⟨rfl, rfl, rfl⟩, ⟨rfl, rfl⟩, rfl, rfl, rfl, fun _ _ => rfl, others, .of_sdu _ rfl⟩

theorem onlyChild_setCurfew (b : Bool) (s : State) : OnlyChild c s (s.setCurfew c b) :=
  ⟨⟨rfl, rfl, rfl⟩, ⟨rfl, rfl, rfl⟩, ⟨rfl, rfl⟩, rfl, rfl, rfl, fun _ _ => rfl, fun _ _ => rfl, .of_sdu _ rfl⟩

theorem onlyChild_markDirty (r : RecordId) (s : State) : OnlyChild c s (s.markDirty r) :=
  ⟨⟨rfl, rfl, rfl⟩, ⟨rfl, rfl, rfl⟩, ⟨rfl, rfl⟩, rfl, rfl, rfl, fun _ _ => rfl, fun _ _ => rfl, .of_sdu _ rfl⟩

theorem onlyChild_setServices (table : List ServiceEntry) (s : State) :
    OnlyChild c s { s with pss.services := table } :=
  ⟨⟨rfl, rfl, rfl⟩, ⟨rfl, rfl, rfl⟩, ⟨rfl, rfl⟩, rfl, rfl, rfl, fun _ _ => rfl, fun _ _ => rfl, .of_sdu _ rfl⟩

theorem onlyChild_reportProfile (s : State) : OnlyChild c s (reportProfile (childNumber c) s) := by
  have only := onlySlots_reportProfile (childNumber c) s
  exact ⟨⟨only.ct, only.wd, only.prt⟩, ⟨only.enable, only.warned, only.capture⟩,
    ⟨congrArg SC.settings only.sc, congrArg SC.faultSeen only.sc⟩, only.lc, by rw [only.pss], by rw [only.vtu],
    fun d _ => child_of_pss _ _ only.pss d, fun d _ => usage_of_vtu _ _ only.vtu d, slotsTouched_reportProfile _ s⟩

end

/-! ### The usage record after a restoration and a new cap (R86, R144) -/

/-- A usage record after the restoration steps at remaining time `r` and a warning bound (R144). -/
def Usage.restored (u : Usage) (r : Option Nat) (bound : Nat) : Usage :=
  if aboveZero r then { u with exhausted := false, ext := none, warned := u.warned && !aboveBound r bound } else u

theorem restored_above (u : Usage) {r : Option Nat} (bound : Nat) (above : aboveZero r = true) :
    u.restored r bound = { u with exhausted := false, ext := none, warned := u.warned && !aboveBound r bound } :=
  if_pos above

theorem restored_spent (u : Usage) {r : Option Nat} (bound : Nat) (spent : aboveZero r = false) : u.restored r bound = u :=
  if_neg (by rw [spent]; exact Bool.false_ne_true)

/-- Restoring moves no figure that the remaining time is reckoned from (R134). -/
theorem remainingTime_restored (p : Profile) (u : Usage) (weekend : Bool) (r : Option Nat) (bound : Nat) :
    remainingTime p (u.restored r bound) weekend = remainingTime p u weekend := by
  unfold Usage.restored
  split <;> rfl

theorem restore_usage (c : Fin 7) (s : State) :
    (restore c s).usage c = (s.usage c).restored (s.remainingChild c) ((s.child c).warn * 60) := by
  unfold restore Usage.restored
  split
  · simp only
    split
    · rw [usage_of_vtu _ _ (reportProfile_vtu _ _)]
      exact usage_setUsage_same s c _
    · exact usage_setUsage_same s c _
  · rfl

theorem onlyChild_restore (c : Fin 7) (s : State) : OnlyChild c s (restore c s) := by
  unfold restore
  split
  · simp only
    split
    · exact ((onlyChild_setUsage c _ s).trans (onlyChild_markDirty c _ _)).trans (onlyChild_reportProfile c _)
    · exact (onlyChild_setUsage c _ s).trans (onlyChild_markDirty c _ _)
  · exact .refl s

/-- A usage record under a carry cap in minutes (R86). -/
def Usage.capped (u : Usage) (cap : Nat) : Usage := { u with carry := min u.carry (cap * 60) }

theorem lowerCarry_usage (c : Fin 7) (s : State) :
    (lowerCarry c s).usage c = (s.usage c).capped (s.child c).carryCap := by
  unfold lowerCarry Usage.capped
  split
  next above =>
    rw [Nat.min_eq_right (Nat.le_of_lt above)]
    exact usage_setUsage_same s c _
  next within => rw [Nat.min_eq_left (Nat.le_of_not_lt within)]

theorem onlyChild_lowerCarry (c : Fin 7) (s : State) : OnlyChild c s (lowerCarry c s) := by
  unfold lowerCarry
  split
  · exact (onlyChild_setUsage c _ s).trans (onlyChild_markDirty c _ _)
  · exact .refl s

/-! ### PROFILE_WRITE, PROFILE_CURFEW, PROFILE_SUSPEND, PROFILE_RESUME and PROFILE_REMOVE (R85, R86, R101) -/

theorem onlyChild_recomputeCurfew (c : Fin 7) (s : State) : OnlyChild c s (recomputeCurfew c s) := by
  unfold recomputeCurfew
  split
  · exact onlyChild_setCurfew c _ s
  · exact .refl s

theorem onlyChild_createProfile (c : Fin 7) (p : Profile) (s : State) : OnlyChild c s (createProfile c p s) :=
  (((onlyChild_setChild c _ s).trans (onlyChild_setUsage c _ _)).trans (onlyChild_setCurfew c _ _)).trans
    (onlyChild_markDirty c _ _)

theorem onlyChild_rewriteProfile (c : Fin 7) (p : Profile) (s : State) : OnlyChild c s (rewriteProfile c p s) :=
  ((onlyChild_setChild c p s).trans (onlyChild_lowerCarry c _)).trans (onlyChild_restore c _)

theorem onlyChild_storeProfile (c : Fin 7) (p : Profile) (s : State) : OnlyChild c s (storeProfile c p s) := by
  unfold storeProfile
  refine OnlyChild.trans ?_ ((onlyChild_markDirty c (.profile c) _).trans (onlyChild_reportProfile c _))
  split
  · exact onlyChild_rewriteProfile c p s
  · exact onlyChild_createProfile c p s

theorem onlyChild_storeCurfews (c : Fin 7) (cs : List Curfew) (s : State) : OnlyChild c s (storeCurfews c cs s) :=
  (((onlyChild_setChild c _ s).trans (onlyChild_recomputeCurfew c _)).trans (onlyChild_markDirty c _ _)).trans
    (onlyChild_reportProfile c _)

theorem onlyChild_setSuspended (c : Fin 7) (b : Bool) (s : State) : OnlyChild c s (setSuspended c b s) :=
  ((onlyChild_setChild c _ s).trans (onlyChild_markDirty c _ _)).trans (onlyChild_reportProfile c _)

theorem onlyChild_dropProfile (c : Fin 7) (s : State) : OnlyChild c s (dropProfile c s) := by
  have dropped := ((((onlyChild_setChild c .invalid s).trans (onlyChild_markDirty c (.profile c) _)).trans
    (onlyChild_setUsage c .zero _)).trans (onlyChild_markDirty c (.usage c) _)).trans (onlyChild_setCurfew c false _)
  simp only [dropProfile]
  split
  · exact (dropped.trans (onlyChild_setServices c _ _)).trans (onlyChild_markDirty c _ _)
  · exact dropped.trans (onlyChild_setServices c _ _)

/-- A valid profile takes the settings; its usage record comes under the new cap and is restored (R85, R86). -/
theorem rewriteProfile_child (c : Fin 7) (p : Profile) (s : State) : (rewriteProfile c p s).child c = p := by
  have pss := ((onlyViewing_lowerCarry c (s.setChild c p)).trans (onlyViewing_restore c _)).pss
  exact (child_of_pss _ _ pss c).trans (child_setChild_same s c p)

theorem lowerCarry_remaining (c : Fin 7) (p : Profile) (s : State) :
    (lowerCarry c (s.setChild c p)).remainingChild c
      = remainingTime p ((s.usage c).capped p.carryCap) s.weekendClass := by
  have only := onlyChild_lowerCarry c (s.setChild c p)
  have weekend : (lowerCarry c (s.setChild c p)).weekendClass = s.weekendClass := only.weekendClass
  rw [State.remainingChild, weekend, lowerCarry_usage, child_of_pss _ _ (onlyViewing_lowerCarry c _).pss c,
    child_setChild_same]
  rfl

theorem rewriteProfile_usage (c : Fin 7) (p : Profile) (s : State) : (rewriteProfile c p s).usage c
    = ((s.usage c).capped p.carryCap).restored (remainingTime p ((s.usage c).capped p.carryCap) s.weekendClass)
        (p.warn * 60) := by
  rw [rewriteProfile, restore_usage, lowerCarry_remaining, lowerCarry_usage,
    child_of_pss _ _ (onlyViewing_lowerCarry c _).pss c, child_setChild_same]
  rfl

end Sys2Proof.Machine
end

section
/-! PROOFS. The ranges of the usage records, and of the failure count and the lockout, under every kind of step (R85, R98 to
R100, R132). -/

namespace Sys2Proof.Machine

/-! ### A usage record under its profile (R132) -/

/-- A usage record in its ranges under its profile: the law of one child (R132). -/
structure UsageFits (p : Profile) (u : Usage) : Prop where
  today : u.today ≤ 86400
  acc : u.acc ≤ 7
  week : u.week ≤ 604800
  bonus : u.bonus ≤ 43200
  weekBonus : u.weekBonus ≤ 302400
  carry : p.valid = true → u.carry ≤ p.carryCap * 60
  zero : p.valid = false → u = .zero

theorem usageLawful_iff (s : State) : s.UsageLawful ↔ ∀ c, UsageFits (s.child c) (s.usage c) := by
  refine forall_congr' fun c => ⟨?_, ?_⟩
  · rintro ⟨today, acc, week, bonus, weekBonus, carry, zero⟩
    exact ⟨today, acc, week, bonus, weekBonus, carry, zero⟩
  · rintro ⟨today, acc, week, bonus, weekBonus, carry, zero⟩
    exact ⟨today, acc, week, bonus, weekBonus, carry, zero⟩

/-- A valid profile asks no zero record. -/
theorem never_invalid {p : Profile} {u : Usage} (valid : p.valid = true) (invalid : p.valid = false) : u = .zero :=
  absurd (valid.symm.trans invalid).symm Bool.false_ne_true

theorem usageFits_zero (p : Profile) : UsageFits p .zero :=
  ⟨Nat.zero_le _, Nat.zero_le _, Nat.zero_le _, Nat.zero_le _, Nat.zero_le _, fun _ => Nat.zero_le _, fun _ => rfl⟩

section
variable {p q : Profile} {u : Usage}

theorem UsageFits.congr (fits : UsageFits p u) (valid : q.valid = p.valid) (cap : q.carryCap = p.carryCap) :
    UsageFits q u :=
  ⟨fits.today, fits.acc, fits.week, fits.bonus, fits.weekBonus, fun h => cap ▸ fits.carry (valid ▸ h),
    fun h => fits.zero (valid ▸ h)⟩

/-- The flags and the extension are free under a valid profile (R132). -/
theorem UsageFits.flags (fits : UsageFits p u) (valid : p.valid = true) (ext : Option Extension)
    (extUsed warned exhausted : Bool) : UsageFits p { u with ext, extUsed, warned, exhausted } :=
  ⟨fits.today, fits.acc, fits.week, fits.bonus, fits.weekBonus, fits.carry, never_invalid valid⟩

theorem UsageFits.of_zero (fits : UsageFits p u) (invalid : p.valid = false) {v : Usage} (zero : u = .zero → v = .zero) :
    UsageFits p v := zero (fits.zero invalid) ▸ usageFits_zero p

/-- The zero record has no extension for an edit of the extension to change. -/
theorem UsageFits.mapExt (fits : UsageFits p u) (f : Option Extension → Option Extension) (absent : f none = none) :
    UsageFits p { u with ext := f u.ext } := by
  cases valid : p.valid with
  | true => exact fits.flags valid _ _ _ _
  | false =>
    refine fits.of_zero valid ?_
    rintro rfl
    rw [show Usage.zero.ext = none from rfl, absent]
    rfl

theorem UsageFits.restored (fits : UsageFits p u) (r : Option Nat) (bound : Nat) : UsageFits p (u.restored r bound) := by
  unfold Usage.restored
  split
  · cases valid : p.valid with
    | true => exact fits.flags valid _ _ _ _
    | false =>
      refine fits.of_zero valid ?_
      rintro rfl
      rfl
  · exact fits

/-- A record under another valid profile's cap (R86). -/
theorem UsageFits.capped (fits : UsageFits p u) (valid : q.valid = true) : UsageFits q (u.capped q.carryCap) :=
  ⟨fits.today, fits.acc, fits.week, fits.bonus, fits.weekBonus, fun _ => Nat.min_le_right _ _, never_invalid valid⟩

theorem UsageFits.granted (fits : UsageFits p u) (valid : p.valid = true) (minutes : Nat) :
    UsageFits p (u.granted minutes) :=
  ⟨fits.today, fits.acc, fits.week, Nat.min_le_left _ _, Nat.min_le_left _ _, fits.carry, never_invalid valid⟩

theorem UsageFits.reset (fits : UsageFits p u) (valid : p.valid = true) (week : Bool) : UsageFits p (u.reset week) := by
  refine ⟨Nat.zero_le _, Nat.zero_le _, ?_, fits.bonus, ?_, fits.carry, never_invalid valid⟩
  · cases week
    · exact fits.week
    · exact Nat.zero_le _
  · cases week
    · exact fits.weekBonus
    · exact Nat.zero_le _

theorem UsageFits.accrue (fits : UsageFits p u) (valid : p.valid = true) (w : Nat) : UsageFits p (accrue w u) :=
  ⟨Nat.min_le_left _ _, Nat.le_of_lt_succ (Nat.mod_lt _ (by decide)), Nat.min_le_left _ _, fits.bonus, fits.weekBonus,
    fits.carry, never_invalid valid⟩

/-- A rolled record's carry is measured under the cap (R149). -/
theorem UsageFits.rolled (fits : UsageFits p u) (valid : p.valid = true) (weekend adjacent : Bool) :
    UsageFits p (rolledUsage p u weekend adjacent) := by
  refine ⟨Nat.zero_le _, Nat.zero_le _, fits.week, Nat.zero_le _, fits.weekBonus, fun _ => ?_, never_invalid valid⟩
  simp only [rolledUsage]
  split
  · exact Nat.min_le_left _ _
  · exact Nat.zero_le _

theorem UsageFits.newWeek (fits : UsageFits p u) (valid : p.valid = true) :
    UsageFits p { u with week := 0, weekBonus := 0 } :=
  ⟨fits.today, fits.acc, Nat.zero_le _, fits.bonus, Nat.zero_le _, fits.carry, never_invalid valid⟩

end

/-! ### What keeps the ranges -/

/-- The ranges of each usage record under its profile are kept, and those of the failure count and the lockout. -/
structure RecordLawsKept (s t : State) : Prop where
  usage : ∀ c, UsageFits (s.child c) (s.usage c) → UsageFits (t.child c) (t.usage c)
  lockout : s.LockoutLawful → t.LockoutLawful

/-- The profiles, the usage records, the failure count and the lockout are kept. -/
structure RecordsStand (s t : State) : Prop where
  profiles : t.pss.profiles = s.pss.profiles
  usage : t.vtu.usage = s.vtu.usage
  failures : t.pss.failures = s.pss.failures
  lockout : t.pss.lockout = s.pss.lockout
  lockoutDue : t.pss.lockoutDue = s.pss.lockoutDue

section
variable {s t u : State}

theorem RecordLawsKept.refl (s : State) : RecordLawsKept s s := ⟨fun _ => id, id⟩

theorem RecordLawsKept.trans (a : RecordLawsKept s t) (b : RecordLawsKept t u) : RecordLawsKept s u :=
  ⟨fun c fits => b.usage c (a.usage c fits), fun lawful => b.lockout (a.lockout lawful)⟩

theorem State.LockoutLawful.congr (lawful : s.LockoutLawful) (failures : t.pss.failures = s.pss.failures)
    (lockout : t.pss.lockout = s.pss.lockout) (due : t.pss.lockoutDue = s.pss.lockoutDue) : t.LockoutLawful := by
  rwa [State.LockoutLawful, failures, lockout, due]

theorem RecordsStand.laws (h : RecordsStand s t) : RecordLawsKept s t := by
  refine ⟨fun c fits => ?_, fun lawful => lawful.congr h.failures h.lockout h.lockoutDue⟩
  rwa [State.child, State.usage, h.profiles, h.usage]

theorem recordsStand_of_blocks (pss : t.pss = s.pss) (vtu : t.vtu = s.vtu) : RecordsStand s t := by
  refine ⟨?_, ?_, ?_, ?_, ?_⟩
  · rw [pss]
  · rw [vtu]
  · rw [pss]
  · rw [pss]
  · rw [pss]

theorem recordLaws_of_blocks (pss : t.pss = s.pss) (vtu : t.vtu = s.vtu) : RecordLawsKept s t :=
  (recordsStand_of_blocks pss vtu).laws

theorem OnlySlots.recordLaws (h : OnlySlots s t) : RecordLawsKept s t := recordLaws_of_blocks h.pss h.vtu

theorem OnlyCommit.recordLaws (h : OnlyCommit s t) : RecordLawsKept s t := recordLaws_of_blocks h.pss h.vtu

theorem OnlyChannel.recordLaws (h : OnlyChannel s t) : RecordLawsKept s t := recordLaws_of_blocks h.pss h.vtu

theorem recordLaws_report (s : State) (kind : CaptureKind) (block : Nat) (bank : BitVec 3) (row col : Nat) :
    RecordLawsKept s (s.report kind block bank row col) :=
  recordLaws_of_blocks (report_pss s _ _ _ _ _) (report_vtu s _ _ _ _ _)

/-- An edit of one child keeps the ranges where it keeps that child's. -/
theorem OnlyChild.recordLaws {c : Fin 7} (only : OnlyChild c s t)
    (own : UsageFits (s.child c) (s.usage c) → UsageFits (t.child c) (t.usage c)) : RecordLawsKept s t := by
  refine ⟨fun d fits => ?_, fun lawful => lawful.congr only.failures only.lockout only.lockoutDue⟩
  by_cases same : d = c
  · subst same
    exact own fits
  · rwa [only.children d same, only.usages d same]

end

theorem recordLaws_setUsage {c : Fin 7} {u : Usage} {s : State}
    (own : UsageFits (s.child c) (s.usage c) → UsageFits (s.child c) u) : RecordLawsKept s (s.setUsage c u) := by
  refine (onlyChild_setUsage c u s).recordLaws ?_
  rwa [child_of_pss _ _ (onlyViewing_setUsage s c u).pss, usage_setUsage_same]

theorem recordLaws_markDirty (r : RecordId) (s : State) : RecordLawsKept s (s.markDirty r) := recordLaws_of_blocks rfl rfl

theorem recordLaws_setAcct (a : Option Acct) (s : State) : RecordLawsKept s { s with vtu.acct := a } :=
  RecordsStand.laws ⟨rfl, rfl, rfl, rfl, rfl⟩

theorem recordLaws_forChildren (f : Fin 7 → State → State) (h : ∀ c s, RecordLawsKept s (f c s)) (s : State) :
    RecordLawsKept s (forChildren f s) :=
  forChildren_induct (P := RecordLawsKept s) f (fun c t kept => kept.trans (h c t)) s (.refl s)

/-! ### The Viewing Time Unit (R135 to R152) -/

theorem recordLaws_restore (c : Fin 7) (s : State) : RecordLawsKept s (restore c s) := by
  refine (onlyChild_restore c s).recordLaws fun fits => ?_
  rw [child_of_pss _ _ (onlyViewing_restore c s).pss, restore_usage]
  exact fits.restored _ _

/-- A grant or a reset, restored (R144, R176). -/
theorem recordLaws_restoreUsage {c : Fin 7} {u : Usage} {s : State}
    (own : UsageFits (s.child c) (s.usage c) → UsageFits (s.child c) u) :
    RecordLawsKept s (restore c ((s.setUsage c u).markDirty (.usage c))) :=
  ((recordLaws_setUsage own).trans (recordLaws_markDirty _ _)).trans (recordLaws_restore c _)

theorem recordLaws_warningTest {c : Fin 7} {s : State} (valid : (s.child c).valid = true) :
    RecordLawsKept s (warningTest c s) := by
  unfold warningTest
  split
  · have warned : RecordLawsKept s (s.setUsage c { s.usage c with warned := true }) :=
      recordLaws_setUsage fun fits => fits.flags valid _ _ _ _
    exact warned.trans (recordLaws_of_blocks rfl rfl)
  · exact .refl s

theorem recordLaws_grantExtension {c : Fin 7} {s : State} (valid : (s.child c).valid = true) :
    RecordLawsKept s (grantExtension c s) := by
  unfold grantExtension
  split
  · exact .refl s
  · exact recordLaws_setUsage fun fits => fits.flags valid _ _ _ _

theorem recordLaws_exhaustionTest {c : Fin 7} {s : State} (valid : (s.child c).valid = true) :
    RecordLawsKept s (exhaustionTest c s) := by
  unfold exhaustionTest
  split
  · have raised : RecordLawsKept s ((s.setUsage c { s.usage c with exhausted := true }).raise .timeUp) :=
      (recordLaws_setUsage fun fits => fits.flags valid _ _ _ _).trans (recordLaws_of_blocks rfl rfl)
    have still : (((s.setUsage c { s.usage c with exhausted := true }).raise .timeUp).child c).valid = true := by
      rwa [child_of_pss _ _ ((onlyViewing_setUsage s c _).trans (onlyViewing_raise _ .timeUp)).pss]
    exact (raised.trans (recordLaws_grantExtension still)).trans (recordLaws_markDirty _ _)
  · exact .refl s

theorem recordLaws_tickChild (c : Fin 7) (s : State) : RecordLawsKept s (tickChild c s) := by
  unfold tickChild
  split
  next valid =>
    have accrued := onlyViewing_setUsage s c (accrue (profileWeight s c) (s.usage c))
    have warned := accrued.trans (onlyViewing_warningTest c _)
    exact ((recordLaws_setUsage fun fits => fits.accrue valid _).trans
      (recordLaws_warningTest (by rwa [child_of_pss _ _ accrued.pss]))).trans
      (recordLaws_exhaustionTest (by rwa [child_of_pss _ _ warned.pss]))
  · exact .refl s

theorem recordLaws_dayRollover (day : Nat) (a : Acct) (s : State) : RecordLawsKept s (dayRollover day a s) := by
  refine ((recordLaws_forChildren (fun c t => if (t.child c).valid then _ else t) (fun c t => ?_) s).trans
    (recordLaws_forChildren (fun c t => t.markDirty (.usage c)) (fun c t => recordLaws_markDirty _ t) _)).trans
    (recordLaws_setAcct _ _)
  split
  next valid => exact recordLaws_setUsage fun fits => fits.rolled valid _ _
  · exact .refl t

theorem recordLaws_weekRollover (s : State) : RecordLawsKept s (weekRollover s) := by
  unfold weekRollover
  split
  · exact .refl s
  · simp only
    split
    · refine (recordLaws_forChildren _ (fun c t => ?_) s).trans (recordLaws_setAcct _ _)
      split
      next valid => exact recordLaws_setUsage fun fits => fits.newWeek valid
      · exact .refl t
    · exact .refl s

theorem recordLaws_rolloverCheck (s : State) : RecordLawsKept s (rolloverCheck s) := by
  unfold rolloverCheck
  split
  · exact .refl s
  · simp only
    split
    · exact recordLaws_setAcct _ s
    · split
      · exact (recordLaws_dayRollover _ _ s).trans (recordLaws_weekRollover _)
      · exact .refl s

theorem recordLaws_recomputeCurfews (s : State) : RecordLawsKept s (recomputeCurfews s) := by
  refine recordLaws_forChildren _ (fun c t => ?_) s
  unfold recomputeCurfew
  split
  · exact RecordsStand.laws ⟨rfl, rfl, rfl, rfl, rfl⟩
  · exact .refl t

theorem recordLaws_reportDiffering (s t : State) : RecordLawsKept t (reportDiffering s t) := by
  refine recordLaws_forChildren _ (fun c u => ?_) t
  split
  · exact (onlySlots_reportProfile _ u).recordLaws
  · exact .refl u

theorem recordLaws_zeroFrames (s : State) : RecordLawsKept s (zeroFrames s) :=
  forSlots_induct (P := RecordLawsKept s) _ (fun i t kept => kept.trans (onlySlots_setSlot t i _).recordLaws) s (.refl s)

theorem recordLaws_tickBody (s : State) : RecordLawsKept s (tickBody s) := by
  refine RecordLawsKept.trans ?_ (recordLaws_reportDiffering s _)
  have charged := ((recordLaws_rolloverCheck s).trans (recordLaws_forChildren _ recordLaws_tickChild _)).trans
    (recordLaws_zeroFrames _)
  simp only [tickBeforeReports]
  split
  · exact charged.trans (recordLaws_recomputeCurfews _)
  · exact charged

theorem recordLaws_setClock (wall : Nat) (zone : Int) (s : State) : RecordLawsKept s (setClock wall zone s) := by
  have set : RecordLawsKept s
      { s with vtu.clock := some { wall := wall, since := s.vtu.uptime }, sc.settings.zone := zone } :=
    RecordsStand.laws ⟨rfl, rfl, rfl, rfl, rfl⟩
  have started : RecordLawsKept s (startClock wall zone s) :=
    set.trans (recordLaws_forChildren _ (fun c t => recordLaws_setUsage fun fits =>
      fits.mapExt (Option.map fun e => { e with expiry := e.expiry.toWall wall s.vtu.uptime }) rfl) _)
  have ended : ∀ t, RecordLawsKept t (endPastExtensions wall t) := fun t => recordLaws_forChildren _ (fun c u => by
    split
    · exact recordLaws_setUsage fun fits => fits.mapExt (fun _ => none) rfl
    · exact .refl u) t
  have slots : ∀ t, RecordLawsKept t (clockToSlots wall t) := fun t =>
    (forSlots_induct (P := RecordLawsKept t) _ (fun i u kept => kept.trans (onlySlots_setSlot u i _).recordLaws) t
      (.refl t)).trans (onlySlots_reevaluateWhere _ _).recordLaws
  exact (((((started.trans (ended _)).trans (recordLaws_rolloverCheck _)).trans (recordLaws_recomputeCurfews _)).trans
    (recordLaws_markDirty .settings _)).trans (recordLaws_reportDiffering s _)).trans (slots _)

/-! ### The PIN (R98, R99) -/

theorem lockoutSeconds_range (count : Nat) : 1 ≤ lockoutSeconds count ∧ lockoutSeconds count ≤ 3840 := by
  have grows : 1 ≤ 2 ^ (count - 5) := Nat.one_le_two_pow
  unfold lockoutSeconds
  omega

theorem lockoutLawful_started {s : State} (count : s.pss.failures ≤ 255)
    (lockout : s.pss.lockout = some (lockoutSeconds s.pss.failures)) (due : s.pss.lockoutDue = false) :
    s.LockoutLawful := by
  refine ⟨count, fun n running => ?_, fun now => absurd (due.symm.trans now) Bool.false_ne_true⟩
  rw [lockout] at running
  exact Option.some.inj running ▸ lockoutSeconds_range _

theorem recordLaws_setFailures {n : Nat} (range : n ≤ 255) (s : State) : RecordLawsKept s (s.setFailures n) := by
  have only := onlyCount_setFailures s n
  refine ⟨fun c fits => ?_, ?_⟩
  · rwa [State.child, State.usage, only.profiles, only.vtu]
  · rintro ⟨-, running, due⟩
    rw [State.LockoutLawful, setFailures_pss]
    exact ⟨range, running, due⟩

theorem recordLaws_failCompare (s : State) : RecordLawsKept s (failCompare s) := by
  have counted := recordLaws_setFailures (Nat.min_le_left 255 (s.pss.failures + 1)) s
  unfold failCompare
  simp only
  split
  · refine ⟨counted.usage, fun _ => lockoutLawful_started ?_ ?_ rfl⟩
    · exact (congrArg (· ≤ 255) (congrArg PSS.failures (setFailures_pss s _))).mpr (Nat.min_le_left _ _)
    · exact congrArg (fun n => some (lockoutSeconds n)) (congrArg PSS.failures (setFailures_pss s _)).symm
  · exact counted

end Sys2Proof.Machine
end

section
/-! PROOFS. What each command's owner, the load and the store do to the ranges of the usage records and of the failure count
(R85, R86, R98 to R101, R132, R144, R176, R177, R191, R192). -/

namespace Sys2Proof.Machine

/-! ### PROFILE_WRITE, PROFILE_CURFEW, PROFILE_SUSPEND, PROFILE_RESUME and PROFILE_REMOVE (R84 to R86, R101) -/

/-- A valid child field names a valid profile (R85). -/
theorem validChildField_valid {s : State} {b : Byte} {c : Fin 7} (named : validChildField s b = some c) :
    (s.child c).valid = true := by
  simp only [validChildField, Option.filter_eq_some_iff] at named
  exact named.2

/-- A PROFILE_WRITE's profile is valid, warns at 1 minute at least, and keeps the state and the curfew list (R84, R85). -/
theorem writtenProfile_keeps {old p : Profile} {f : ProfileFields} (written : writtenProfile old f = some p) :
    p.valid = true ∧ p.warn = max 1 f.warn.toNat ∧ p.suspended = old.suspended ∧ p.curfews = old.curfews := by
  unfold writtenProfile at written
  split at written
  · split at written
    · cases written
      exact ⟨rfl, rfl, rfl, rfl⟩
    · cases written
  · cases written

theorem curfewActive_setCurfew_same (s : State) (c : Fin 7) (b : Bool) : (s.setCurfew c b).curfewActive c = b := by
  simp [State.curfewActive, State.setCurfew]

theorem curfewActive_of_vtu {s t : State} (vtu : t.vtu = s.vtu) (c : Fin 7) : t.curfewActive c = s.curfewActive c := by
  rw [State.curfewActive, vtu]
  rfl

section
variable (c : Fin 7) (p : Profile) {s : State}

theorem storeProfile_valid (valid : (s.child c).valid = true) : (storeProfile c p s).child c = p
    ∧ (storeProfile c p s).usage c = (rewriteProfile c p s).usage c := by
  have only := (onlyViewing_markDirty (rewriteProfile c p s) (.profile c)).trans
    (onlySlots_reportProfile (childNumber c) _).viewing
  rw [storeProfile, if_pos valid]
  exact ⟨(child_of_pss _ _ only.pss c).trans (rewriteProfile_child c p s),
    usage_of_vtu ((rewriteProfile c p s).markDirty (.profile c)) _ (reportProfile_vtu _ _) c⟩

theorem createProfile_made (s : State) : (createProfile c p s).child c = { p with suspended := false, curfews := [] }
    ∧ (createProfile c p s).usage c = .zero ∧ (createProfile c p s).curfewActive c = false := by
  have only := onlyViewing_setUsage (s.setChild c { p with suspended := false, curfews := [] }) c .zero
  exact ⟨(child_of_pss _ _ only.pss c).trans (child_setChild_same s c _), usage_setUsage_same _ c .zero,
    curfewActive_setCurfew_same _ c false⟩

theorem storeProfile_created (invalid : (s.child c).valid = false) :
    (storeProfile c p s).child c = { p with suspended := false, curfews := [] }
      ∧ (storeProfile c p s).usage c = .zero ∧ (storeProfile c p s).curfewActive c = false := by
  have unset : ¬ (s.child c).valid = true := Bool.eq_false_iff.mp invalid
  have report := onlySlots_reportProfile (childNumber c) ((createProfile c p s).markDirty (.profile c))
  obtain ⟨child, usage, curfew⟩ := createProfile_made c p s
  rw [storeProfile, if_neg unset]
  exact ⟨(child_of_pss _ _ report.pss c).trans child, (usage_of_vtu _ _ report.vtu c).trans usage,
    (curfewActive_of_vtu report.vtu c).trans curfew⟩

end

theorem recordLaws_storeProfile {c : Fin 7} {p : Profile} (valid : p.valid = true) (s : State) :
    RecordLawsKept s (storeProfile c p s) := by
  refine (onlyChild_storeProfile c p s).recordLaws fun fits => ?_
  cases was : (s.child c).valid with
  | true =>
    obtain ⟨child, usage⟩ := storeProfile_valid c p was
    rw [child, usage, rewriteProfile_usage]
    exact (fits.capped valid).restored _ _
  | false =>
    obtain ⟨-, usage, -⟩ := storeProfile_created c p was
    rw [usage]
    exact usageFits_zero _

theorem storeCurfews_child (c : Fin 7) (cs : List Curfew) (s : State) :
    (storeCurfews c cs s).child c = { s.child c with curfews := cs } := by
  have only := ((onlyViewing_recomputeCurfew c (s.setChild c { s.child c with curfews := cs })).trans
    (onlyViewing_markDirty _ (.profile c))).trans (onlySlots_reportProfile (childNumber c) _).viewing
  exact (child_of_pss _ _ only.pss c).trans (child_setChild_same s c _)

theorem storeCurfews_usage (c : Fin 7) (cs : List Curfew) (s : State) :
    (storeCurfews c cs s).vtu.usage = s.vtu.usage := by
  rw [storeCurfews, reportProfile_vtu]
  unfold recomputeCurfew
  split <;> rfl

theorem setSuspended_child (c : Fin 7) (b : Bool) (s : State) :
    (setSuspended c b s).child c = { s.child c with suspended := b } := by
  have only := (onlyViewing_markDirty (s.setChild c { s.child c with suspended := b }) (.profile c)).trans
    (onlySlots_reportProfile (childNumber c) _).viewing
  exact (child_of_pss _ _ only.pss c).trans (child_setChild_same s c _)

theorem setSuspended_vtu (c : Fin 7) (b : Bool) (s : State) : (setSuspended c b s).vtu = s.vtu := by
  rw [setSuspended, reportProfile_vtu]
  rfl

/-- The end of a removal, the usage record's zeroing done: the curfew ends and no service set names the profile (R101). -/
def leaveSets (c : Fin 7) (t : State) : State :=
  { (t.markDirty (.usage c)).setCurfew c false with
    pss.services := t.pss.services.map fun e => e.without (childNumber c) }

/-- A profile removed, the mark of the service table's record apart (R101). -/
def forgotten (c : Fin 7) (s : State) : State :=
  leaveSets c (((s.setChild c .invalid).markDirty (.profile c)).setUsage c .zero)

theorem dropProfile_eq (c : Fin 7) (s : State) : dropProfile c s =
    if s.pss.services.any fun e => e.names (childNumber c) then (forgotten c s).markDirty .services else forgotten c s :=
  rfl

theorem leaveSets_made (c : Fin 7) (t : State) : (leaveSets c t).child c = t.child c
    ∧ (leaveSets c t).usage c = t.usage c ∧ (leaveSets c t).curfewActive c = false ∧ (leaveSets c t).sdu = t.sdu
    ∧ (leaveSets c t).pss.services = t.pss.services.map (fun e => e.without (childNumber c)) :=
  ⟨rfl, rfl, curfewActive_setCurfew_same _ c false, rfl, rfl⟩

theorem forgotten_made (c : Fin 7) (s : State) : (forgotten c s).child c = .invalid ∧ (forgotten c s).usage c = .zero
    ∧ (forgotten c s).curfewActive c = false ∧ (forgotten c s).sdu = s.sdu
    ∧ (forgotten c s).pss.services = s.pss.services.map (fun e => e.without (childNumber c)) := by
  have only := onlyViewing_setUsage ((s.setChild c .invalid).markDirty (.profile c)) c .zero
  have zero := usage_setUsage_same ((s.setChild c .invalid).markDirty (.profile c)) c .zero
  have slots := setUsage_sdu ((s.setChild c .invalid).markDirty (.profile c)) c .zero
  have invalid := child_setChild_same s c .invalid
  rw [forgotten]
  generalize State.setUsage _ c .zero = t at only zero slots
  obtain ⟨child, usage, curfew, sdu, services⟩ := leaveSets_made c t
  exact ⟨child.trans ((child_of_pss _ _ only.pss c).trans invalid), usage.trans zero, curfew, sdu.trans slots,
    services.trans (by rw [only.pss]; rfl)⟩

/-- PROFILE_REMOVE's effect: the profile INVALID, the zero usage record, no curfew, and in no set (R101). -/
theorem dropProfile_made (c : Fin 7) (s : State) :
    (dropProfile c s).child c = .invalid ∧ (dropProfile c s).usage c = .zero ∧ (dropProfile c s).curfewActive c = false
      ∧ (dropProfile c s).sdu = s.sdu
      ∧ (dropProfile c s).pss.services = s.pss.services.map (fun e => e.without (childNumber c)) := by
  rw [dropProfile_eq]
  split
  · exact forgotten_made c s
  · exact forgotten_made c s

end Sys2Proof.Machine
end

section
/-! PROOFS. The ranges of the usage records, and of the failure count and the lockout, after every step: what the commands'
owners, the ingest, the load and the seconds keep of them (R85, R98 to R100, R132, R191, R192). -/

namespace Sys2Proof.Machine

/-! ### What a command's owner does -/

theorem recordLaws_dropProfile (c : Fin 7) (s : State) : RecordLawsKept s (dropProfile c s) := by
  obtain ⟨-, usage, -⟩ := dropProfile_made c s
  exact (onlyChild_dropProfile c s).recordLaws fun _ => usage ▸ usageFits_zero _

theorem recordLaws_storeCurfews (c : Fin 7) (cs : List Curfew) (s : State) : RecordLawsKept s (storeCurfews c cs s) := by
  refine (onlyChild_storeCurfews c cs s).recordLaws fun fits => ?_
  rw [storeCurfews_child, State.usage, storeCurfews_usage]
  exact fits.congr rfl rfl

theorem recordLaws_setSuspended (c : Fin 7) (b : Bool) (s : State) : RecordLawsKept s (setSuspended c b s) := by
  refine (onlyChild_setSuspended c b s).recordLaws fun fits => ?_
  rw [setSuspended_child, State.usage, setSuspended_vtu]
  exact fits.congr rfl rfl

theorem recordLaws_profileWrite (profile : Byte) (fields : ProfileFields) (x : TakeCtx) (s : State) :
    RecordLawsKept s ((profileWrite profile fields).act x s).state := by
  simp only [profileWrite, Handler.gated]
  split
  · exact .refl s
  · split
    · exact .refl s
    next p written =>
      obtain ⟨valid, -⟩ := writtenProfile_keeps written
      rw [accept_state]
      exact recordLaws_storeProfile valid s

theorem recordLaws_allowanceGrant (profile minutes : Byte) (x : TakeCtx) (s : State) :
    RecordLawsKept s ((allowanceGrant profile minutes).act x s).state := by
  simp only [allowanceGrant, Handler.gated]
  split
  · exact .refl s
  next c named =>
    split
    · exact .refl s
    · exact recordLaws_restoreUsage fun fits => fits.granted (validChildField_valid named) _

theorem recordLaws_usageReset (profile week : Byte) (x : TakeCtx) (s : State) :
    RecordLawsKept s ((usageReset profile week).act x s).state := by
  simp only [usageReset, Handler.gated]
  split
  · exact .refl s
  next c named =>
    split
    · exact .refl s
    · exact recordLaws_restoreUsage fun fits => fits.reset (validChildField_valid named) _

/-- A new PIN forgets the failures and leaves a lockout running (R96, R177). -/
theorem recordLaws_pinSet (newPin : Vector Byte 8) (x : TakeCtx) (s : State) :
    RecordLawsKept s ((pinSet newPin).act x s).state := by
  simp only [pinSet, Handler.gated]
  split
  · exact .refl s
  · exact ⟨fun _ => id, fun ⟨_, running, due⟩ => ⟨Nat.zero_le _, running, due⟩⟩

theorem recordsStand_storeServices (service : Nat) (table : List ServiceEntry) (s : State) :
    RecordsStand s (storeServices service table s) := by
  have only := onlySlots_reportServiceEntry service ({ s with pss.services := table }.markDirty .services)
  have pss : (storeServices service table s).pss = { s.pss with services := table } := only.pss
  refine ⟨?_, congrArg VTU.usage only.vtu, ?_, ?_, ?_⟩ <;> rw [pss]

theorem recordLaws_applyInsert (e : Entry) (r : InsertResult) (s : State) : RecordLawsKept s (applyInsert e r s) := by
  unfold applyInsert
  split
  · exact recordLaws_of_blocks (onlySlots_reportServices _ _).pss (onlySlots_reportServices _ _).vtu
  · exact .refl s
  · exact .refl s

theorem recordLaws_changeWindows (wd : WD) (s : State) : RecordLawsKept s (changeWindows wd s) :=
  recordLaws_of_blocks (onlySlots_changeWindows wd s).pss (onlySlots_changeWindows wd s).vtu

/-- What every record command's own effect keeps. -/
theorem recordLaws_handlerOf (i : Instr) (H : Handler) (h : handlerOf i = some H) (x : TakeCtx) (s : State) :
    RecordLawsKept s (H.act x s).state := by
  cases i <;> simp only [handlerOf, Option.some.injEq, reduceCtorEq] at h <;> subst h
  case profileWrite => exact recordLaws_profileWrite _ _ x s
  case allowanceGrant => exact recordLaws_allowanceGrant _ _ x s
  case usageReset => exact recordLaws_usageReset _ _ x s
  case pinSet => exact recordLaws_pinSet _ x s
  case profileCurfew | profileSuspend | profileResume | profileRemove =>
    simp only [profileCurfew, profileSuspend, profileResume, profileRemove, Handler.gated]
    repeat' split
    all_goals simp only [accept_state, refuse_state, RecordLawsKept.refl, recordLaws_storeCurfews,
      recordLaws_setSuspended, recordLaws_dropProfile]
  case serviceWrite | serviceRemove =>
    simp only [serviceWrite, serviceRemove, Handler.gated]
    repeat' split
    all_goals simp only [accept_state, refuse_state, RecordLawsKept.refl, (recordsStand_storeServices _ _ s).laws]
  case clockSet =>
    simp only [clockSet, Handler.free]
    repeat' split
    all_goals simp only [accept_state, refuse_state, RecordLawsKept.refl, recordLaws_setClock]
  case eventNotice | eventWithdraw | serviceEventsClear =>
    simp only [eventNotice, eventWithdraw, serviceEventsClear, withdraw, Handler.free]
    repeat' split
    all_goals simp only [accept_state, refuse_state, RecordLawsKept.refl, recordLaws_applyInsert]
    all_goals exact recordLaws_of_blocks (onlySlots_reportServices _ _).pss (onlySlots_reportServices _ _).vtu
  case slotTune | slotBind | slotUnlock | slotRelock =>
    simp only [slotTune, tuneSlot, slotBind, slotUnlock, unlockSlot, slotRelock, relockSlot, Handler.free,
      Handler.gated]
    repeat' split
    all_goals simp only [accept_state, refuse_state, RecordLawsKept.refl, (onlySlots_bindSlot _ _ s).recordLaws,
      (onlySlots_reevaluateAs _ _ s).recordLaws]
  case windowDefine | windowRemove =>
    simp only [windowDefine, windowRemove, Handler.free]
    repeat' split
    all_goals simp only [accept_state, refuse_state, RecordLawsKept.refl, recordLaws_changeWindows]
  case readEvent | ratingCheck | readProfile | readUsage | readSlot | readService | readCapture | readWindow =>
    simp only [readEvent, ratingCheck, readProfile, readUsage, readSlot, readService, readCapture, readWindow,
      Handler.free]
    repeat' split
    all_goals exact .refl s
  case attentionSet | attentionClear | captureClear | settingsWrite | lanePermit | windowLock | fillTileWrite
      | ingestBegin | ingestAbort =>
    simp only [attentionSet, attentionClear, captureClear, settingsWrite, lanePermit, windowLock, fillTileWrite,
      ingestBegin, ingestAbort, Handler.free, Handler.gated]
    repeat' split
    all_goals exact recordLaws_of_blocks rfl rfl

theorem keptByTaking_recordLaws : KeptByTaking RecordLawsKept where
  refl := .refl
  trans := RecordLawsKept.trans
  acts := recordLaws_handlerOf
  matched := recordLaws_setFailures (Nat.zero_le _)
  failed := recordLaws_failCompare
  replied _ _ _ _ _ _ _ _ := recordLaws_of_blocks rfl rfl
  advanced _ _ := recordLaws_of_blocks rfl rfl
  committed s := (onlyCommit_startCommit s).recordLaws
  staged _ _ _ _ := recordLaws_of_blocks rfl rfl
  misplaced s _ _ _ _ := recordLaws_report s _ _ _ _ _

/-! ### Seconds (R99, R128, R135) -/

/-- A second takes one from a running lockout; the last second is its expiry's (R99; log 4). -/
theorem recordLaws_beginSecond (s : State) : RecordLawsKept s (beginSecond s) := by
  refine ⟨fun _ => id, fun ⟨count, range, _⟩ => ⟨count, ?_, ?_⟩⟩
  · intro n running
    obtain ⟨m, before, rfl⟩ := Option.map_eq_some_iff.mp running
    have bounds := range m before
    split <;> omega
  · intro due
    obtain ⟨m, before, last⟩ := (Option.any_eq_true _ _).mp due
    have bounds := range m before
    have one : m = 1 := by
      have := of_decide_eq_true last
      omega
    subst one
    exact congrArg (Option.map fun n => if 1 < n then n - 1 else n) before

theorem keptBySeconds_recordLaws : KeptBySeconds RecordLawsKept where
  refl := .refl
  trans := RecordLawsKept.trans
  slots := OnlySlots.recordLaws
  lockout s := ⟨fun _ => id, fun ⟨count, _⟩ =>
    ⟨count, fun _ running => (Option.not_mem_none _ running).elim, fun due => absurd due Bool.false_ne_true⟩⟩
  extension c s := (recordLaws_setUsage fun fits => fits.mapExt (fun _ => none) rfl).trans
    (onlySlots_reportProfile _ _).recordLaws
  age c s := (recordLaws_markDirty _ s).trans (onlyCommit_startCommit _).recordLaws
  second := recordLaws_beginSecond
  tick s := by
    have begun : RecordLawsKept s { s with vtu.tickDue := false } := RecordsStand.laws ⟨rfl, rfl, rfl, rfl, rfl⟩
    exact (begun.trans (recordLaws_tickBody _)).trans (onlyCommit_startCommit _).recordLaws

/-! ### The channel and the ingest (R14, R22, R75 to R80) -/

theorem recordLaws_ingestDelivery (d : Delivery) (s : State) : RecordLawsKept s (ingestDelivery d s) := by
  cases running : s.prt.ingest with
  | none => simp only [ingestDelivery, running]; exact .refl s
  | some g =>
    by_cases place : d.block - d.block % 32 = g.next <;> cases closes : d.closesIngest
    · rw [ingestDelivery_gathers d s g running place closes]
      exact recordLaws_of_blocks rfl rfl
    · rw [ingestDelivery_closing d s g running place closes]
      obtain ⟨table, hit, became⟩ := processRecord_became (eventCoreAt (s.gathered d).prt.stager 0) (s.gathered d)
      have processed : RecordLawsKept s (processRecord (eventCoreAt (s.gathered d).prt.stager 0) (s.gathered d)).1 :=
        recordLaws_of_blocks became.only.pss became.only.vtu
      have advanced := (advanced_advanceIngest
        (g.count (processRecord (eventCoreAt (s.gathered d).prt.stager 0) (s.gathered d)).2)
        (processRecord (eventCoreAt (s.gathered d).prt.stager 0) (s.gathered d)).1).frame
      exact processed.trans (recordLaws_of_blocks advanced.pss advanced.vtu)
    · rw [ingestDelivery_ignored d s g running place closes]
      exact .refl s
    · rw [ingestDelivery_misplaced d s g running place closes]
      exact (recordLaws_report s _ _ _ _ _).trans (recordLaws_of_blocks rfl rfl)

theorem BeatCase.recordLaws {s t : State} (h : BeatCase s t) : RecordLawsKept s t := by
  cases h with
  | unlisted out => exact recordLaws_of_blocks rfl rfl
  | counted out index b c => exact recordLaws_of_blocks rfl rfl
  | finished out index => exact recordLaws_of_blocks rfl rfl
  | toLane out index _ _ lane ring d =>
    exact (lineKept_lastBeat out index s).only.recordLaws.trans (keptByTaking_recordLaws.laneDelivery lane ring d _)
  | toIngest out index _ _ d =>
    exact (lineKept_lastBeat out index s).only.recordLaws.trans (recordLaws_ingestDelivery d _)

theorem recordLaws_present (l : Lines) (s : State) : RecordLawsKept s (present l s) := by
  rcases present_tables l s with ⟨u, only, -, e⟩ | only
  · exact e ▸ only.recordLaws.trans (keptByTaking_recordLaws.resumeTaking u)
  · exact only.recordLaws

theorem recordLaws_lineReset (s : State) :
    RecordLawsKept s (assertLine (if s.isReleased then resetChannel s else s)) := by
  split
  · have before : RecordLawsKept s (resetBeforeFrames s) := by rw [resetBeforeFrames_eq]; exact recordLaws_of_blocks rfl rfl
    exact (before.trans (recordLaws_zeroFrames _)).trans (recordLaws_of_blocks rfl rfl)
  · exact recordLaws_of_blocks rfl rfl

theorem recordLaws_endStartup (order : List (Fin 4)) (s : State) : RecordLawsKept s (endStartup order s) := by
  have running : RecordLawsKept s { s with phase := .running, vtu.tickDue := false } :=
    RecordsStand.laws ⟨rfl, rfl, rfl, rfl, rfl⟩
  simp only [endStartup]
  split
  · exact RecordsStand.laws ⟨rfl, rfl, rfl, rfl, rfl⟩
  · exact running.trans (keptByTaking_recordLaws.takeAll order _)

/-! ### The load (R100, R132, R191, R192) -/

theorem usageInRange_fits {p : Profile} {u : Usage} (range : u.inRange = true) (valid : p.valid = true) :
    UsageFits p (loadedUsage p u) := by
  obtain ⟨today, acc, week, -, bonus, weekBonus⟩ := of_decide_eq_true range
  exact ⟨today, acc, week, bonus, weekBonus, fun _ => Nat.min_le_right _ _, never_invalid valid⟩

theorem UsageFits.caughtUp {p : Profile} {u : Usage} (fits : UsageFits p u) (valid : p.valid = true) (weekend : BitVec 7)
    (a b : Acct) : UsageFits p (caughtUp p weekend a b u) := by
  simp only [Machine.caughtUp]
  split
  · exact (fits.rolled valid _ _).newWeek valid
  · exact fits.rolled valid _ _

theorem soundUsage_fits {p : Profile} {u : Usage} (range : u.inRange = true) (valid : p.valid = true)
    (weekend : BitVec 7) (own loaded : Option Acct) : UsageFits p (soundUsage p weekend own loaded u).1 := by
  have fits := usageInRange_fits range valid
  cases own with
  | none => rwa [soundUsage_dayless]
  | some a =>
    cases loaded with
    | none =>
      have undated : soundUsage p weekend (some a) none u = (loadedUsage p u, true) := by rw [← withinCap_eq]; rfl
      rwa [undated]
    | some b =>
      rw [soundUsage_dated]
      split
      · exact fits.caughtUp valid weekend a b
      · exact fits

theorem usageFits_failSafe (p : Profile) (valid : p.valid = true) : UsageFits p .failSafe :=
  ⟨Nat.le_refl _, Nat.zero_le _, Nat.le_refl _, Nat.zero_le _, Nat.zero_le _, fun _ => Nat.zero_le _,
    never_invalid valid⟩

theorem loadEnd_usageFits (s : State) (c : Fin 7) : UsageFits ((loadEnd s).child c) ((loadEnd s).usage c) := by
  cases valid : ((loadEnd s).child c).valid with
  | false => rw [loadEnd_usage_invalid s c valid]; exact usageFits_zero _
  | true =>
    rw [loadEnd_usage, usageTaken, settingsIn_child, valid, if_pos rfl]
    split
    next sound =>
      have range : s.sc.store.usage[c].content.usage.inRange = true := by
        obtain ⟨-, range⟩ := (settingsIn_usageSound s c).mp sound
        exact range
      rw [settingsIn_record]
      exact soundUsage_fits range valid _ _ _
    next => exact usageFits_failSafe _ valid

theorem pinRecord_failures {r : PinRecord} (range : r.inRange = true) : r.failures ≤ 255 :=
  of_decide_eq_true ((Bool.and_eq_true _ _).mp range).1

theorem restartLockout_lawful {s : State} (count : s.pss.failures ≤ 255) (idle : s.pss.lockout = none)
    (due : s.pss.lockoutDue = false) : (restartLockout s).LockoutLawful := by
  unfold restartLockout
  split
  · exact lockoutLawful_started count rfl rfl
  · refine ⟨count, fun n running => ?_, fun now => absurd (due.symm.trans now) Bool.false_ne_true⟩
    rw [idle] at running
    exact (Option.not_mem_none _ running).elim

/-- The load of the PIN record starts the lockout its count asks for (R100). -/
theorem loadPin_lockoutLawful {s : State} (idle : s.pss.lockout = none) (due : s.pss.lockoutDue = false) :
    (loadPin s).LockoutLawful := by
  simp only [loadPin]
  split
  next sound =>
    obtain ⟨-, range⟩ := (Bool.and_eq_true _ _).mp sound
    exact restartLockout_lawful (pinRecord_failures range) idle due
  · refine ⟨Nat.zero_le _, fun n running => ?_, fun now => absurd (due.symm.trans now) Bool.false_ne_true⟩
    exact (Option.not_mem_none n (idle ▸ running)).elim

theorem release_recordLaws (arr : Bool) (cb : Byte) (fclr : Bool) (s : State) :
    RecordLawsKept s (release arr cb fclr s) := by
  cases fclr with
  | true =>
    rw [release_clear]
    have frame := beginClear_frame (s.sampled arr cb)
    refine ⟨fun c _ => ?_, fun _ => ?_⟩
    · have zero : (beginClear (s.sampled arr cb)).usage c = .zero :=
        (usage_of_vtu _ _ frame.vtu c).trans (sampled_usage s arr cb c)
      rw [zero]
      exact usageFits_zero _
    · exact reset_lockoutLawful.congr (congrArg PSS.failures frame.pss) (congrArg PSS.lockout frame.pss)
        (congrArg PSS.lockoutDue frame.pss)
  | false =>
    rw [release_load, ← loadEnd]
    refine ⟨fun c _ => loadEnd_usageFits _ c, fun _ => ?_⟩
    have lawful := loadPin_lockoutLawful (s := s.sampled arr cb) rfl rfl
    refine lawful.congr ?_ ?_ ?_ <;> rw [loadEnd_pss_parts]

/-! ### The store -/

theorem recordLaws_afterWrite (s : State) : RecordLawsKept s (afterWrite s) := by
  have reopened : RecordLawsKept s { s with sc.writing := none, sc.failed := Vector.replicate 18 false } :=
    recordLaws_of_blocks rfl rfl
  have ended : RecordLawsKept s { s with sc.writing := none } := recordLaws_of_blocks rfl rfl
  simp only [afterWrite, continueClear, continueCommit]
  split
  · split
    · exact (onlyCommit_beginWrite _ s).recordLaws
    · exact recordLaws_of_blocks (finishLoad_pss s) (finishLoad_vtu s)
  · split
    · exact ended.trans (onlyCommit_beginWrite _ _).recordLaws
    · exact reopened.trans (onlyCommit_startCommit _).recordLaws

theorem recordLaws_completeWrite (s : State) : RecordLawsKept s (completeWrite s) := by
  unfold completeWrite
  split <;> exact recordLaws_of_blocks rfl rfl

theorem recordLaws_failWrite (s : State) : RecordLawsKept s (failWrite s) := by
  unfold failWrite
  split <;> exact recordLaws_of_blocks rfl rfl

/-! ### Every run -/

theorem exec_recordLaws (i : Instr) (s : State) : ∃ t, exec i s = .next t ∧ RecordLawsKept s t := by
  have timer : ∀ due act, (∀ t, RecordLawsKept t (act t)) → RecordLawsKept s (expiry due act s) := fun due act kept =>
    keptBySeconds_recordLaws.expiry due act kept s
  have closes : ∀ j, RecordLawsKept s (closeRecord j (handlerOf j) s) := fun j => by
    unfold closeRecord
    split
    · exact keptByTaking_recordLaws.presentRecord j _ _ _ s
    · exact .refl s
  cases record : (handlerOf i).isSome with
  | true => exact ⟨_, exec_record i record s, closes i⟩
  | false =>
    cases i
    case bankOpen | readBurst | writeBurst | bankClose | closeAll | refresh | modeLoad =>
      exact ⟨_, rfl, recordLaws_present _ s⟩
    case restEntry | idleEntry => exact ⟨_, rfl, (fallEnable_only _ s).recordLaws⟩
    case restExit | idleExit => exact ⟨_, rfl, (riseEnable_only s).recordLaws⟩
    case channelReset => exact ⟨_, rfl, recordLaws_lineReset s⟩
    case dataBeat => exact ⟨_, rfl, (passBeat_case _ _ _ _ s).recordLaws⟩
    case unknownCommand hd code =>
      refine ⟨_, rfl, ?_⟩
      split
      · exact closes (.unknownCommand hd code)
      · exact .refl s
    case lockoutExpiry => exact ⟨_, rfl, timer _ _ keptBySeconds_recordLaws.lockout⟩
    case accountingTick => exact ⟨_, rfl, keptBySeconds_recordLaws.accountingTick s⟩
    case extensionExpiry c => exact ⟨_, rfl, timer _ _ (keptBySeconds_recordLaws.extension c)⟩
    case boundaryExpiry n | holdExpiry n => exact ⟨_, rfl, timer _ _ fun t => (onlySlots_reevaluateAs n _ t).recordLaws⟩
    case unlockExpiry n => exact ⟨_, rfl, timer _ _ fun t => (onlySlots_expireUnlock n t).recordLaws⟩
    case pendingCountdown n => exact ⟨_, rfl, timer _ _ fun t => (onlySlots_fallCountdown n t).recordLaws⟩
    case countdownExpiry n => exact ⟨_, rfl, timer _ _ fun t => (onlySlots_applyPending n t).recordLaws⟩
    case recordingLengthExpiry n => exact ⟨_, rfl, timer _ _ fun t => (onlySlots_setSlot t n _).recordLaws⟩
    case usageAgeExpiry c => exact ⟨_, rfl, timer _ _ (keptBySeconds_recordLaws.age c)⟩
    case storeWriteComplete =>
      refine ⟨_, rfl, ?_⟩
      split
      · exact (recordLaws_completeWrite s).trans (recordLaws_afterWrite _)
      · exact .refl s
    case storeWriteFail =>
      refine ⟨_, rfl, ?_⟩
      split
      · exact (recordLaws_failWrite s).trans (recordLaws_afterWrite _)
      · exact .refl s
    case partReset =>
      refine ⟨_, rfl, fun c _ => ?_, fun _ => reset_lockoutLawful.congr rfl rfl rfl⟩
      have zero : (State.inReset s.sc.store s.ct.arr s.wd.strapCb s.ct.toPins s.pending).usage c = .zero :=
        (usage_of_vtu State.reset _ rfl c).trans (reset_usage c)
      rw [zero]
      exact usageFits_zero _
    case partResetRelease arr cb fclr =>
      refine ⟨_, rfl, ?_⟩
      split
      · exact .refl s
      · exact release_recordLaws arr cb fclr s
    case startupEnd order =>
      refine ⟨_, rfl, ?_⟩
      split
      · exact recordLaws_endStartup order s
      · exact .refl s
    case startupSecond =>
      refine ⟨_, rfl, ?_⟩
      split
      · exact RecordsStand.laws ⟨rfl, rfl, rfl, rfl, rfl⟩
      · exact .refl s
    all_goals exact absurd record.symm Bool.false_ne_true

/-- What every step keeps of the ranges. -/
theorem step_recordLaws {s t : State} (h : step s = .next t) : RecordLawsKept s t := by
  unfold step at h
  split at h
  · cases h
    exact .refl s
  next c rest _ =>
    obtain ⟨u, runs, kept⟩ := exec_recordLaws c { s with pending := rest }
    obtain rfl : u = t := Host.Outcome.next.inj (runs.symm.trans h)
    exact ⟨kept.usage, kept.lockout⟩

end Sys2Proof.Machine
end

section
open Sys2Proof Sys2Proof.Machine

/-- Settles O54, by what each command's run makes of a usage record under its profile: every figure is clamped where it
grows, and an INVALID profile's record is never edited. -/
theorem usageLawfulKept : Obligations.UsageLawfulKept := by
  intro s t lawful h
  rw [usageLawful_iff] at lawful ⊢
  exact fun c => (step_recordLaws h).usage c (lawful c)

end

section
open Sys2Proof Sys2Proof.Machine

/-- Settles O55, by what each command's run does to the count and the lockout: a failed compare starts one of 60 to 3,840
seconds, a second takes one from it, and its last second is left to the expiry. -/
theorem lockoutLawfulKept : Obligations.LockoutLawfulKept :=
  fun _ _ lawful h => (step_recordLaws h).lockout lawful

end

section
/-! PROOFS. What a re-evaluation decides of a slot whose profile is suspended, out of time or active (R107, R110, R113). -/

namespace Sys2Proof.Machine

/-! ### A gate that decides -/

/-- A gate's verdict that no unlock may lift is the decision of a slot that presents an item (R107, R109). -/
theorem decideSlot_gated {s : State} {x : Slot} {event : Option Entry} {v : Verdict} (presents : x.item ≠ .nothing)
    (gate : gates s x.bound (s.curfewHeld x.bound) x.item (itemKey x.item (event.map Entry.key)) = some v)
    (fixed : v.decision.unlockable = false) : decideSlot s x event = v.decision := by
  rw [decideSlot]
  cases item : x.item with
  | nothing => exact absurd item presents
  | live service => simp only [judge_gated _ (item ▸ gate), fixed, Bool.false_and, Bool.false_eq_true, if_false]
  | recording r => simp only [judge_gated _ (item ▸ gate), fixed, Bool.false_and, Bool.false_eq_true, if_false]
  | external input => simp only [judge_gated _ (item ▸ gate), fixed, Bool.false_and, Bool.false_eq_true, if_false]

theorem reevaluated_gated {s : State} {x : Slot} {c : Fin 7} {v : Verdict} (bound : x.bound = childNumber c)
    (presents : x.item ≠ .nothing)
    (gate : ∀ key, gates s (childNumber c) (s.curfewActive c) x.item key = some v)
    (fixed : v.decision.unlockable = false) : (reevaluated s x).decision = v.decision := by
  refine decideSlot_gated presents ?_ fixed
  show gates s x.bound (s.curfewHeld x.bound) _ _ = _
  rw [bound, curfewHeld_child]
  exact gate _

/-- A re-evaluated slot hides exactly where its decision does not permit (R110). -/
theorem reevaluated_hiding (s : State) (x : Slot) :
    (reevaluated s x).enforcement = .hiding ↔ (reevaluated s x).decision.permits = false :=
  nextEnforcement_hiding _ _ _

/-! ### A suspended profile (R107 gate 3) -/

theorem reevaluated_suspended {s : State} {x : Slot} {c : Fin 7} (bound : x.bound = childNumber c)
    (presents : x.item ≠ .nothing) (suspended : (s.child c).suspended = true) :
    (reevaluated s x).decision = .blocked .suspended ∧ (reevaluated s x).enforcement = .hiding := by
  have blocked : (reevaluated s x).decision = .blocked .suspended :=
    reevaluated_gated (v := { decision := .blocked .suspended, step := 3 }) bound presents
      (fun key => gates_suspended s c _ x.item key suspended) rfl
  exact ⟨blocked, (reevaluated_hiding s x).mpr (blocked ▸ rfl)⟩

/-! ### Time used up (R107 gates 3 to 5) -/

/-- An exhausted profile with no extension passes none of gates 3 to 5 (R107). -/
theorem gates_timeUp (s : State) (c : Fin 7) (item : Item) (exhausted : (s.usage c).exhausted = true)
    (ended : (s.usage c).ext = none) : ∃ v, (∀ key, gates s (childNumber c) (s.curfewActive c) item key = some v)
      ∧ v.decision.unlockable = false ∧ v.decision.permits = false := by
  cases suspended : (s.child c).suspended with
  | true => exact ⟨_, fun key => gates_suspended s c _ item key suspended, rfl, rfl⟩
  | false =>
    cases curfew : s.curfewActive c with
    | true => exact ⟨_, fun key => gates_curfew s c item key suspended, rfl, rfl⟩
    | false =>
      have uncovered : ∀ key, (s.usage c).extensionCovers key = false := fun key => by rw [Usage.extensionCovers, ended]
      exact ⟨_, fun key => gates_time s c item key suspended exhausted (uncovered key), rfl, rfl⟩

theorem reevaluated_timeUp {s : State} {x : Slot} {c : Fin 7} (bound : x.bound = childNumber c)
    (presents : x.item ≠ .nothing) (exhausted : (s.usage c).exhausted = true) (ended : (s.usage c).ext = none) :
    (reevaluated s x).enforcement = .hiding := by
  obtain ⟨v, gate, fixed, hides⟩ := gates_timeUp s c x.item exhausted ended
  exact (reevaluated_hiding s x).mpr ((reevaluated_gated bound presents gate fixed).symm ▸ hides)

/-! ### An active profile (R107) -/

theorem serviceGate_active {t : List ServiceEntry} {p : Fin 8} {mode : ServiceMode} {service : Nat} {v : Verdict}
    (gate : serviceGate t p mode service = some v) : v.decision ≠ .blocked .suspended := by
  unfold serviceGate at gate
  split at gate
  · split at gate
    · cases gate; exact nofun
    · split at gate
      · cases gate; exact nofun
      · split at gate <;> cases gate
        exact nofun
  · split at gate <;> cases gate
    exact nofun

theorem gates_active {s : State} {c : Fin 7} (active : (s.child c).suspended = false) {curfew : Bool} {item : Item}
    {key : Option ItemKey} {v : Verdict} (gate : gates s (childNumber c) curfew item key = some v) :
    v.decision ≠ .blocked .suspended := by
  simp only [gates, childOf_childNumber, active, Bool.false_eq_true, if_false] at gate
  split at gate
  · cases gate; exact nofun
  · split at gate
    · cases gate; exact nofun
    · obtain ⟨service, -, gate⟩ := Option.bind_eq_some_iff.mp gate
      exact serviceGate_active gate

theorem judgeRatings_active (p : Profile) (ratings : List Rating) (flags : BitVec 8) (held : Bool) :
    (judgeRatings p ratings flags held).decision ≠ .blocked .suspended := by
  unfold judgeRatings
  repeat' split
  all_goals exact nofun

/-- SUSPENDED is the reason of a suspended profile's slots alone (R107). -/
theorem judge_active {s : State} {c : Fin 7} (active : (s.child c).suspended = false) (curfew : Bool) (item : Item)
    (event : Option Entry) (held : Bool) : (judge s (childNumber c) curfew item event held).decision
      ≠ .blocked .suspended := by
  unfold judge
  split
  next v gate => exact gates_active active gate
  next => exact judgeRatings_active _ _ _ _

theorem decideSlot_active {s : State} {c : Fin 7} (active : (s.child c).suspended = false) {x : Slot}
    (bound : x.bound = childNumber c) (event : Option Entry) : decideSlot s x event ≠ .blocked .suspended := by
  unfold decideSlot
  split
  · exact nofun
  all_goals
    simp only [bound]
    split
    · exact nofun
    · exact judge_active active _ _ _ _

theorem reevaluated_active {s : State} {c : Fin 7} (active : (s.child c).suspended = false) {x : Slot}
    (bound : x.bound = childNumber c) : (reevaluated s x).decision ≠ .blocked .suspended := by
  obtain ⟨y, event, decided, same⟩ : ∃ y event, (reevaluated s x).decision = decideSlot s y event ∧ y.bound = x.bound :=
    ⟨_, _, rfl, rfl⟩
  rw [decided]
  exact decideSlot_active active (same.trans bound) event

end Sys2Proof.Machine
end

section
/-! PROOFS. The timers of the lockout, of an extension and of a usage record's age, and a second of start-up (R99, R115, R128,
R142, R185, R186). -/

namespace Sys2Proof.Machine

/-- An expiry that is due is taken (log 3). -/
theorem expiry_taken {due : State → Bool} {act : State → State} {s : State} (running : s.phase = .running)
    (now : due s = true) : expiry due act s = act s := by
  have runs : s.isRunning = true := decide_eq_true running
  rw [expiry, if_pos runs, if_pos now]

/-! ### The extension's end (R115, R142) -/

theorem setUsage_changed {s : State} {c : Fin 7} {u : Usage} (other : u ≠ s.usage c) :
    (s.setUsage c u).sc = { s.sc with changed := putAt s.sc.changed c true } := by
  rw [State.setUsage, if_neg other]

theorem expireExtension_sc {c : Fin 7} {s : State} (ends : { s.usage c with ext := none } ≠ s.usage c) :
    (expireExtension c s).sc = { s.sc with changed := putAt s.sc.changed c true } := by
  rw [expireExtension, reportProfile_sc, setUsage_changed ends]

section
variable (c : Fin 7) (s : State)

theorem onlyChild_expireExtension : OnlyChild c s (expireExtension c s) :=
  (onlyChild_setUsage c _ s).trans (onlyChild_reportProfile c _)

theorem expireExtension_usage : (expireExtension c s).usage c = { s.usage c with ext := none } := by
  rw [expireExtension, usage_of_vtu _ _ (reportProfile_vtu _ _)]
  exact usage_setUsage_same s c _

theorem expireExtension_pss : (expireExtension c s).pss = s.pss := by
  rw [expireExtension, reportProfile_pss, setUsage_pss]

theorem raised_reportUsage (u : Usage) :
    RaisedAtMostDecision s (reportProfile (childNumber c) (s.setUsage c u)) := by
  have status := (onlySlots_reportProfile (childNumber c) (s.setUsage c u)).status
  rwa [setUsage_au] at status

theorem expireExtension_raised : RaisedAtMostDecision s (expireExtension c s) := raised_reportUsage c s _

/-- The profile's report judges its slots by the record without the extension. -/
theorem expireExtension_hides (exhausted : (s.usage c).exhausted = true) (i : Fin 4)
    (bound : (s.slot i).bound = childNumber c) (presents : (s.slot i).item ≠ .nothing) :
    ((expireExtension c s).slot i).enforcement = .hiding := by
  have same := slot_of_sdu s _ (setUsage_sdu s c { s.usage c with ext := none }) i
  obtain ⟨t, only, became⟩ := reportProfile_slot (childNumber c) (s.setUsage c { s.usage c with ext := none }) i
    (same ▸ bound)
  have usage : t.usage c = { s.usage c with ext := none } :=
    (usage_of_vtu _ _ only.vtu c).trans (usage_setUsage_same s c _)
  rw [expireExtension, became, same]
  exact reevaluated_timeUp bound presents (usage ▸ exhausted) (by rw [usage])

end

/-! ### The age of a usage record (R185, R186) -/

/-- Starting a commit leaves a state that differs by SC alone. -/
theorem OnlyCommit.eq_sc {s t : State} (h : OnlyCommit s t) : t = { s with sc := t.sc } := by
  obtain ⟨phase, ct, wd, lc, prt, pss, sdu, vtu, au, pending, -, -⟩ := h
  cases t
  simp only at phase ct wd lc prt pss sdu vtu au pending
  subst phase ct wd lc prt pss sdu vtu au pending
  rfl

/-- Where one record alone is dirty, it is the next to be written (R186). -/
theorem nextDirty_sole {s : State} {r : RecordId} (sole : ∀ q, s.isDirty q = decide (q = r))
    (fresh : s.sc.failed = Vector.replicate 18 false) : nextDirty s = some r := by
  have untried : ∀ q : RecordId, s.sc.failed[q.place] = false := fun q => by simp [fresh]
  cases next : nextDirty s with
  | none =>
    have missed := List.find?_eq_none.mp next r (mem_storeOrder_all r)
    rw [sole, untried, decide_eq_true rfl] at missed
    exact absurd rfl missed
  | some q =>
    have found := List.find?_some next
    rw [sole, Bool.and_eq_true] at found
    obtain ⟨same, -⟩ := found
    exact congrArg some (of_decide_eq_true same)

theorem isDirty_markDirty_clean {s : State} (clean : ∀ p : Fin 18, s.sc.dirty[p] = false) (r q : RecordId) :
    (s.markDirty r).isDirty q = decide (q = r) := by
  by_cases same : q = r
  · rw [same, decide_eq_true rfl]
    exact isDirty_markDirty_same s r
  · have apart : q.place ≠ r.place := fun place => same (place_injective place)
    rw [decide_eq_false same]
    exact (putAt_other _ _ _ _ apart).trans (clean _)

theorem onlyCommit_expireUsageAge (c : Fin 7) (s : State) : OnlyCommit s (expireUsageAge c s) := by
  have started := onlyCommit_startCommit (s.markDirty (.usage c))
  exact ⟨started.phase, started.ct, started.wd, started.lc, started.prt, started.pss, started.sdu, started.vtu,
    started.au, started.pending, started.settings, started.faultSeen⟩

/-- The record that came of age is written at once where nothing else waits (R185, R186; log 11). -/
theorem expireUsageAge_begins {c : Fin 7} {s : State} (idle : s.sc.writing = none)
    (clean : ∀ p : Fin 18, s.sc.dirty[p] = false) :
    (expireUsageAge c s).sc.writing = some (.usage c { usage := s.usage c, acct := s.vtu.acct })
      ∧ (expireUsageAge c s).sc.changed[c] = false ∧ (expireUsageAge c s).sc.age[c] = 0 := by
  have begins := startCommit_begins (s.markDirty (.usage c)) (.usage c) idle
    (nextDirty_sole (isDirty_markDirty_clean clean (.usage c)) rfl)
  rw [expireUsageAge, begins]
  exact ⟨rfl, putAt_same _ c false, putAt_same _ c 0⟩

/-! ### A second of start-up (R128) -/

theorem runs_startupSecond {s : State} (early : s.phase = .starting ∨ s.phase = .clearing) :
    Runs .startupSecond s { s with vtu.uptime := s.vtu.uptime + 1 } := by
  have waits : (s.isReleased && !s.isRunning) = true := by
    rcases early with phase | phase <;> simp [State.isReleased, State.isRunning, phase]
  exact congrArg Host.Outcome.next (if_pos waits)

end Sys2Proof.Machine
end

section
open Sys2Proof Sys2Proof.Machine

/-- Settles O44: each timer that is due does its own act, the extension's end by the report of its profile, the usage age by
the commit that its mark starts. -/
theorem otherTimers : Obligations.OtherTimers := by
  refine ⟨fun s running due => ?_, fun s c e running ext passed => ?_, fun s c running changed old => ?_,
    fun s early => ⟨_, runs_startupSecond early, rfl⟩⟩
  · exact ⟨_, congrArg Host.Outcome.next (expiry_taken (act := expireLockout) running due), rfl⟩
  · have due : extensionDue c s = true := by simp [extensionDue, ext, passed]
    have only := onlyChild_expireExtension c s
    have ends : { s.usage c with ext := none } ≠ s.usage c := fun same => by
      have gone := congrArg Usage.ext same
      rw [ext] at gone
      exact Option.some_ne_none e gone.symm
    have sc := expireExtension_sc ends
    have runs : Runs (.extensionExpiry c) s (expireExtension c s) :=
      congrArg Host.Outcome.next (expiry_taken (due := extensionDue c) (act := expireExtension c) running due)
    exact ⟨_, runs, expireExtension_usage c s, only.usages, expireExtension_hides c s, only.slots,
      expireExtension_raised c s, only.toQuietAttention, only.toTrafficKept, only.lc, expireExtension_pss c s,
      by rw [sc], by rw [sc], by rw [sc], only.uptime⟩
  · have due : usageAgeDue c s = true := by rw [usageAgeDue, changed, Bool.true_and]; exact decide_eq_true old
    have only := onlyCommit_expireUsageAge c s
    exact ⟨_, congrArg Host.Outcome.next (expiry_taken (act := expireUsageAge c) running due),
      writtenSoon_startCommit _ _ (isDirty_markDirty_same _ _), expireUsageAge_begins, only.eq_sc,
      only.settings, only.faultSeen⟩

end

section
/-! PROOFS. The tick as the first event of a second: the expiries that were left, the beginning of the second, and the frame
counts (R99, R128, R135, R140; logs 3 and 4). -/

namespace Sys2Proof.Machine

/-! ### What the expiries left in a second keep, the lockout's apart -/

/-- The channel path, the window table, the lanes, the guide, PSS, the time base and the settings are kept. -/
structure FlushKept (s t : State) : Prop extends TrafficKept s t where
  phase : t.phase = s.phase
  lc : t.lc = s.lc
  pss : t.pss = s.pss
  uptime : t.vtu.uptime = s.vtu.uptime
  clock : t.vtu.clock = s.vtu.clock
  settings : t.sc.settings = s.sc.settings
  pending : t.pending = s.pending

section
variable {s t u : State}

theorem FlushKept.refl (s : State) : FlushKept s s := ⟨⟨rfl, rfl, rfl⟩, rfl, rfl, rfl, rfl, rfl, rfl, rfl⟩

theorem FlushKept.trans (a : FlushKept s t) (b : FlushKept t u) : FlushKept s u :=
  ⟨⟨b.ct.trans a.ct, b.wd.trans a.wd, b.prt.trans a.prt⟩, b.phase.trans a.phase, b.lc.trans a.lc, b.pss.trans a.pss,
    b.uptime.trans a.uptime, b.clock.trans a.clock, b.settings.trans a.settings, b.pending.trans a.pending⟩

theorem OnlyViewing.flush (h : OnlyViewing s t) : FlushKept s t :=
  ⟨⟨h.ct, h.wd, h.prt⟩, h.phase, h.lc, h.pss, h.uptime, h.clock, h.settings, h.pending⟩

theorem OnlyCommit.flush (h : OnlyCommit s t) : FlushKept s t :=
  ⟨⟨h.ct, h.wd, h.prt⟩, h.phase, h.lc, h.pss, congrArg VTU.uptime h.vtu, congrArg VTU.clock h.vtu, h.settings, h.pending⟩

end

theorem flushKept_whenDue (due : State → Bool) (act : State → State) (kept : ∀ s, FlushKept s (act s)) (s : State) :
    FlushKept s (whenDue due act s) := by
  unfold whenDue
  split
  · exact kept s
  · exact .refl s

theorem flushKept_flushSlot (i : Fin 4) (s : State) : FlushKept s (flushSlot i s) :=
  ((((flushKept_whenDue _ _ (fun t => (onlySlots_reevaluateAs i _ t).viewing.flush) s).trans
    (flushKept_whenDue _ _ (fun t => (onlySlots_reevaluateAs i _ t).viewing.flush) _)).trans
    (flushKept_whenDue _ _ (fun t => (onlySlots_expireUnlock i t).viewing.flush) _)).trans
    (flushKept_whenDue _ _ (fun t => (onlySlots_fallCountdown i t).viewing.flush) _)).trans
    (flushKept_whenDue _ _ (fun t => (onlySlots_setSlot t i _).viewing.flush) _)

theorem flushKept_flushChild (c : Fin 7) (s : State) : FlushKept s (flushChild c s) :=
  (flushKept_whenDue _ _ (fun t => ((onlyViewing_setUsage t c _).trans (onlySlots_reportProfile _ _).viewing).flush) s).trans
    (flushKept_whenDue _ _ (fun t => (onlyCommit_expireUsageAge c t).flush) _)

/-- Of PSS and the time base the end of a second touches the lockout alone (R99). -/
theorem flushKept_flushSecond (s : State) : FlushKept (whenDue lockoutDue expireLockout s) (flushSecond s) := by
  have slots := forSlots_induct (P := FlushKept (whenDue lockoutDue expireLockout s)) flushSlot
    (fun i t kept => kept.trans (flushKept_flushSlot i t)) _ (.refl _)
  exact forChildren_induct (P := FlushKept (whenDue lockoutDue expireLockout s)) flushChild
    (fun c t kept => kept.trans (flushKept_flushChild c t)) _ slots

/-! ### The tick (R135) -/

/-- The tick takes PSS and the time base as the second began them. -/
theorem flushKept_tick (s : State) : FlushKept s (startCommit (tickBody { s with vtu.tickDue := false })) := by
  have taken : FlushKept s { s with vtu.tickDue := false } := ⟨⟨rfl, rfl, rfl⟩, rfl, rfl, rfl, rfl, rfl, rfl, rfl⟩
  exact (taken.trans (onlyViewing_tickBody _).flush).trans (onlyCommit_startCommit _).flush

theorem tick_taken (s : State) : (startCommit (tickBody { s with vtu.tickDue := false })).vtu.tickDue = false := by
  rw [startCommit_vtu]
  exact (onlyViewing_tickBody { s with vtu.tickDue := false }).tickDue

/-- Every frame count is 0 (R140). -/
def State.FramesSpent (s : State) : Prop := ∀ i, (s.slot i).frames = 0

theorem State.FramesSpent.of_sdu {s t : State} (spent : s.FramesSpent) (sdu : t.sdu = s.sdu) : t.FramesSpent := fun i => by
  rw [slot_of_sdu s t sdu i]
  exact spent i

theorem recomputeCurfews_sdu (s : State) : (recomputeCurfews s).sdu = s.sdu := by
  refine forChildren_induct (P := fun t => t.sdu = s.sdu) recomputeCurfew (fun c t same => ?_) s rfl
  unfold recomputeCurfew
  split
  · exact same
  · exact same

theorem reportDiffering_framesSpent (s : State) {t : State} (spent : t.FramesSpent) :
    (reportDiffering s t).FramesSpent := by
  refine forChildren_induct (P := State.FramesSpent) _ (fun c u kept => ?_) t spent
  split
  · intro i
    obtain ⟨basis, -⟩ := slotsTouched_reportProfile (childNumber c) u i
    exact basis.frames.trans (kept i)
  · exact kept

theorem zeroFrames_framesSpent (s : State) : (zeroFrames s).FramesSpent := fun i => by rw [zeroFrames_slot]

theorem tickBody_framesSpent (s : State) : (tickBody s).FramesSpent := by
  refine reportDiffering_framesSpent s ?_
  simp only [tickBeforeReports]
  split
  · exact (zeroFrames_framesSpent _).of_sdu (recomputeCurfews_sdu _)
  · exact zeroFrames_framesSpent _

theorem tick_framesSpent (s : State) : (startCommit (tickBody { s with vtu.tickDue := false })).FramesSpent :=
  (tickBody_framesSpent _).of_sdu (startCommit_sdu _)

/-! ### The first event of a second (R128) -/

/-- What a second begins with decides what it begins. -/
theorem FlushKept.beginSecond {s t : State} (kept : FlushKept s t) : FlushKept (beginSecond s) (beginSecond t) := by
  refine ⟨⟨kept.ct, kept.wd, kept.prt⟩, kept.phase, kept.lc, ?_, congrArg (· + 1) kept.uptime, kept.clock,
    kept.settings, kept.pending⟩
  rw [Machine.beginSecond, Machine.beginSecond, kept.pss]

/-- The second begins, and its tick is taken, with PSS and the time base as the lockout's own expiry left them. -/
theorem flushKept_secondTicked (s : State) : FlushKept (beginSecond (whenDue lockoutDue expireLockout s))
    (startCommit (tickBody { nextSecond s with vtu.tickDue := false })) :=
  (flushKept_flushSecond s).beginSecond.trans (flushKept_tick (nextSecond s))

/-- A lockout that still runs falls by one, to its last second at least (R99; log 4). -/
theorem beginSecond_lockout {s : State} {n : Nat} (running : s.pss.lockout = some n) :
    (beginSecond s).pss.lockout = some (if 1 < n then n - 1 else n)
      ∧ (beginSecond s).pss.lockoutDue = decide (n ≤ 1) := by
  simp [beginSecond, running]

/-- With the present second's tick taken, the next tick begins a second (log 3). -/
theorem runs_accountingTick_next {s : State} (running : s.phase = .running) (taken : s.vtu.tickDue = false) :
    Runs .accountingTick s (startCommit (tickBody { nextSecond s with vtu.tickDue := false })) := by
  have runs : s.isRunning = true := decide_eq_true running
  have unfolds : accountingTick s = startCommit (tickBody { nextSecond s with vtu.tickDue := false }) := by
    simp only [accountingTick, runs, taken, if_true, Bool.false_eq_true, if_false]
  exact congrArg Host.Outcome.next unfolds

end Sys2Proof.Machine
end

section
open Sys2Proof Sys2Proof.Machine

/-- Settles O42: the expiries left in the second that ends touch of PSS a due lockout alone, the beginning of the second takes
its second from the other, and the tick keeps what the second began. -/
theorem secondBegins : Obligations.SecondBegins := by
  intro s running taken
  have kept := flushKept_secondTicked s
  have runs := runs_accountingTick_next running taken
  have ticked := tick_taken (nextSecond s)
  have frames := tick_framesSpent (nextSecond s)
  generalize startCommit (tickBody { nextSecond s with vtu.tickDue := false }) = t at *
  cases due : s.pss.lockoutDue with
  | true =>
    have ended : whenDue lockoutDue expireLockout s = expireLockout s := if_pos due
    rw [ended] at kept
    have pss := kept.pss
    exact ⟨t, runs, kept.uptime, ticked, kept.clock, fun _ => ⟨by rw [pss]; rfl, by rw [pss]; rfl⟩, nofun, nofun,
      by rw [pss]; rfl, by rw [pss]; rfl, by rw [pss]; rfl, by rw [pss]; rfl, frames, ⟨kept.ct, kept.wd, kept.prt⟩,
      kept.lc, kept.settings, kept.phase.trans running, kept.pending⟩
  | false =>
    have goesOn : whenDue lockoutDue expireLockout s = s := if_neg (Bool.eq_false_iff.mp due)
    rw [goesOn] at kept
    have pss := kept.pss
    refine ⟨t, runs, kept.uptime, ticked, kept.clock, nofun, fun n _ lockout more => ?_, fun _ lockout => ?_,
      by rw [pss]; rfl, by rw [pss]; rfl, by rw [pss]; rfl, by rw [pss]; rfl, frames, ⟨kept.ct, kept.wd, kept.prt⟩,
      kept.lc, kept.settings, kept.phase.trans running, kept.pending⟩
    · obtain ⟨fallen, last⟩ := beginSecond_lockout lockout
      rw [pss, fallen, last, if_pos more]
      exact ⟨rfl, decide_eq_false (by omega)⟩
    · obtain ⟨fallen, last⟩ := beginSecond_lockout lockout
      rw [pss, fallen, last]
      exact ⟨rfl, rfl⟩

end

section
/-! PROOFS. What an accepted gated record leaves, its PIN requirement met, and the commands that edit one child profile (R47 to
R49, R85 to R87, R102, R114). -/

namespace Sys2Proof.Machine

/-! ### The state a gated command's owner acts on (R44, R48) -/

/-- The record closed in its lane, and the compare settled (R44, R48). -/
def State.admitted (s : State) (hd : Header) (code : Byte) (body : List Byte) : State :=
  (s.closedIn hd code body).comparedIf s.pinRequired

section
variable (s : State) (hd : Header) (code : Byte) (body : List Byte)

theorem onlyCount_admitted : OnlyCount (s.closedIn hd code body) (s.admitted hd code body) :=
  onlyCount_comparedIf (s.closedIn hd code body) s.pinRequired

theorem admitted_profiles : (s.admitted hd code body).pss.profiles = s.pss.profiles :=
  (onlyCount_admitted s hd code body).profiles

theorem admitted_services : (s.admitted hd code body).pss.services = s.pss.services :=
  (onlyCount_admitted s hd code body).services

theorem admitted_vtu : (s.admitted hd code body).vtu = s.vtu := (onlyCount_admitted s hd code body).vtu

theorem admitted_sdu : (s.admitted hd code body).sdu = s.sdu := (onlyCount_admitted s hd code body).sdu

theorem admitted_settings : (s.admitted hd code body).sc.settings = s.sc.settings :=
  (onlyCount_admitted s hd code body).settings

theorem admitted_child (c : Fin 7) : (s.admitted hd code body).child c = s.child c := by
  rw [State.child, admitted_profiles]
  rfl

theorem admitted_usage (c : Fin 7) : (s.admitted hd code body).usage c = s.usage c :=
  usage_of_vtu _ _ (admitted_vtu s hd code body) c

theorem admitted_slot (i : Fin 4) : (s.admitted hd code body).slot i = s.slot i :=
  slot_of_sdu _ _ (admitted_sdu s hd code body) i

theorem admitted_validChildField (b : Byte) : validChildField (s.admitted hd code body) b = validChildField s b := by
  simp only [validChildField, admitted_child]

theorem admitted_localNow : (s.admitted hd code body).localNow = s.localNow := by
  rw [State.localNow, State.wallNow, admitted_vtu, admitted_settings]
  rfl

end

/-- What an accepted gated record leaves where its owner left `r`: the lane's reply, and of the rest what the owner left; what
the owner left dirty is written soon (R44, R48, R49, R186). -/
theorem gated_accepted (i : Instr) (cls : CmdClass) (length : Nat) (act : TakeCtx → State → Taken) (hd : Header)
    (code : Byte) (body : List Byte) (s u : State) (adjusted : Bool) (payload : List Byte)
    (parts : recordParts i = some (hd, code, body)) (handler : handlerOf i = some (.gated cls length act))
    (ready : Ready s hd cls length) (passes : PinPasses s hd)
    (acts : ∀ x, act x (s.admitted hd code body) = accept u adjusted payload)
    (lc : u.lc = (s.admitted hd code body).lc) :
    ∃ t, Runs i s t ∧ Answered s t hd code (if adjusted then 1 else 0) adjusted payload ∧ Posted u t ∧ ClassesKept s t
      ∧ ∀ q, u.isDirty q = true → WrittenSoon t q := by
  have lanes : u.lc = (s.closedIn hd code body).lc := lc.trans (onlyCount_admitted s hd code body).lc
  have judged := judged_gatedPasses i cls length act hd code body s _ handler ready passes acts
  have answered := presentRecord_answered i hd code body s ready.toListening
  have posted := presentRecord_posted i hd code body s ready.toListening
  have written q := presentRecord_writtenSoon i hd code body s q ready.toListening
  rw [judged] at answered posted written
  have reply : Answered s (presentRecord (handlerOf i) hd code body s) hd code (if adjusted then 1 else 0) adjusted
      payload := by
    cases adjusted <;> exact answered lanes
  exact ⟨_, runs_record i _ hd code body s parts handler, reply, posted, posted.classesKept lanes, written⟩

/-! ### A command that edits one child profile (R85, R87, R102) -/

/-- What a command leaves that edits child `c` alone (R48, R85, R114). -/
structure ChildEdited (c : Fin 7) (s t : State) : Prop where
  pin : PinKept s t
  children : OtherChildrenKept s t c
  usages : OtherUsageKept s t c
  slots : SlotsTouched s t (fun x => decide (x.bound = childNumber c))
  traffic : TrafficKept s t
  quiet : QuietAttention s t
  classes : ClassesKept s t
  settings : SettingsKept s t

theorem childEdited {c : Fin 7} {s u t : State} {hd : Header} {code : Byte} {body : List Byte}
    (only : OnlyChild c (s.admitted hd code body) u) (posted : Posted u t) (classes : ClassesKept s t) :
    ChildEdited c s t where
  pin := by
    have before : PinKept s (s.admitted hd code body) := pinKept_of_pss rfl
    refine ⟨?_, ?_, ?_⟩ <;> rw [posted.pss]
    · exact only.pin.trans before.pin
    · exact only.failures.trans before.failures
    · exact only.lockout.trans before.lockout
  children d other := by rw [child_of_pss _ _ posted.pss, only.children d other, admitted_child]
  usages d other := by rw [usage_of_vtu _ _ posted.vtu, only.usages d other, admitted_usage]
  slots := only.slots.congr (admitted_sdu s hd code body).symm posted.sdu
  traffic := by
    have before := onlyCount_admitted s hd code body
    exact ⟨(posted.ct.trans only.ct).trans before.ct, (posted.wd.trans only.wd).trans before.wd,
      (posted.prt.trans only.prt).trans before.prt⟩
  quiet := by
    have before := onlyCount_admitted s hd code body
    exact ⟨(posted.enable.trans only.enable).trans before.enable, (posted.warned.trans only.warned).trans before.warned,
      (posted.capture.trans only.capture).trans before.capture⟩
  classes := classes
  settings := by
    have before := onlyCount_admitted s hd code body
    exact ⟨(posted.settings.trans only.settings).trans before.settings,
      (posted.faultSeen.trans only.faultSeen).trans before.faultSeen⟩

/-- A ready gated record, its PIN requirement met, whose owner edits child `c` (R47 to R49). -/
theorem childCommand (c : Fin 7) (i : Instr) (length : Nat) (act : TakeCtx → State → Taken) (hd : Header)
    (code : Byte) (body : List Byte) (s u : State) (adjusted : Bool) (payload : List Byte)
    (parts : recordParts i = some (hd, code, body)) (handler : handlerOf i = some (.gated .admin length act))
    (ready : Ready s hd .admin length) (passes : PinPasses s hd)
    (acts : ∀ x, act x (s.admitted hd code body) = accept u adjusted payload)
    (only : OnlyChild c (s.admitted hd code body) u) :
    ∃ t, Runs i s t ∧ Answered s t hd code (if adjusted then 1 else 0) adjusted payload ∧ Posted u t
      ∧ ChildEdited c s t ∧ ∀ q, u.isDirty q = true → WrittenSoon t q := by
  obtain ⟨t, runs, answered, posted, classes, written⟩ := gated_accepted i _ length act hd code body s u adjusted payload
    parts handler ready passes acts only.lc
  exact ⟨t, runs, answered, posted, childEdited only posted classes, written⟩

end Sys2Proof.Machine
end

section
/-! PROOFS. PROFILE_WRITE (R84 to R87, R144, R171). -/

namespace Sys2Proof.Machine

theorem isDirty_of_sc {s t : State} (sc : t.sc = s.sc) (r : RecordId) : t.isDirty r = s.isDirty r := by
  rw [State.isDirty, sc]
  rfl

/-- A record marked before its profile is reported is still marked after (R87, R102). -/
theorem isDirty_reported (p : Fin 8) (r : RecordId) (s : State) : (reportProfile p (s.markDirty r)).isDirty r = true :=
  (isDirty_of_sc (reportProfile_sc _ p) r).trans (isDirty_markDirty_same s r)

theorem remainingChild_eq {s t : State} (pss : t.pss = s.pss) (vtu : t.vtu = s.vtu) (settings : t.sc.settings = s.sc.settings)
    (c : Fin 7) : t.remainingChild c = s.remainingChild c := by
  rw [State.remainingChild, child_of_pss _ _ pss, usage_of_vtu _ _ vtu, State.weekendClass, vtu, settings]
  rfl

/-- A child profile's number names it (R82). -/
theorem profileField_child {b : Byte} {c : Fin 7} (named : profileField b = some (childNumber c)) :
    (profileField b).bind childOf = some c := by
  rw [named]
  exact childOf_childNumber c

/-! ### What PROFILE_WRITE stores (R85, R86, R144) -/

/-- The usage record and the remaining time that a PROFILE_WRITE leaves a valid profile (R86, R144). -/
structure Rewritten (p : Profile) (u v : Usage) (r : Option Nat) : Prop where
  carry : v.carry = min u.carry (p.carryCap * 60)
  today : v.today = u.today
  week : v.week = u.week
  extUsed : v.extUsed = u.extUsed
  above : aboveZero r = true → v.exhausted = false ∧ v.ext = none ∧ v.warned = (u.warned && !aboveBound r (p.warn * 60))
  spent : aboveZero r = false → v.exhausted = u.exhausted ∧ v.ext = u.ext ∧ v.warned = u.warned

theorem rewritten_restored (p : Profile) (u : Usage) (r : Option Nat) :
    Rewritten p u ((u.capped p.carryCap).restored r (p.warn * 60)) r := by
  cases above : aboveZero r with
  | true =>
    rw [restored_above _ _ above]
    exact ⟨rfl, rfl, rfl, rfl, fun _ => ⟨rfl, rfl, rfl⟩, fun spent => absurd (spent.symm.trans above) Bool.false_ne_true⟩
  | false =>
    rw [restored_spent _ _ above]
    exact ⟨rfl, rfl, rfl, rfl, fun more => absurd (above.symm.trans more) Bool.false_ne_true, fun _ => ⟨rfl, rfl, rfl⟩⟩

section
variable (c : Fin 7) (p : Profile) {s : State} (valid : (s.child c).valid = true)
include valid

/-- The remaining time after a PROFILE_WRITE is what it was restored by (R134, R144). -/
theorem storeProfile_remaining : (storeProfile c p s).remainingChild c
    = remainingTime p ((s.usage c).capped p.carryCap) s.weekendClass := by
  obtain ⟨child, usage⟩ := storeProfile_valid c p valid
  rw [State.remainingChild, (onlyChild_storeProfile c p s).weekendClass, child, usage, rewriteProfile_usage,
    remainingTime_restored]

theorem storeProfile_rewritten :
    Rewritten p (s.usage c) ((storeProfile c p s).usage c) ((storeProfile c p s).remainingChild c) := by
  obtain ⟨-, usage⟩ := storeProfile_valid c p valid
  rw [storeProfile_remaining c p valid, usage, rewriteProfile_usage]
  exact rewritten_restored p _ _

end

theorem profileWrite_acts {profile : Byte} {fields : ProfileFields} {c : Fin 7} {p : Profile} {s : State} (x : TakeCtx)
    (named : profileField profile = some (childNumber c)) (written : writtenProfile (s.child c) fields = some p) :
    (profileWrite profile fields).act x s = accept (storeProfile c p s) (decide (fields.warn = 0))
      (profileWritePayload c p s (storeProfile c p s)) := by
  simp only [profileWrite, Handler.gated, profileField_child named, written]

/-- The reply tells of a restoration by the remaining time it leaves (R171). -/
theorem profileWritePayload_eq (c : Fin 7) (p : Profile) (s : State) :
    profileWritePayload c p s (storeProfile c p s)
      = [openingByte [!(s.child c).valid, ((storeProfile c p s).child c).suspended,
          (s.child c).valid && decide (p.carryCap * 60 < (s.usage c).carry),
          (s.child c).valid && aboveZero ((storeProfile c p s).remainingChild c)]]
        ++ num16 ((storeProfile c p s).usage c).carry ++ minutes16 ((storeProfile c p s).remainingChild c) := by
  cases valid : (s.child c).valid with
  | true => simp only [profileWritePayload, valid, lowerCarry_remaining, storeProfile_remaining c p valid]
  | false => simp only [profileWritePayload, valid, Bool.false_and]

end Sys2Proof.Machine
end

section
open Sys2Proof Sys2Proof.Machine

/-- Settles O33, by whether the profile was valid: its usage record is brought under the new cap and restored, or made
zero. -/
theorem profileWriteStores : Obligations.ProfileWriteStores := by
  intro s h profile fields c p ready passes named written
  obtain ⟨body, parts⟩ : ∃ body, recordParts (.profileWrite h profile fields) = some (h, 0x60, body) := ⟨_, rfl⟩
  have child := admitted_child s h 0x60 body c
  have usage := admitted_usage s h 0x60 body c
  obtain ⟨t, runs, answered, posted, edited, soon⟩ := childCommand c (.profileWrite h profile fields) 21 _ h 0x60 body s
    _ _ _ parts rfl ready passes (fun x => profileWrite_acts x named (child.symm ▸ written))
    (onlyChild_storeProfile c p _)
  have dirty := soon (.profile c) (isDirty_reported _ _ _)
  have services := (tablesStand_storeProfile c p (s.admitted h 0x60 body)).services
  rw [profileWritePayload_eq, child, usage] at answered
  have remaining := remainingChild_eq posted.pss posted.vtu posted.settings c
  have childAfter := child_of_pss _ _ posted.pss c
  have usageAfter := usage_of_vtu _ _ posted.vtu c
  have curfewAfter := curfewActive_of_vtu posted.vtu c
  rw [← remaining, ← childAfter, ← usageAfter] at answered
  obtain ⟨valid, warn, -, -⟩ := writtenProfile_keeps written
  have kept : (s.child c).valid = true → t.child c = p ∧ Rewritten p (s.usage c) (t.usage c) (t.remainingChild c) := by
    intro was
    rw [childAfter, usageAfter, remaining, ← usage]
    exact ⟨(storeProfile_valid c p (child ▸ was)).1, storeProfile_rewritten c p (child ▸ was)⟩
  have made : (s.child c).valid = false → t.child c = { p with suspended := false, curfews := [] } ∧ t.usage c = .zero
      ∧ t.curfewActive c = false := by
    intro was
    rw [childAfter, usageAfter, curfewAfter]
    exact storeProfile_created c p (child ▸ was)
  have good : (t.child c).valid = true ∧ 1 ≤ (t.child c).warn := by
    have atLeast : 1 ≤ p.warn := by omega
    cases was : (s.child c).valid with
    | true => rw [(kept was).1]; exact ⟨valid, atLeast⟩
    | false => rw [(made was).1]; exact ⟨valid, atLeast⟩
  refine ⟨t, runs, fun was => ?_, made, good.1, good.2, dirty, edited.pin, edited.children, edited.usages, edited.slots,
    ?_, edited.traffic, edited.quiet, edited.classes, edited.settings, ?_⟩
  · obtain ⟨same, carry, today, week, extUsed, above, spent⟩ := kept was
    exact ⟨same, carry, today, week, extUsed, above, spent⟩
  · by_cases zero : fields.warn = 0 <;> simpa [zero] using answered
  · rw [posted.pss, services, admitted_services]

end

section
/-! PROOFS. PROFILE_CURFEW, PROFILE_SUSPEND and PROFILE_RESUME (R85, R87, R107, R147, R172, R173). -/

namespace Sys2Proof.Machine

/-! ### PROFILE_CURFEW -/

/-- The curfew state is recomputed with the list that was stored (R147). -/
theorem storeCurfews_curfew (c : Fin 7) (cs : List Curfew) {s : State} (valid : (s.child c).valid = true) :
    (storeCurfews c cs s).curfewActive c = s.localNow.elim false (curfewCovers cs) := by
  have child := child_setChild_same s c { s.child c with curfews := cs }
  have stored : ((s.setChild c { s.child c with curfews := cs }).child c).valid = true := by rw [child]; exact valid
  have now : (s.setChild c { s.child c with curfews := cs }).localNow = s.localNow := rfl
  have report := reportProfile_vtu
    ((recomputeCurfew c (s.setChild c { s.child c with curfews := cs })).markDirty (.profile c)) (childNumber c)
  rw [storeCurfews, curfewActive_of_vtu report]
  show (recomputeCurfew c _).curfewActive c = _
  rw [recomputeCurfew, if_pos stored, curfewActive_setCurfew_same, State.curfewNow, now, child]
  cases s.localNow <;> rfl

theorem profileCurfew_acts {profile count : Byte} {windows : Vector CurfewField 4} {c : Fin 7} {cs : List Curfew}
    {s : State} (x : TakeCtx) (named : validChildField s profile = some c) (few : count.toNat ≤ 4)
    (read : curfewList count.toNat windows = some cs) :
    (profileCurfew profile count windows).act x s = accept (storeCurfews c cs s) false
      ([openingByte [(storeCurfews c cs s).curfewActive c]] ++ num8 cs.length) := by
  simp only [profileCurfew, Handler.gated, named, if_neg (Nat.not_lt.mpr few), read]

/-! ### PROFILE_SUSPEND and PROFILE_RESUME -/

section
variable {profile : Byte} {c : Fin 7} {s : State}

theorem profileSuspend_acts (x : TakeCtx) (named : validChildField s profile = some c) : (profileSuspend profile).act x s
    = accept (setSuspended c true s) false (suspendPayload c s (setSuspended c true s)) := by
  simp only [profileSuspend, Handler.gated, named]

theorem profileResume_acts (x : TakeCtx) (named : validChildField s profile = some c) : (profileResume profile).act x s
    = accept (setSuspended c false s) false (suspendPayload c s (setSuspended c false s)) := by
  simp only [profileResume, Handler.gated, named]

/-- A slot bound to the profile is judged by its new state (R87). -/
theorem setSuspended_slot (b : Bool) (i : Fin 4) (bound : (s.slot i).bound = childNumber c) :
    ∃ t, (t.child c).suspended = b ∧ (setSuspended c b s).slot i = reevaluated t (s.slot i) := by
  obtain ⟨t, only, became⟩ := reportProfile_slot (childNumber c)
    ((s.setChild c { s.child c with suspended := b }).markDirty (.profile c)) i bound
  have child : t.child c = { s.child c with suspended := b } :=
    (child_of_pss _ _ only.pss c).trans (child_setChild_same s c _)
  exact ⟨t, by rw [child], became⟩

theorem setSuspended_suspends (i : Fin 4) (bound : (s.slot i).bound = childNumber c)
    (presents : (s.slot i).item ≠ .nothing) : ((setSuspended c true s).slot i).decision = .blocked .suspended
      ∧ ((setSuspended c true s).slot i).enforcement = .hiding := by
  obtain ⟨t, suspended, became⟩ := setSuspended_slot (s := s) (c := c) true i bound
  rw [became]
  exact reevaluated_suspended bound presents suspended

theorem setSuspended_resumes (i : Fin 4) (bound : (s.slot i).bound = childNumber c) :
    ((setSuspended c false s).slot i).decision ≠ .blocked .suspended := by
  obtain ⟨t, active, became⟩ := setSuspended_slot (s := s) (c := c) false i bound
  rw [became]
  exact reevaluated_active active bound

end

/-- What PROFILE_SUSPEND and PROFILE_RESUME reply, from the state before them (R173). -/
theorem suspendPayload_admitted (c : Fin 7) (b : Bool) (s : State) (hd : Header) (code : Byte) (body : List Byte) :
    suspendPayload c (s.admitted hd code body) (setSuspended c b (s.admitted hd code body))
      = [openingByte [(s.child c).suspended, b]]
        ++ num8 (slotList.filter fun i => (s.slot i).bound = childNumber c).length := by
  simp only [suspendPayload, boundCount, setSuspended_child, admitted_child, admitted_slot]

/-- A ready command that sets a child profile's state, its PIN requirement met (R85, R87, R173). -/
theorem stateCommand (b : Bool) (i : Instr) (act : TakeCtx → State → Taken) (hd : Header) (code : Byte)
    (body : List Byte) (s : State) (c : Fin 7) (parts : recordParts i = some (hd, code, body))
    (handler : handlerOf i = some (.gated .admin 1 act)) (ready : Ready s hd .admin 1) (passes : PinPasses s hd)
    (acts : ∀ x, act x (s.admitted hd code body) = accept (setSuspended c b (s.admitted hd code body)) false
      (suspendPayload c (s.admitted hd code body) (setSuspended c b (s.admitted hd code body)))) :
    ∃ t, Runs i s t ∧ t.child c = { s.child c with suspended := b }
      ∧ (∀ n, t.slot n = (setSuspended c b (s.admitted hd code body)).slot n) ∧ WrittenSoon t (.profile c)
      ∧ t.vtu = s.vtu
      ∧ Answered s t hd code 0 false ([openingByte [(s.child c).suspended, b]]
          ++ num8 (slotList.filter fun i => (s.slot i).bound = childNumber c).length)
      ∧ ChildEdited c s t ∧ t.pss.services = s.pss.services := by
  obtain ⟨t, runs, answered, posted, edited, soon⟩ := childCommand c i 1 act hd code body s _ false _ parts handler ready
    passes acts (onlyChild_setSuspended c b _)
  have services := (tablesStand_setSuspended c b (s.admitted hd code body)).services
  rw [suspendPayload_admitted] at answered
  refine ⟨t, runs, ?_, slot_of_sdu _ _ posted.sdu, soon (.profile c) (isDirty_reported _ _ _), ?_, answered, edited, ?_⟩
  · rw [child_of_pss _ _ posted.pss, setSuspended_child, admitted_child]
  · rw [posted.vtu, setSuspended_vtu, admitted_vtu]
  · rw [posted.pss, services, admitted_services]

end Sys2Proof.Machine
end

section
open Sys2Proof Sys2Proof.Machine

/-- Settles O34: each command's owner edits the profile and reports it, which judges the slots bound to it afresh. -/
theorem profileStateCommands : Obligations.ProfileStateCommands := by
  intro s h profile c passes named
  refine ⟨fun count windows cs ready few read => ?_, fun ready => ?_, fun ready => ?_⟩
  · obtain ⟨body, parts⟩ : ∃ body, recordParts (.profileCurfew h profile count windows) = some (h, 0x61, body) := ⟨_, rfl⟩
    have namedThen := (admitted_validChildField s h 0x61 body profile).trans named
    obtain ⟨t, runs, answered, posted, edited, soon⟩ := childCommand c (.profileCurfew h profile count windows) 22 _ h
      0x61 body s _ false _ parts rfl ready passes (fun x => profileCurfew_acts x namedThen few read)
      (onlyChild_storeCurfews c cs _)
    have services := (tablesStand_storeCurfews c cs (s.admitted h 0x61 body)).services
    have curfew := curfewActive_of_vtu posted.vtu c
    rw [← curfew] at answered
    refine ⟨t, runs, ?_, ?_, soon (.profile c) (isDirty_reported _ _ _), edited.pin, edited.children, ?_, edited.slots,
      answered, edited.traffic, edited.quiet, edited.classes, edited.settings, ?_⟩
    · rw [child_of_pss _ _ posted.pss, storeCurfews_child, admitted_child]
    · rw [curfew, storeCurfews_curfew c cs (validChildField_valid namedThen), admitted_localNow]
      cases s.localNow <;> rfl
    · rw [posted.vtu, storeCurfews_usage, admitted_vtu]
    · rw [posted.pss, services, admitted_services]
  · obtain ⟨body, parts⟩ : ∃ body, recordParts (.profileSuspend h profile) = some (h, 0x62, body) := ⟨_, rfl⟩
    have namedThen := (admitted_validChildField s h 0x62 body profile).trans named
    obtain ⟨t, runs, child, slots, written, vtu, answered, edited, services⟩ := stateCommand true (.profileSuspend h profile)
      _ h 0x62 body s c parts rfl ready passes fun x => profileSuspend_acts x namedThen
    refine ⟨t, runs, child, fun i bound presents => ?_, written, edited.pin, edited.children, vtu, edited.slots, answered,
      edited.traffic, edited.quiet, edited.classes, edited.settings, services⟩
    have same := admitted_slot s h 0x62 body i
    rw [slots i]
    exact setSuspended_suspends i (same ▸ bound) (same ▸ presents)
  · obtain ⟨body, parts⟩ : ∃ body, recordParts (.profileResume h profile) = some (h, 0x63, body) := ⟨_, rfl⟩
    have namedThen := (admitted_validChildField s h 0x63 body profile).trans named
    obtain ⟨t, runs, child, slots, written, vtu, answered, edited, services⟩ := stateCommand false (.profileResume h profile)
      _ h 0x63 body s c parts rfl ready passes fun x => profileResume_acts x namedThen
    refine ⟨t, runs, child, fun i bound => ?_, written, edited.pin, edited.children, vtu, edited.slots, answered,
      edited.traffic, edited.quiet, edited.classes, edited.settings, services⟩
    rw [slots i]
    exact setSuspended_resumes i (admitted_slot s h 0x63 body i ▸ bound)

end

section
/-! PROOFS. PROFILE_REMOVE (R101, R174; log 16). -/

namespace Sys2Proof.Machine

/-! ### What a removal leaves (R101) -/

/-- A profile taken out of an entry's sets is in neither. -/
theorem without_unnamed (e : ServiceEntry) (p : Fin 8) :
    inSet (e.without p).allow p.val = false ∧ inSet (e.without p).block p.val = false := by
  simp [inSet, ServiceEntry.without]

theorem setUsage_isDirty (s : State) (c : Fin 7) (u : Usage) (r : RecordId) :
    (s.setUsage c u).isDirty r = s.isDirty r := by
  unfold State.setUsage
  split <;> rfl

theorem isDirty_markDirty_grow {s : State} {q : RecordId} (r : RecordId) (dirty : s.isDirty q = true) :
    (s.markDirty r).isDirty q = true := (marksGrow_markDirty s r).dirty q dirty

/-- The end of a removal marks the usage record and clears no mark. -/
theorem leaveSets_dirty (c : Fin 7) (t : State) : (leaveSets c t).isDirty (.usage c) = true
    ∧ ∀ q, t.isDirty q = true → (leaveSets c t).isDirty q = true :=
  ⟨isDirty_markDirty_same t (.usage c), fun _ dirty => isDirty_markDirty_grow (.usage c) dirty⟩

theorem forgotten_dirty (c : Fin 7) (s : State) : (forgotten c s).isDirty (.profile c) = true
    ∧ (forgotten c s).isDirty (.usage c) = true := by
  have zeroed := setUsage_isDirty ((s.setChild c .invalid).markDirty (.profile c)) c .zero (.profile c)
  have marked := isDirty_markDirty_same (s.setChild c .invalid) (.profile c)
  rw [forgotten]
  generalize State.setUsage _ c .zero = t at zeroed
  obtain ⟨usage, grow⟩ := leaveSets_dirty c t
  exact ⟨grow _ (zeroed.trans marked), usage⟩

/-- The profile's record and its usage record are marked (R102, R185). -/
theorem dropProfile_dirty (c : Fin 7) (s : State) : (dropProfile c s).isDirty (.profile c) = true
    ∧ (dropProfile c s).isDirty (.usage c) = true := by
  obtain ⟨profile, usage⟩ := forgotten_dirty c s
  rw [dropProfile_eq]
  split
  · exact ⟨isDirty_markDirty_grow .services profile, isDirty_markDirty_grow .services usage⟩
  · exact ⟨profile, usage⟩

/-! ### The uses of a profile (R101, R174) -/

/-- A slot that is not bound to the profile, does not wait for it and does not start with it does not use it. -/
theorem useBySlot_none {s : State} {p : Fin 8} {i : Fin 4} (unbound : (s.slot i).bound ≠ p)
    (unpending : ∀ q ∈ (s.slot i).pending, q.profile ≠ p) (other : s.sc.settings.defaults[i] ≠ p) :
    useBySlot s p i = none := by
  have waits : ((s.slot i).pending.any fun q => decide (q.profile = p)) = false := by
    cases pending : (s.slot i).pending with
    | none => rfl
    | some q => exact decide_eq_false (unpending q pending)
  rw [useBySlot, if_neg unbound, waits, if_neg Bool.false_ne_true, if_neg other]

theorem firstUse_none {s : State} {p : Fin 8} (unused : ∀ i, useBySlot s p i = none) : firstUse s p = none := by
  refine List.findSome?_eq_none_iff.mpr fun i _ => ?_
  rw [unused]
  rfl

/-- The first slot to use the profile is named with its use. -/
theorem firstUse_first {s : State} {p : Fin 8} {i : Fin 4} {use : InUse} (uses : useBySlot s p i = some use)
    (earlier : ∀ j : Fin 4, j.val < i.val → useBySlot s p j = none) : firstUse s p = some (i, use) := by
  obtain ⟨before, after, split⟩ := List.mem_iff_append.mp (mem_slotList i)
  have rising : (before ++ i :: after).Pairwise (· < ·) := split ▸ (by decide : slotList.Pairwise (· < ·))
  obtain ⟨-, -, less⟩ := List.pairwise_append.mp rising
  refine List.findSome?_eq_some_iff.mpr ⟨before, i, after, split, by rw [uses]; rfl, fun j member => ?_⟩
  rw [earlier j (less j member i List.mem_cons_self)]
  rfl

/-- A PROFILE_REMOVE's checks read the slots and the settings alone. -/
theorem useBySlot_of_kept {s t : State} (sdu : t.sdu = s.sdu) (settings : t.sc.settings = s.sc.settings) (p : Fin 8)
    (i : Fin 4) : useBySlot t p i = useBySlot s p i := by
  rw [useBySlot, slot_of_sdu _ _ sdu, settings]
  rfl

/-! ### PROFILE_REMOVE's owner -/

section
variable {profile : Byte} {c : Fin 7} {s : State} (x : TakeCtx) (named : validChildField s profile = some c)
include named

theorem profileRemove_acts (unused : firstUse s (childNumber c) = none) : (profileRemove profile).act x s
    = accept (dropProfile c s) false (num16 (s.pss.services.filter fun e => e.names (childNumber c)).length) := by
  simp only [profileRemove, Handler.gated, named, unused]

theorem profileRemove_refuses {i : Fin 4} {use : InUse} (used : firstUse s (childNumber c) = some (i, use)) :
    (profileRemove profile).act x s = refuse s .inUse (num8 i.val ++ [Config.inUseCode use]) := by
  simp only [profileRemove, Handler.gated, named, used]

end

theorem admitted_unset {s : State} (unset : s.pss.pin = .unset) (hd : Header) (code : Byte) (body : List Byte) :
    s.admitted hd code body = s.closedIn hd code body := by
  rw [State.admitted, State.pinRequired, unset]
  rfl

/-- With no PIN installed, a gated record that its owner refuses on the state it found is refused so (R46, R47). -/
theorem gated_refused (i : Instr) (cls : CmdClass) (length : Nat) (act : TakeCtx → State → Taken) (hd : Header)
    (code : Byte) (body : List Byte) (s : State) (outcome : ReplyCode) (payload : List Byte)
    (parts : recordParts i = some (hd, code, body)) (handler : handlerOf i = some (.gated cls length act))
    (ready : Ready s hd cls length) (unset : s.pss.pin = .unset) (plain : outcome ≠ .adjusted)
    (acts : ∀ x, act x (s.closedIn hd code body) = refuse (s.closedIn hd code body) outcome payload) :
    Refused i s hd code outcome payload := by
  have judged := judged_gatedPasses i cls length act hd code body s _ handler ready (.inl unset) fun x =>
    (congrArg (act x) (admitted_unset unset hd code body)).trans (acts x)
  exact refused_of_judged i hd code body s outcome payload (runs_record i _ hd code body s parts handler)
    ready.toListening judged plain

end Sys2Proof.Machine
end

section
open Sys2Proof Sys2Proof.Machine

/-- Settles O35: a profile no slot uses is dropped, and the first slot that is bound to one stands in the refusal. -/
theorem profileRemoveForgets : Obligations.ProfileRemoveForgets := by
  intro s h profile c ready named
  obtain ⟨body, parts⟩ : ∃ body, recordParts (.profileRemove h profile) = some (h, 0x64, body) := ⟨_, rfl⟩
  refine ⟨fun passes unused => ?_, fun unset i bound earlier => ?_⟩
  · have namedThen := (admitted_validChildField s h 0x64 body profile).trans named
    have free : firstUse (s.admitted h 0x64 body) (childNumber c) = none := firstUse_none fun i => by
      obtain ⟨unbound, unpending, other⟩ := unused i
      rw [useBySlot_of_kept (admitted_sdu s h 0x64 body) (admitted_settings s h 0x64 body)]
      exact useBySlot_none unbound unpending other
    obtain ⟨t, runs, answered, posted, edited, soon⟩ := childCommand c (.profileRemove h profile) 1 _ h 0x64 body s _
      false _ parts rfl ready passes (fun x => profileRemove_acts x namedThen free) (onlyChild_dropProfile c _)
    obtain ⟨child, usage, curfew, sdu, services⟩ := dropProfile_made c (s.admitted h 0x64 body)
    obtain ⟨profileDirty, usageDirty⟩ := dropProfile_dirty c (s.admitted h 0x64 body)
    have table : t.pss.services = s.pss.services.map fun e => e.without (childNumber c) := by
      rw [posted.pss, services, admitted_services]
    rw [admitted_services] at answered
    refine ⟨t, runs, (child_of_pss _ _ posted.pss c).trans child, (usage_of_vtu _ _ posted.vtu c).trans usage,
      (curfewActive_of_vtu posted.vtu c).trans curfew, fun e member => ?_, ?_, soon _ profileDirty, soon _ usageDirty,
      edited.pin, edited.children, edited.usages, (posted.sdu.trans sdu).trans (admitted_sdu s h 0x64 body), answered,
      edited.traffic, edited.quiet, edited.classes, edited.settings⟩
    · rw [table] at member
      obtain ⟨f, -, rfl⟩ := List.mem_map.mp member
      exact without_unnamed f (childNumber c)
    · rw [table, List.map_map]
      rfl
  · have uses : useBySlot s (childNumber c) i = some .bound := if_pos bound
    exact gated_refused (.profileRemove h profile) .admin 1 _ h 0x64 body s .inUse _ parts rfl ready unset (by decide)
      fun x => profileRemove_refuses (s := s.closedIn h 0x64 body) x named (firstUse_first uses earlier)

end

section
/-! PROOFS. SERVICE_WRITE and SERVICE_REMOVE (R92, R94, R95, R175). -/

namespace Sys2Proof.Machine

/-! ### The table after a put (R92, R94) -/

theorem putService_self (e : ServiceEntry) (t : List ServiceEntry) : e ∈ putService e t := by
  induction t with
  | nil => exact List.mem_singleton_self e
  | cons x xs ih =>
    rw [putService]
    split
    · exact List.mem_cons_self
    · split
      · exact List.mem_cons_self
      · exact List.mem_cons_of_mem x ih

/-- Entries of other services stay. -/
theorem putService_keeps {e f : ServiceEntry} {t : List ServiceEntry} (member : f ∈ t) (other : f.service ≠ e.service) :
    f ∈ putService e t := by
  induction t with
  | nil => exact absurd member List.not_mem_nil
  | cons x xs ih =>
    rw [putService]
    split
    · exact List.mem_cons_of_mem e member
    · split
      next same =>
        rcases List.mem_cons.mp member with rfl | later
        · exact absurd same.symm other
        · exact List.mem_cons_of_mem e later
      next =>
        rcases List.mem_cons.mp member with rfl | later
        · exact List.mem_cons_self
        · exact List.mem_cons_of_mem x (ih later)

/-- In a rising table each service has one entry. -/
theorem rising_unique {t : List ServiceEntry} (rising : t.Pairwise fun e f => e.service < f.service) {e f : ServiceEntry}
    (held : e ∈ t) (heldF : f ∈ t) (same : f.service = e.service) : f = e := by
  induction t with
  | nil => exact absurd held List.not_mem_nil
  | cons x xs ih =>
    obtain ⟨first, rest⟩ := List.pairwise_cons.mp rising
    rcases List.mem_cons.mp held with rfl | later <;> rcases List.mem_cons.mp heldF with rfl | laterF
    · rfl
    · exact absurd same (Nat.ne_of_gt (first f laterF))
    · exact absurd same (Nat.ne_of_lt (first e later))
    · exact ih rest later laterF

/-- A lawful table holds the entry put as the only one of its service (R92). -/
theorem mem_putService_iff {e : ServiceEntry} {t : List ServiceEntry} (rising : t.Pairwise fun e f => e.service < f.service)
    (f : ServiceEntry) : f ∈ putService e t ↔ f = e ∨ (f ∈ t ∧ f.service ≠ e.service) := by
  constructor
  · intro member
    by_cases same : f.service = e.service
    · exact .inl (rising_unique (putService_rising e t rising) (putService_self e t) member same)
    · exact (mem_putService member).imp_right fun held => ⟨held, same⟩
  · rintro (rfl | ⟨held, other⟩)
    · exact putService_self f t
    · exact putService_keeps held other

theorem serviceFields_service {service : BitVec 16} {r0 r1 category allow block : Byte} {e : ServiceEntry}
    (made : serviceFields service r0 r1 category allow block = some e) : e.service = service.toNat := by
  unfold serviceFields at made
  split at made
  · split at made <;> cases made
    rfl
  · cases made

/-! ### The owners (R175) -/

section
variable {s : State} (x : TakeCtx)

section
variable {service : BitVec 16} {r0 r1 category allow block : Byte} {e : ServiceEntry}
  (made : serviceFields service r0 r1 category allow block = some e)
include made

theorem serviceWrite_acts (room : (serviceEntry s.pss.services e.service).isSome = true ∨ s.pss.services.length < 256) :
    (serviceWrite service r0 r1 category allow block).act x s
      = accept (storeServices e.service (putService e s.pss.services) s) false
        ([openingByte [(serviceEntry s.pss.services e.service).isNone]]
          ++ num16 (putService e s.pss.services).length) := by
  have fits : ((serviceEntry s.pss.services e.service).isNone && decide (256 ≤ s.pss.services.length)) = false := by
    rcases room with held | short
    · rw [Option.isNone_eq_false_iff.mpr held, Bool.false_and]
    · rw [decide_eq_false (Nat.not_le.mpr short), Bool.and_false]
  simp only [serviceWrite, Handler.gated, made, fits, Bool.false_eq_true, if_false]

theorem serviceWrite_full (absent : serviceEntry s.pss.services e.service = none) (full : 256 ≤ s.pss.services.length) :
    (serviceWrite service r0 r1 category allow block).act x s
      = refuse s .tableFull (num16 s.pss.services.length) := by
  simp only [serviceWrite, Handler.gated, made, absent, Option.isNone_none, decide_eq_true full, Bool.and_self, if_true]

end

theorem serviceRemove_acts {service : BitVec 16} {e : ServiceEntry}
    (held : serviceEntry s.pss.services service.toNat = some e) : (serviceRemove service).act x s
      = accept (storeServices service.toNat (s.pss.services.filter fun f => f.service ≠ service.toNat) s) false
        (num16 (s.pss.services.filter fun f => f.service ≠ service.toNat).length) := by
  simp only [serviceRemove, Handler.gated, held]

theorem serviceRemove_absent {service : BitVec 16} (absent : serviceEntry s.pss.services service.toNat = none) :
    (serviceRemove service).act x s = refuse s .notFound [] := by
  simp only [serviceRemove, Handler.gated, absent]

end

/-! ### A new table (R95, R102) -/

theorem onlySlots_storeServices (service : Nat) (table : List ServiceEntry) (s : State) :
    OnlySlots ({ s with pss.services := table }.markDirty .services) (storeServices service table s) :=
  onlySlots_reportServiceEntry service _

theorem slotsTouched_storeServices (service : Nat) (table : List ServiceEntry) (s : State) :
    SlotsTouched s (storeServices service table s) (fun x => decide (x.item.service = some service)) := by
  have touched := slotsTouched_reevaluateWhere (fun x => decide (x.item.service = some service))
    ({ s with pss.services := table }.markDirty .services)
  rw [storeServices, reportServiceEntry]
  exact touched.congr rfl rfl

/-- What a command leaves that replaces the service table (R48, R95, R102). -/
structure ServicesStored (service : Nat) (table : List ServiceEntry) (s t : State) : Prop where
  table : t.pss.services = table
  written : WrittenSoon t .services
  pin : PinKept s t
  profiles : t.pss.profiles = s.pss.profiles
  vtu : t.vtu = s.vtu
  slots : SlotsTouched s t (fun x => decide (x.item.service = some service))
  traffic : TrafficKept s t
  quiet : QuietAttention s t
  classes : ClassesKept s t
  settings : SettingsKept s t

/-- A ready command that replaces the service table, its PIN requirement met (R47 to R49, R95). -/
theorem serviceCommand (service : Nat) (table : List ServiceEntry) (i : Instr) (length : Nat)
    (act : TakeCtx → State → Taken) (hd : Header) (code : Byte) (body : List Byte) (s : State) (payload : List Byte)
    (parts : recordParts i = some (hd, code, body)) (handler : handlerOf i = some (.gated .admin length act))
    (ready : Ready s hd .admin length) (passes : PinPasses s hd)
    (acts : ∀ x, act x (s.admitted hd code body)
      = accept (storeServices service table (s.admitted hd code body)) false payload) :
    ∃ t, Runs i s t ∧ Answered s t hd code 0 false payload ∧ ServicesStored service table s t := by
  have before := onlyCount_admitted s hd code body
  have only := onlySlots_storeServices service table (s.admitted hd code body)
  have touched := slotsTouched_storeServices service table (s.admitted hd code body)
  have dirty : (storeServices service table (s.admitted hd code body)).isDirty .services = true :=
    (isDirty_of_sc only.sc _).trans (isDirty_markDirty_same _ _)
  obtain ⟨t, runs, answered, posted, classes, soon⟩ := gated_accepted i _ length act hd code body s _ false payload parts
    handler ready passes acts only.lc
  have pss : t.pss = { (s.admitted hd code body).pss with services := table } := posted.pss.trans only.pss
  have pin : PinKept s (s.admitted hd code body) := pinKept_of_pss rfl
  refine ⟨t, runs, answered, by rw [pss], soon _ dirty, ⟨?_, ?_, ?_⟩, ?_, ?_,
    touched.congr (admitted_sdu s hd code body).symm posted.sdu, ⟨?_, ?_, ?_⟩, ⟨?_, ?_, ?_⟩, classes, ?_, ?_⟩
  · rw [pss]; exact pin.pin
  · rw [pss]; exact pin.failures
  · rw [pss]; exact pin.lockout
  · rw [pss]; exact before.profiles
  · exact (posted.vtu.trans only.vtu).trans before.vtu
  · exact (posted.ct.trans only.ct).trans before.ct
  · exact (posted.wd.trans only.wd).trans before.wd
  · exact (posted.prt.trans only.prt).trans before.prt
  · exact (posted.enable.trans only.enable).trans before.enable
  · exact (posted.warned.trans only.warned).trans before.warned
  · exact (posted.capture.trans only.capture).trans before.capture
  · exact (posted.settings.trans (congrArg SC.settings only.sc)).trans before.settings
  · exact (posted.faultSeen.trans (congrArg SC.faultSeen only.sc)).trans before.faultSeen

end Sys2Proof.Machine
end

section
open Sys2Proof Sys2Proof.Machine

/-- Settles O36, by what a put and a filter make of the table, the slots of its service being judged afresh. -/
theorem serviceTableCommands : Obligations.ServiceTableCommands := by
  intro s h service
  refine ⟨fun r0 r1 category allow block e ready passes made room => ?_, fun e ready passes held => ?_,
    fun ready unset absent => ?_, fun r0 r1 category allow block e ready unset made absent full => ?_⟩
  · obtain ⟨body, parts⟩ : ∃ body, recordParts (.serviceWrite h service r0 r1 category allow block)
        = some (h, 0x65, body) := ⟨_, rfl⟩
    have services := admitted_services s h 0x65 body
    have same := serviceFields_service made
    obtain ⟨t, runs, answered, stored⟩ := serviceCommand e.service (putService e (s.admitted h 0x65 body).pss.services)
      (.serviceWrite h service r0 r1 category allow block) 7 _ h 0x65 body s _ parts rfl ready passes
      fun x => serviceWrite_acts x made (by rw [services, same]; exact room)
    obtain ⟨table, written, pin, profiles, vtu, slots, traffic, quiet, classes, settings⟩ := stored
    rw [← table, services, same] at answered
    rw [services] at table
    rw [same] at slots
    refine ⟨t, runs, ?_, fun f member other => ?_, fun f member => ?_, fun lawful => ⟨?_, fun f => ?_⟩, answered.entry,
      written, pin, profiles, vtu, slots, answered.number, traffic, quiet, classes, settings⟩
    · exact table ▸ putService_self e _
    · exact table ▸ putService_keeps member (same ▸ other)
    · exact mem_putService (table ▸ member)
    · rw [table]
      refine putService_lawful lawful (serviceFields_inRange made) fun new => ?_
      rw [same] at new
      exact room.resolve_left fun some => by simp [Option.isNone_iff_eq_none.mp new] at some
    · obtain ⟨-, rising, -⟩ := lawful
      rw [table, ← same]
      exact mem_putService_iff rising f
  · obtain ⟨body, parts⟩ : ∃ body, recordParts (.serviceRemove h service) = some (h, 0x66, body) := ⟨_, rfl⟩
    have services := admitted_services s h 0x66 body
    obtain ⟨t, runs, answered, stored⟩ := serviceCommand service.toNat _ (.serviceRemove h service) 2 _ h 0x66 body s _
      parts rfl ready passes fun x => serviceRemove_acts x (services ▸ held)
    obtain ⟨table, written, pin, profiles, vtu, slots, traffic, quiet, classes, settings⟩ := stored
    rw [← table] at answered
    exact ⟨t, runs, services ▸ table, answered.entry, written, pin, profiles, vtu, slots, answered.number, traffic, quiet,
      classes, settings⟩
  · exact gated_refused (.serviceRemove h service) .admin 2 _ h 0x66 _ s .notFound [] rfl rfl ready unset (by decide)
      fun x => serviceRemove_absent (s := s.closedIn h 0x66 _) x absent
  · have same := serviceFields_service made
    exact gated_refused (.serviceWrite h service r0 r1 category allow block) .admin 7 _ h 0x65 _ s .tableFull _ rfl rfl
      ready unset (by decide) fun x => serviceWrite_full (s := s.closedIn h 0x65 _) x made (same ▸ absent) full

end

section
/-! PROOFS. The two standing laws of a slot record, and what a record edited or judged afresh holds of them (R106, R107, R110,
R113, R115). -/

namespace Sys2Proof.Machine

/-! ### The laws of one slot record -/

/-- The record hides exactly while PENDING or BLOCKED, and without picture windows it does not wait in RELEASING. -/
def Slot.Enforced (x : Slot) : Prop :=
  (x.enforcement = .hiding ↔ x.decision.permits = false) ∧ (x.enforcement = .releasing → x.picture = true)

/-- Presenting an item for a profile whose time is used up, the record hides unless the extension is of its item. -/
def Slot.InTime (x : Slot) (usage : Fin 7 → Usage) : Prop :=
  ∀ c, x.bound = childNumber c → (usage c).exhausted = true → x.item ≠ .nothing → x.enforcement ≠ .hiding →
    (usage c).ext.map Extension.key = itemKey x.item x.current

theorem enforcementAgrees_iff (s : State) : s.EnforcementAgrees ↔ ∀ i, (s.slot i).Enforced := Iff.rfl

theorem timeOutHides_iff (s : State) : s.TimeOutHides ↔ ∀ i, (s.slot i).InTime s.usage := Iff.rfl

/-! ### A record judged afresh (R107, R110, R113) -/

theorem reevaluatedAt_enforced (pos : Option Entry × Option Nat) (s : State) (x : Slot) :
    (reevaluatedAt pos s x).Enforced := ⟨nextEnforcement_hiding _ _ _, nextEnforcement_releasing _ _ _⟩

/-- Gates 3 to 5 block an item that an exhausted profile's extension does not cover (R107). -/
theorem gates_uncovered (s : State) (c : Fin 7) (item : Item) (key : Option ItemKey)
    (exhausted : (s.usage c).exhausted = true) (uncovered : (s.usage c).extensionCovers key = false) :
    ∃ v, gates s (childNumber c) (s.curfewActive c) item key = some v ∧ v.decision.unlockable = false
      ∧ v.decision.permits = false := by
  cases suspended : (s.child c).suspended with
  | true => exact ⟨_, gates_suspended s c _ item key suspended, rfl, rfl⟩
  | false =>
    cases curfew : s.curfewActive c with
    | true => exact ⟨_, gates_curfew s c item key suspended, rfl, rfl⟩
    | false => exact ⟨_, gates_time s c item key suspended exhausted uncovered, rfl, rfl⟩

theorem reevaluatedAt_inTime (pos : Option Entry × Option Nat) (s : State) (x : Slot) :
    (reevaluatedAt pos s x).InTime s.usage := by
  intro c bound exhausted presents shows
  have keyed := itemKey_ne_none x.item (pos.1.map Entry.key) presents
  by_contra other
  have uncovered : (s.usage c).extensionCovers (itemKey x.item (pos.1.map Entry.key)) = false :=
    Bool.eq_false_iff.mpr fun covers => other ((extensionCovers_iff _ keyed).mp covers)
  obtain ⟨v, gate, fixed, hides⟩ := gates_uncovered s c x.item _ exhausted uncovered
  have held : gates s (reevaluatedAt pos s x).bound (s.curfewHeld (reevaluatedAt pos s x).bound) x.item
      (itemKey x.item (pos.1.map Entry.key)) = some v := by
    rw [bound, curfewHeld_child]
    exact gate
  have decided : (reevaluatedAt pos s x).decision = v.decision := decideSlot_gated presents held fixed
  obtain ⟨hides_iff, -⟩ := reevaluatedAt_enforced pos s x
  exact shows (hides_iff.mpr (decided ▸ hides))

/-! ### A record edited -/

/-- What the laws speak of is the same in both records. -/
structure SlotEdit (x y : Slot) : Prop where
  picture : y.picture = x.picture
  decision : y.decision = x.decision
  enforcement : y.enforcement = x.enforcement
  bound : y.bound = x.bound
  key : itemKey y.item y.current = itemKey x.item x.current

theorem itemKey_nothing (current : Option Key) : itemKey .nothing current = none := rfl

theorem SlotEdit.enforced {x y : Slot} (edit : SlotEdit x y) (law : x.Enforced) : y.Enforced := by
  rwa [Slot.Enforced, edit.enforcement, edit.decision, edit.picture]

theorem SlotEdit.presents {x y : Slot} (edit : SlotEdit x y) (presents : y.item ≠ .nothing) : x.item ≠ .nothing :=
  fun nothing => itemKey_ne_none y.item y.current presents (by rw [edit.key, nothing, itemKey_nothing])

theorem SlotEdit.inTime {x y : Slot} {usage : Fin 7 → Usage} (edit : SlotEdit x y) (law : x.InTime usage) :
    y.InTime usage := by
  intro c bound exhausted presents shows
  rw [edit.key]
  exact law c (edit.bound ▸ bound) exhausted (edit.presents presents) (edit.enforcement ▸ shows)

/-- The end of RELEASING shows what was shown (R106, R111). -/
theorem released_enforced {x : Slot} (law : x.Enforced) : x.released.Enforced := by
  obtain ⟨hides, waits⟩ := law
  unfold Slot.released
  split
  next releasing => exact ⟨by simpa [releasing] using hides, nofun⟩
  · exact ⟨hides, waits⟩
  · exact ⟨hides, waits⟩

theorem released_keeps (x : Slot) : x.released.bound = x.bound ∧ x.released.item = x.item
    ∧ x.released.current = x.current ∧ (x.released.enforcement = .hiding ↔ x.enforcement = .hiding) := by
  unfold Slot.released
  split
  next releasing => simp [releasing]
  · exact ⟨rfl, rfl, rfl, Iff.rfl⟩
  · exact ⟨rfl, rfl, rfl, Iff.rfl⟩

theorem released_inTime {x : Slot} {usage : Fin 7 → Usage} (law : x.InTime usage) : x.released.InTime usage := by
  obtain ⟨bound, item, current, hidden⟩ := released_keeps x
  rw [Slot.InTime, bound, item, current]
  exact fun c named exhausted presents shows => law c named exhausted presents (mt hidden.mpr shows)

/-- Without picture windows the record does not wait in RELEASING (R106). -/
theorem unpictured_enforced {x : Slot} (law : x.Enforced) : (Slot.released { x with picture := false }).Enforced := by
  obtain ⟨hides, -⟩ := law
  cases x with
  | mk item bound pending picture current boundary hold unlock decision enforcement =>
    cases enforcement
    · exact ⟨hides, nofun⟩
    · exact ⟨hides, nofun⟩
    · exact ⟨⟨nofun, fun blocked => nomatch hides.mpr blocked⟩, nofun⟩

/-- A slot with its part-reset values presents nothing (R105). -/
theorem atReset_laws (p : Fin 8) (usage : Fin 7 → Usage) : (Slot.atReset p).Enforced ∧ (Slot.atReset p).InTime usage :=
  ⟨⟨⟨nofun, nofun⟩, nofun⟩, fun _ _ _ presents => absurd rfl presents⟩

/-! ### The laws between two states -/

/-- Each slot that held to a law goes on doing so. -/
structure SlotLawsKept (s t : State) : Prop where
  enforced : ∀ i, (s.slot i).Enforced → (t.slot i).Enforced
  inTime : ∀ i, (s.slot i).InTime s.usage → (t.slot i).InTime t.usage

section
variable {s t u : State}

theorem SlotLawsKept.refl (s : State) : SlotLawsKept s s := ⟨fun _ => id, fun _ => id⟩

theorem SlotLawsKept.trans (a : SlotLawsKept s t) (b : SlotLawsKept t u) : SlotLawsKept s u :=
  ⟨fun i law => b.enforced i (a.enforced i law), fun i law => b.inTime i (a.inTime i law)⟩

theorem usage_of_records (usage : t.vtu.usage = s.vtu.usage) : t.usage = s.usage := by
  funext c
  rw [State.usage, usage]
  rfl

theorem slotLaws_of_blocks (sdu : t.sdu = s.sdu) (usage : t.vtu.usage = s.vtu.usage) : SlotLawsKept s t := by
  refine ⟨fun i law => ?_, fun i law => ?_⟩
  · rwa [slot_of_sdu s t sdu]
  · rwa [slot_of_sdu s t sdu, usage_of_records usage]

/-- Every slot at its part-reset values holds to both. -/
theorem slotLaws_fresh (fresh : ∀ i, ∃ p, t.slot i = Slot.atReset p) : SlotLawsKept s t := by
  refine ⟨fun i _ => ?_, fun i _ => ?_⟩ <;> obtain ⟨p, same⟩ := fresh i <;> rw [same]
  · exact (atReset_laws p t.usage).1
  · exact (atReset_laws p t.usage).2

/-- Where slot `i` alone moved and no usage record did, its own record tells. -/
theorem slotLaws_atSlot (i : Fin 4) (usage : t.vtu.usage = s.vtu.usage) (others : OtherSlotsKept s t i)
    (enforced : (s.slot i).Enforced → (t.slot i).Enforced)
    (inTime : (s.slot i).InTime s.usage → (t.slot i).InTime s.usage) : SlotLawsKept s t := by
  refine ⟨fun j law => ?_, fun j law => ?_⟩
  · by_cases same : j = i
    · subst same; exact enforced law
    · rwa [others j same]
  · rw [usage_of_records usage]
    by_cases same : j = i
    · subst same; exact inTime law
    · rwa [others j same]

/-- No block of a slot's laws is in the hands of the commit or of the count of compares. -/
theorem OnlyCommit.slotLaws (h : OnlyCommit s t) : SlotLawsKept s t := slotLaws_of_blocks h.sdu (congrArg VTU.usage h.vtu)

theorem OnlyCount.slotLaws (h : OnlyCount s t) : SlotLawsKept s t := slotLaws_of_blocks h.sdu (congrArg VTU.usage h.vtu)

end

theorem slotLaws_report (s : State) (kind : CaptureKind) (block : Nat) (bank : BitVec 3) (row col : Nat) :
    SlotLawsKept s (s.report kind block bank row col) :=
  slotLaws_of_blocks (report_sdu s _ _ _ _ _) (congrArg VTU.usage (report_vtu s _ _ _ _ _))

theorem slotLaws_forSlots (f : Fin 4 → State → State) (h : ∀ i s, SlotLawsKept s (f i s)) (s : State) :
    SlotLawsKept s (forSlots f s) :=
  forSlots_induct (P := SlotLawsKept s) f (fun i t ht => ht.trans (h i t)) s (.refl s)

theorem slotLaws_forChildren (f : Fin 7 → State → State) (h : ∀ c s, SlotLawsKept s (f c s)) (s : State) :
    SlotLawsKept s (forChildren f s) :=
  forChildren_induct (P := SlotLawsKept s) f (fun c t ht => ht.trans (h c t)) s (.refl s)

/-! ### Slots set and re-evaluated -/

theorem slotLaws_setSlot {i : Fin 4} {x : Slot} {s : State} (enforced : (s.slot i).Enforced → x.Enforced)
    (inTime : (s.slot i).InTime s.usage → x.InTime s.usage) : SlotLawsKept s (s.setSlot i x) := by
  refine slotLaws_atSlot i rfl (fun j other => slot_setSlot_other s i j x other) ?_ ?_ <;> rwa [slot_setSlot_same]

theorem SlotEdit.slotLaws {i : Fin 4} {x : Slot} {s : State} (edit : SlotEdit (s.slot i) x) :
    SlotLawsKept s (s.setSlot i x) := slotLaws_setSlot edit.enforced edit.inTime

/-- Placing a record judged in the present state keeps the laws, whatever record was judged (R113). -/
theorem slotLaws_placeJudged (i : Fin 4) (pos : Option Entry × Option Nat) (x : Slot) (s : State) :
    SlotLawsKept s (placeSlot i (reevaluatedAt pos s x) s) := by
  refine slotLaws_atSlot i (congrArg VTU.usage (onlySlots_placeSlot i _ s).vtu)
    (fun j other => placeSlot_slot_other i j _ s other) (fun _ => ?_) (fun _ => ?_) <;> rw [placeSlot_slot]
  · exact reevaluatedAt_enforced pos s x
  · exact reevaluatedAt_inTime pos s x

theorem slotLaws_reevaluateAs (i : Fin 4) (x : Slot) (s : State) : SlotLawsKept s (reevaluateAs i x s) :=
  slotLaws_placeJudged i _ x s

theorem slotLaws_reevaluateWhere (hit : Slot → Bool) (s : State) : SlotLawsKept s (reevaluateWhere hit s) := by
  refine slotLaws_forSlots _ (fun i t => ?_) s
  split
  · exact slotLaws_reevaluateAs i _ t
  · exact .refl t

theorem slotLaws_reportProfile (p : Fin 8) (s : State) : SlotLawsKept s (reportProfile p s) :=
  slotLaws_reevaluateWhere _ s

theorem slotLaws_reportServices (l : List Nat) (s : State) : SlotLawsKept s (reportServices l s) :=
  slotLaws_reevaluateWhere _ s

theorem slotLaws_reportServiceEntry (n : Nat) (s : State) : SlotLawsKept s (reportServiceEntry n s) :=
  slotLaws_reevaluateWhere _ s

theorem slotLaws_applyPending (i : Fin 4) (s : State) : SlotLawsKept s (applyPending i s) := by
  unfold applyPending
  split
  · exact .refl s
  · exact slotLaws_reevaluateAs i _ s

theorem slotLaws_takeFrameStart (i : Fin 4) (s : State) : SlotLawsKept s (takeFrameStart i s) :=
  (slotLaws_setSlot released_enforced released_inTime).trans (slotLaws_applyPending i _)

theorem slotLaws_bindSlot (i : Fin 4) (p : Fin 8) (s : State) : SlotLawsKept s (bindSlot i p s) := by
  cases picture : (s.slot i).picture with
  | true =>
    rw [bindSlot_waits i p s picture]
    refine SlotEdit.slotLaws ?_
    exact ⟨rfl, rfl, rfl, rfl, rfl⟩
  | false =>
    rw [bindSlot_applies i p s picture]
    refine SlotLawsKept.trans (SlotEdit.slotLaws ?_) (slotLaws_reevaluateAs i _ _)
    exact ⟨rfl, rfl, rfl, rfl, rfl⟩

theorem slotLaws_zeroFrames (s : State) : SlotLawsKept s (zeroFrames s) := by
  refine slotLaws_forSlots _ (fun i t => SlotEdit.slotLaws ?_) s
  exact ⟨rfl, rfl, rfl, rfl, rfl⟩

/-- Without picture windows the slot does not wait, so RELEASING ends with them (R106). -/
theorem slotLaws_reportPicture (i : Fin 4) (b : Bool) (s : State) : SlotLawsKept s (reportPicture i b s) := by
  have pictured (law : (s.slot i).InTime s.usage) : Slot.InTime { s.slot i with picture := b } s.usage := law
  cases b with
  | true => exact slotLaws_setSlot (fun ⟨hides, _⟩ => ⟨hides, fun _ => rfl⟩) pictured
  | false =>
    simp only [reportPicture, Bool.false_eq_true, if_false]
    refine SlotLawsKept.trans ?_ (slotLaws_applyPending i _)
    refine slotLaws_atSlot i rfl (fun j other => ?_) (fun law => ?_) (fun law => ?_)
    · rw [slot_setSlot_other _ i j _ other, slot_setSlot_other _ i j _ other]
    · rw [slot_setSlot_same, slot_setSlot_same]
      exact unpictured_enforced law
    · rw [slot_setSlot_same, slot_setSlot_same]
      exact released_inTime (pictured law)

/-- A new window table reports the slots whose PICTURE count crosses zero (R28, R106). -/
theorem slotLaws_changeWindows (wd : WD) (s : State) : SlotLawsKept s (changeWindows wd s) := by
  have stored : SlotLawsKept s { s with wd := wd } := slotLaws_of_blocks rfl rfl
  refine stored.trans (slotLaws_forSlots _ (fun i t => ?_) _)
  split
  · exact slotLaws_reportPicture i _ t
  · exact .refl t

end Sys2Proof.Machine
end

section
/-! PROOFS. The laws of the slot records under the Viewing Time Unit: an edit of a usage record keeps them where it neither
uses up the time nor takes the extension, or where the profile is reported after it (R115, R135 to R152). -/

namespace Sys2Proof.Machine

/-! ### One usage record -/

/-- A usage record that uses up no time and takes no extension from one that has (R107 gate 5). -/
def Usage.Eases (u v : Usage) : Prop :=
  v.exhausted = true → u.exhausted = true ∧ v.ext.map Extension.key = u.ext.map Extension.key

theorem Slot.InTime.eased {x : Slot} {before after : Fin 7 → Usage} (law : x.InTime before)
    (eases : ∀ c, x.bound = childNumber c → (before c).Eases (after c)) : x.InTime after := by
  intro c bound exhausted presents shows
  obtain ⟨was, key⟩ := eases c bound exhausted
  exact key.trans (law c bound was presents shows)

theorem slotLaws_setUsage {c : Fin 7} {u : Usage} {s : State} (eases : (s.usage c).Eases u) :
    SlotLawsKept s (s.setUsage c u) := by
  refine ⟨fun i law => ?_, fun i law => ?_⟩ <;> rw [slot_of_sdu _ _ (setUsage_sdu s c u)]
  · exact law
  · refine law.eased fun d _ => ?_
    by_cases same : d = c
    · subst same
      rwa [usage_setUsage_same]
    · rw [usage_setUsage_other s c d u same]
      exact fun exhausted => ⟨exhausted, rfl⟩

theorem slotLaws_markDirty (s : State) (r : RecordId) : SlotLawsKept s (s.markDirty r) := slotLaws_of_blocks rfl rfl

/-- Whatever became of one child's usage record, the report of its profile judges the slots it matters to (R115). -/
theorem slotLaws_reported {c : Fin 7} {s t : State} (sdu : t.sdu = s.sdu) (usages : OtherUsageKept s t c) :
    SlotLawsKept s (reportProfile (childNumber c) t) := by
  have kept := slotLaws_reportProfile (childNumber c) t
  refine ⟨fun i law => kept.enforced i (by rwa [slot_of_sdu s t sdu]), fun i law => ?_⟩
  by_cases bound : (t.slot i).bound = childNumber c
  · obtain ⟨u, only, became⟩ := reportProfile_slot (childNumber c) t i bound
    rw [became, usage_of_records (congrArg VTU.usage (reportProfile_vtu t _)),
      ← usage_of_records (congrArg VTU.usage only.vtu)]
    exact reevaluatedAt_inTime _ u _
  · refine kept.inTime i ?_
    rw [slot_of_sdu s t sdu] at bound ⊢
    refine law.eased fun d named => ?_
    rw [usages d fun same => bound (same ▸ named)]
    exact fun exhausted => ⟨exhausted, rfl⟩

theorem slotLaws_expireExtension (c : Fin 7) (s : State) : SlotLawsKept s (expireExtension c s) :=
  slotLaws_reported (setUsage_sdu s c _) fun d other => usage_setUsage_other s c d _ other

/-- A restoration gives back time or does nothing (R144). -/
theorem slotLaws_restore (c : Fin 7) (s : State) : SlotLawsKept s (restore c s) := by
  unfold restore
  split
  · have stored := (slotLaws_setUsage (c := c) (s := s) (u := { s.usage c with
      exhausted := false, ext := none
      warned := (s.usage c).warned && !aboveBound (s.remainingChild c) ((s.child c).warn * 60) }) nofun).trans
      (slotLaws_markDirty _ (.usage c))
    simp only
    split
    · exact stored.trans (slotLaws_reportProfile _ _)
    · exact stored
  · exact .refl s

theorem slotLaws_restoreUsage {c : Fin 7} {u : Usage} {s : State} (eases : (s.usage c).Eases u) :
    SlotLawsKept s (restore c ((s.setUsage c u).markDirty (.usage c))) :=
  ((slotLaws_setUsage eases).trans (slotLaws_markDirty _ _)).trans (slotLaws_restore c _)

/-! ### The reports of a tick or of a new clock (R140, R152) -/

/-- What the application for child `c` reaches from a state that the others keep, and they keep, the fold reaches. -/
theorem forChildren_reaches {P Q : State → Prop} (f : Fin 7 → State → State) (c : Fin 7)
    (keepsP : ∀ d s, P s → P (f d s)) (reaches : ∀ s, P s → Q (f c s)) (keepsQ : ∀ d s, Q s → Q (f d s)) {s : State}
    (before : P s) : Q (forChildren f s) := by
  obtain ⟨l, r, split⟩ := List.mem_iff_append.mp (mem_childList c)
  rw [forChildren, split, List.foldl_append, List.foldl_cons]
  have held := List.foldlRecOn l (fun t d => f d t) before fun t kept d _ => keepsP d t kept
  exact List.foldlRecOn r (fun t d => f d t) (reaches _ held) fun t kept d _ => keepsQ d t kept

theorem slotLaws_reportIf (differs : Bool) (c : Fin 7) (s : State) :
    SlotLawsKept s (if differs then reportProfile (childNumber c) s else s) := by
  split
  · exact slotLaws_reportProfile _ s
  · exact .refl s

/-- A slot of a profile whose time or extension moved is judged by the report, and another's profile is as it was. -/
theorem slotLaws_reportDiffering {s t : State} (edits : ∀ i, SlotEdit (s.slot i) (t.slot i)) :
    SlotLawsKept s (reportDiffering s t) := by
  have kept : SlotLawsKept t (reportDiffering s t) :=
    slotLaws_forChildren _ (fun c u => slotLaws_reportIf (vtuDiffers s t c) c u) t
  refine ⟨fun i law => kept.enforced i ((edits i).enforced law), fun i law => ?_⟩
  by_cases reported : ∃ c, (t.slot i).bound = childNumber c ∧ vtuDiffers s t c = true
  · obtain ⟨c, bound, differs⟩ := reported
    refine forChildren_reaches (P := fun u => (u.slot i).bound = childNumber c) (Q := fun u => (u.slot i).InTime u.usage)
      _ c (fun d u named => ?_) (fun u named => ?_) (fun d u => (slotLaws_reportIf (vtuDiffers s t d) d u).inTime i) bound
    · split
      · exact (slotsTouched_reportProfile (childNumber d) u i).1.bound.trans named
      · exact named
    · rw [if_pos differs]
      obtain ⟨v, only, became⟩ := reportProfile_slot (childNumber c) u i named
      rw [became, usage_of_records (congrArg VTU.usage (reportProfile_vtu u _)),
        ← usage_of_records (congrArg VTU.usage only.vtu)]
      exact reevaluatedAt_inTime _ v _
  · refine kept.inTime i (((edits i).inTime law).eased fun c bound exhausted => ?_)
    have same : ¬ ((s.usage c).exhausted ≠ (t.usage c).exhausted ∨ (s.usage c).ext ≠ (t.usage c).ext
        ∨ s.curfewActive c ≠ t.curfewActive c) := fun differs => reported ⟨c, bound, decide_eq_true differs⟩
    simp only [not_or, not_ne_iff] at same
    obtain ⟨sameTime, sameExt, -⟩ := same
    exact ⟨sameTime.trans exhausted, congrArg _ sameExt.symm⟩

/-! ### The accounting tick (R135) -/

theorem sdu_forChildren (f : Fin 7 → State → State) (h : ∀ c s, (f c s).sdu = s.sdu) (s : State) :
    (forChildren f s).sdu = s.sdu :=
  forChildren_induct (P := fun t => t.sdu = s.sdu) f (fun c t same => (h c t).trans same) s rfl

theorem markUsageDirty_sdu (s : State) : (markUsageDirty s).sdu = s.sdu :=
  sdu_forChildren (fun c t => t.markDirty (.usage c)) (fun _ _ => rfl) s

theorem dayRollover_sdu (day : Nat) (a : Acct) (s : State) : (dayRollover day a s).sdu = s.sdu := by
  simp only [dayRollover, markUsageDirty_sdu]
  refine sdu_forChildren _ (fun c t => ?_) s
  split
  · exact setUsage_sdu t c _
  · rfl

theorem weekRollover_sdu (s : State) : (weekRollover s).sdu = s.sdu := by
  simp only [weekRollover]
  split
  · rfl
  · split
    · simp only
      refine sdu_forChildren _ (fun c t => ?_) s
      split
      · exact setUsage_sdu t c _
      · rfl
    · rfl

theorem rolloverCheck_sdu (s : State) : (rolloverCheck s).sdu = s.sdu := by
  simp only [rolloverCheck]
  split
  · rfl
  · split
    · rfl
    · split
      · exact (weekRollover_sdu _).trans (dayRollover_sdu _ _ s)
      · rfl

theorem tickChild_sdu (c : Fin 7) (s : State) : (tickChild c s).sdu = s.sdu := by
  have warned : ∀ t, (warningTest c t).sdu = t.sdu := fun t => by
    unfold warningTest
    split
    · exact setUsage_sdu t c _
    · rfl
  have granted : ∀ t, (grantExtension c t).sdu = t.sdu := fun t => by
    unfold grantExtension
    split
    · rfl
    · exact setUsage_sdu t c _
  have exhausted : ∀ t, (exhaustionTest c t).sdu = t.sdu := fun t => by
    unfold exhaustionTest
    split
    · exact (granted _).trans (setUsage_sdu t c _)
    · rfl
  unfold tickChild
  split
  · exact ((exhausted _).trans (warned _)).trans (setUsage_sdu s c _)
  · rfl

/-- What stands before the reports of a tick differs from the state before it, of the slots, by the frame counts (R135). -/
theorem tickBeforeReports_slot (s : State) (i : Fin 4) :
    (tickBeforeReports s).slot i = { s.slot i with frames := 0 } := by
  have charged : (zeroFrames (forChildren tickChild (rolloverCheck s))).slot i = { s.slot i with frames := 0 } := by
    rw [zeroFrames_slot, slot_of_sdu _ _ (sdu_forChildren tickChild tickChild_sdu _), slot_of_sdu _ _ (rolloverCheck_sdu s)]
  simp only [tickBeforeReports]
  split
  · rw [slot_of_sdu _ _ (recomputeCurfews_sdu _), charged]
  · exact charged

theorem slotLaws_tickBody (s : State) : SlotLawsKept s (tickBody s) := by
  refine slotLaws_reportDiffering fun i => ?_
  rw [tickBeforeReports_slot]
  exact ⟨rfl, rfl, rfl, rfl, rfl⟩

/-! ### CLOCK_SET (R117, R152) -/

/-- Where every slot is re-evaluated, every slot holds to both laws. -/
theorem reevaluateWhere_all_laws (s : State) (i : Fin 4) :
    ((reevaluateWhere (fun _ => true) s).slot i).Enforced
      ∧ ((reevaluateWhere (fun _ => true) s).slot i).InTime (reevaluateWhere (fun _ => true) s).usage := by
  obtain ⟨t, only, became⟩ := reevaluateWhere_picked (fun _ => true) s i rfl
  rw [became, usage_of_records (congrArg VTU.usage (reevaluateWhere_vtu s _)),
    ← usage_of_records (congrArg VTU.usage only.vtu)]
  exact ⟨reevaluatedAt_enforced _ t _, reevaluatedAt_inTime _ t _⟩

theorem slotLaws_setClock (wall : Nat) (zone : Int) (s : State) : SlotLawsKept s (setClock wall zone s) := by
  unfold setClock clockToSlots
  exact ⟨fun i _ => (reevaluateWhere_all_laws _ i).1, fun i _ => (reevaluateWhere_all_laws _ i).2⟩

end Sys2Proof.Machine
end

section
/-! PROOFS. The laws of the slot records under the records' owners, the guide and the ingest (R71, R77, R84 to R95, R119 to
R127). -/

namespace Sys2Proof.Machine

/-! ### The guide, the profiles and the service table -/

/-- A new table content whose services are reported (R71). -/
theorem slotLaws_reportEntries (l : List Nat) (table : List Entry) (s : State) :
    SlotLawsKept s (reportServices l (s.setEntries table)) := by
  have stored : SlotLawsKept s (s.setEntries table) := slotLaws_of_blocks rfl rfl
  exact stored.trans (slotLaws_reportServices l _)

theorem slotLaws_applyInsert (e : Entry) (r : InsertResult) (s : State) : SlotLawsKept s (applyInsert e r s) := by
  unfold applyInsert
  split
  · exact slotLaws_reportEntries _ _ s
  · exact .refl s
  · exact .refl s

theorem slotLaws_withdraw (k : Key) (s : State) : SlotLawsKept s (withdraw k s) := slotLaws_reportEntries _ _ s

theorem slotLaws_endIngest (g : Ingest) (outcome : ReplyCode) (s : State) : SlotLawsKept s (endIngest g outcome s) :=
  slotLaws_of_blocks rfl rfl

theorem slotLaws_setChild (s : State) (c : Fin 7) (p : Profile) : SlotLawsKept s (s.setChild c p) :=
  slotLaws_of_blocks rfl rfl

theorem slotLaws_lowerCarry (c : Fin 7) (s : State) : SlotLawsKept s (lowerCarry c s) := by
  unfold lowerCarry
  split
  · refine SlotLawsKept.trans (slotLaws_setUsage ?_) (slotLaws_markDirty _ _)
    exact fun exhausted => ⟨exhausted, rfl⟩
  · exact .refl s

theorem slotLaws_createProfile (c : Fin 7) (p : Profile) (s : State) : SlotLawsKept s (createProfile c p s) := by
  have stored := slotLaws_setChild s c { p with suspended := false, curfews := [] }
  refine (stored.trans (slotLaws_setUsage (c := c) (u := .zero) nofun)).trans ?_
  exact slotLaws_of_blocks rfl rfl

theorem slotLaws_storeProfile (c : Fin 7) (p : Profile) (s : State) : SlotLawsKept s (storeProfile c p s) := by
  unfold storeProfile
  refine SlotLawsKept.trans (SlotLawsKept.trans ?_ (slotLaws_markDirty _ _)) (slotLaws_reportProfile _ _)
  split
  · exact ((slotLaws_setChild s c p).trans (slotLaws_lowerCarry c _)).trans (slotLaws_restore c _)
  · exact slotLaws_createProfile c p s

theorem slotLaws_recomputeCurfew (c : Fin 7) (s : State) : SlotLawsKept s (recomputeCurfew c s) := by
  unfold recomputeCurfew
  split
  · exact slotLaws_of_blocks rfl rfl
  · exact .refl s

theorem slotLaws_storeCurfews (c : Fin 7) (cs : List Curfew) (s : State) : SlotLawsKept s (storeCurfews c cs s) :=
  (((slotLaws_setChild s c _).trans (slotLaws_recomputeCurfew c _)).trans (slotLaws_markDirty _ _)).trans
    (slotLaws_reportProfile _ _)

theorem slotLaws_setSuspended (c : Fin 7) (b : Bool) (s : State) : SlotLawsKept s (setSuspended c b s) :=
  ((slotLaws_setChild s c _).trans (slotLaws_markDirty _ _)).trans (slotLaws_reportProfile _ _)

/-- A removed profile has no time to use up (R101). -/
theorem slotLaws_dropProfile (c : Fin 7) (s : State) : SlotLawsKept s (dropProfile c s) := by
  obtain ⟨-, zero, -, sdu, -⟩ := dropProfile_made c s
  have usages := (onlyChild_dropProfile c s).usages
  refine ⟨fun i law => ?_, fun i law => ?_⟩ <;> rw [slot_of_sdu _ _ sdu]
  · exact law
  · refine law.eased fun d _ => ?_
    by_cases same : d = c
    · rw [same, zero]
      exact nofun
    · rw [usages d same]
      exact fun exhausted => ⟨exhausted, rfl⟩

theorem slotLaws_storeServices (n : Nat) (t : List ServiceEntry) (s : State) :
    SlotLawsKept s (storeServices n t s) := by
  have stored : SlotLawsKept s ({ s with pss.services := t }.markDirty .services) := slotLaws_of_blocks rfl rfl
  exact stored.trans (slotLaws_reportServiceEntry n _)

/-- A grant and a reset leave the exhausted flag and the extension to the restoration (R144, R176). -/
theorem granted_eases (u : Usage) (minutes : Nat) : u.Eases (u.granted minutes) := fun exhausted => ⟨exhausted, rfl⟩

theorem reset_eases (u : Usage) (week : Bool) : u.Eases (u.reset week) := fun exhausted => ⟨exhausted, rfl⟩

/-- What every record command's own effect keeps. -/
theorem slotLaws_handlerOf (i : Instr) (H : Handler) (h : handlerOf i = some H) (x : TakeCtx) (s : State) :
    SlotLawsKept s (H.act x s).state := by
  cases i <;> simp only [handlerOf, Option.some.injEq, reduceCtorEq] at h <;> subst h
  case readEvent | ratingCheck | readProfile | readUsage | readSlot | readService | readCapture | readWindow =>
    simp only [readEvent, ratingCheck, readProfile, readUsage, readSlot, readService, readCapture, readWindow,
      Handler.free]
    repeat' split
    all_goals exact .refl s
  case attentionSet | attentionClear | captureClear | pinSet | settingsWrite | lanePermit | ingestBegin | windowLock
      | fillTileWrite =>
    simp only [attentionSet, attentionClear, captureClear, pinSet, settingsWrite, lanePermit, ingestBegin, windowLock,
      fillTileWrite, Handler.free, Handler.gated]
    repeat' split
    all_goals exact slotLaws_of_blocks rfl rfl
  case eventNotice | eventWithdraw | serviceEventsClear | clockSet | ingestAbort =>
    simp only [eventNotice, eventWithdraw, serviceEventsClear, clockSet, ingestAbort, Handler.free]
    repeat' split
    all_goals simp only [accept_state, refuse_state, SlotLawsKept.refl, slotLaws_applyInsert, slotLaws_withdraw,
      slotLaws_reportEntries, slotLaws_setClock, slotLaws_endIngest]
  case slotTune | slotBind | slotUnlock | slotRelock =>
    simp only [slotTune, tuneSlot, slotBind, slotUnlock, unlockSlot, slotRelock, relockSlot, Handler.free,
      Handler.gated]
    repeat' split
    all_goals simp only [accept_state, refuse_state, SlotLawsKept.refl, slotLaws_bindSlot, slotLaws_reevaluateAs]
  case profileWrite | profileCurfew | profileSuspend | profileResume | profileRemove =>
    simp only [profileWrite, profileCurfew, profileSuspend, profileResume, profileRemove, Handler.gated]
    repeat' split
    all_goals simp only [accept_state, refuse_state, SlotLawsKept.refl, slotLaws_storeProfile, slotLaws_storeCurfews,
      slotLaws_setSuspended, slotLaws_dropProfile]
  case serviceWrite | serviceRemove | allowanceGrant | usageReset =>
    simp only [serviceWrite, serviceRemove, allowanceGrant, usageReset, Handler.gated]
    repeat' split
    all_goals simp only [accept_state, refuse_state, SlotLawsKept.refl, slotLaws_storeServices,
      slotLaws_restoreUsage (granted_eases _ _), slotLaws_restoreUsage (reset_eases _ _)]
  case windowDefine | windowRemove =>
    simp only [windowDefine, windowRemove, Handler.free]
    repeat' split
    all_goals simp only [accept_state, refuse_state, SlotLawsKept.refl, slotLaws_changeWindows]

theorem keptByTaking_slotLaws : KeptByTaking SlotLawsKept where
  refl := .refl
  trans := SlotLawsKept.trans
  acts := slotLaws_handlerOf
  matched s := (onlyCount_setFailures s 0).slotLaws
  failed s := (onlyCount_failCompare s).slotLaws
  replied _ _ _ _ _ _ _ _ := slotLaws_of_blocks rfl rfl
  advanced _ _ := slotLaws_of_blocks rfl rfl
  committed s := (onlyCommit_startCommit s).slotLaws
  staged _ _ _ _ := slotLaws_of_blocks rfl rfl
  misplaced s _ _ _ _ := slotLaws_report s _ _ _ _ _

/-! ### An ingest -/

theorem slotLaws_processRecord (core : EventCore) (s : State) : SlotLawsKept s (processRecord core s).1 := by
  unfold processRecord
  split
  · simp only
    split
    · exact .refl s
    · exact slotLaws_withdraw _ s
  · split
    · exact .refl s
    · exact slotLaws_applyInsert _ _ s

theorem slotLaws_advanceIngest (g : Ingest) (s : State) : SlotLawsKept s (advanceIngest g s) := by
  simp only [advanceIngest]
  split
  · exact slotLaws_endIngest _ _ s
  · exact slotLaws_of_blocks rfl rfl

theorem slotLaws_ingestDelivery (d : Delivery) (s : State) : SlotLawsKept s (ingestDelivery d s) := by
  cases running : s.prt.ingest with
  | none => simp only [ingestDelivery, running]; exact .refl s
  | some g =>
    have gathered : SlotLawsKept s (s.gathered d) := slotLaws_of_blocks rfl rfl
    by_cases place : d.block - d.block % 32 = g.next <;> cases closes : d.closesIngest
    · rw [ingestDelivery_gathers d s g running place closes]
      exact gathered
    · rw [ingestDelivery_closing d s g running place closes]
      exact (gathered.trans (slotLaws_processRecord _ _)).trans (slotLaws_advanceIngest _ _)
    · rw [ingestDelivery_ignored d s g running place closes]
      exact .refl s
    · rw [ingestDelivery_misplaced d s g running place closes]
      exact (slotLaws_report s _ _ _ _ _).trans (slotLaws_endIngest g .aborted _)

end Sys2Proof.Machine
end

section
/-! PROOFS. The laws of the slot records under the channel, the timers, the store and start-up: every step keeps them (R36,
R104 to R111, R113, R115, R121, R127, R189). -/

namespace Sys2Proof.Machine

/-! ### The channel -/

/-- A classification moves slots by frame starts alone (R36). -/
theorem slotLaws_classify (dir : Dir) (len block : Nat) (ba : BitVec 3) (row : BitVec 16) (col : Nat) (s : State) :
    SlotLawsKept s (classify dir len block ba row col s).state := by
  cases dir with
  | write =>
    have vtu : (classifyWrite block ba row.toNat col s).state.vtu = s.vtu := by
      unfold classifyWrite
      split
      · rfl
      · split
        case h_2 => exact report_vtu s _ _ _ _ _
        all_goals rfl
    exact slotLaws_of_blocks (classifyWrite_sdu _ _ _ _ s) (congrArg VTU.usage vtu)
  | read =>
    simp only [classify, classifyRead]
    split
    · exact .refl s
    · split
      case h_4 w _ _ _ =>
        have started := slotLaws_takeFrameStart w.slot s
        unfold classifyPictureRead
        split
        · simp only
          split
          · refine started.trans (SlotEdit.slotLaws ?_)
            exact ⟨rfl, rfl, rfl, rfl, rfl⟩
          · exact started
          · exact started
        · split <;> exact .refl s
      case h_5 => split <;> exact .refl s
      all_goals exact .refl s

theorem slotLaws_setBank (s : State) (ba : BitVec 3) (x : Option (BitVec 16)) : SlotLawsKept s (s.setBank ba x) :=
  slotLaws_of_blocks rfl rfl

theorem slotLaws_columnOpen (dir : Dir) (ba : BitVec 3) (row a : BitVec 16) (s : State) :
    SlotLawsKept s (columnOpen dir ba row a s) := by
  have moved := slotLaws_classify dir (burstLength s.ct.form (burstSelect a)) (columnBlock s ba row a) ba row
    (columnOf a) s
  simp only [columnOpen]
  generalize classify dir _ _ ba row _ s = c at moved ⊢
  have entered : ∀ b, SlotLawsKept s (if s.hasRoom then pushBurst b c.state else s) := fun b => by
    split
    · refine moved.trans ?_
      exact slotLaws_of_blocks rfl rfl
    · exact .refl s
  split
  · exact (entered _).trans (slotLaws_setBank _ ba none)
  · exact entered _

/-- What the lines of a command do where it is no MODE LOAD (R2 to R9). -/
theorem slotLaws_commandEffect (l : Lines) (s : State) (h : l.group ≠ .mode) : SlotLawsKept s (commandEffect l s) := by
  have usage := congrArg VTU.usage (commandEffect_line l s h).1.only.vtu
  unfold commandEffect at usage ⊢
  split at usage
  · exact .refl s
  · exact .refl s
  · exact slotLaws_of_blocks (openBank_sdu _ _ s) usage
  · unfold columnCommand at usage ⊢
    split at usage
    · exact slotLaws_of_blocks (columnClosed_spec _ _ _ s).2.2.1 usage
    · exact slotLaws_columnOpen _ _ _ _ s
  · refine slotLaws_of_blocks ?_ usage
    split <;> rfl
  · exact slotLaws_of_blocks (refreshBanks_spec s).2.2.2 usage
  next mode => exact absurd mode h

theorem slotLaws_present (l : Lines) (s : State) : SlotLawsKept s (present l s) := by
  have driven : SlotLawsKept s (driveLines l s) := slotLaws_of_blocks rfl rfl
  cases h : s.decodes with
  | false =>
    rw [present_passed l s h]
    exact slotLaws_of_blocks rfl rfl
  | true =>
    rw [present_decoded l s h]
    refine driven.trans ?_
    by_cases mode : l.group = .mode
    · have moved : SlotLawsKept (driveLines l s) (movedByMode l.ba l.a (driveLines l s)) := slotLaws_of_blocks rfl rfl
      rw [show commandEffect l (driveLines l s) = modeEffect l.ba l.a (driveLines l s) by simp [commandEffect, mode]]
      rcases modeEffect_cases l.ba l.a (driveLines l s) with ⟨-, e⟩ | ⟨-, -, e⟩ | ⟨-, -, e⟩ <;> rw [e]
      · exact slotLaws_of_blocks rfl rfl
      · exact moved
      · exact moved.trans (keptByTaking_slotLaws.resumeTaking _)
    · exact slotLaws_commandEffect l _ mode

/-- A fall of clock enable moves no slot (R19, R20). -/
theorem slotLaws_fallEnable (l : Lines) (s : State) : SlotLawsKept s (fallEnable l s) := by
  refine slotLaws_of_blocks ?_ (congrArg VTU.usage (fallEnable_only l s).vtu)
  simp only [fallEnable, fallingEffect]
  split
  · split
    · exact (refreshBanks_spec (driveLines l s)).2.2.2
    · rfl
  · rfl

theorem slotLaws_riseEnable (s : State) : SlotLawsKept s (riseEnable s) := by
  refine slotLaws_of_blocks ?_ (congrArg VTU.usage (riseEnable_only s).vtu)
  unfold riseEnable
  split
  · rfl
  · split <;> rfl

/-- A channel reset zeroes the frame counts (R22). -/
theorem slotLaws_lineReset (s : State) :
    SlotLawsKept s (assertLine (if s.isReleased then resetChannel s else s)) := by
  split
  · have before : SlotLawsKept s (resetBeforeFrames s) := by rw [resetBeforeFrames_eq]; exact slotLaws_of_blocks rfl rfl
    exact (before.trans (slotLaws_zeroFrames _)).trans (slotLaws_of_blocks rfl rfl)
  · exact slotLaws_of_blocks rfl rfl

theorem BeatCase.slotLaws {s t : State} (h : BeatCase s t) : SlotLawsKept s t := by
  have last : ∀ out index, SlotLawsKept s (lastBeat out index s) := fun _ _ => slotLaws_of_blocks rfl rfl
  cases h with
  | unlisted out => exact slotLaws_of_blocks rfl rfl
  | counted out index b c => exact slotLaws_of_blocks rfl rfl
  | finished out index => exact last out index
  | toLane out index _ _ lane ring d => exact (last out index).trans (keptByTaking_slotLaws.laneDelivery lane ring d _)
  | toIngest out index _ _ d => exact (last out index).trans (slotLaws_ingestDelivery d _)

/-! ### Timers -/

theorem slotLaws_whenDue (due : State → Bool) (act : State → State) (h : ∀ s, SlotLawsKept s (act s)) (s : State) :
    SlotLawsKept s (whenDue due act s) := by
  unfold whenDue
  split
  · exact h s
  · exact .refl s

theorem slotLaws_expireBoundary (i : Fin 4) (s : State) : SlotLawsKept s (expireBoundary i s) :=
  slotLaws_reevaluateAs i _ s

theorem slotLaws_expireHold (i : Fin 4) (s : State) : SlotLawsKept s (expireHold i s) := slotLaws_reevaluateAs i _ s

theorem slotLaws_expireUnlock (i : Fin 4) (s : State) : SlotLawsKept s (expireUnlock i s) := slotLaws_placeJudged i _ _ s

/-- A remaining length is no part of an item's key (R104). -/
theorem withoutLength_key (item : Item) (current : Option Key) :
    itemKey item.withoutLength current = itemKey item current := by
  cases item <;> rfl

theorem second_key (item : Item) (current : Option Key) : itemKey item.second current = itemKey item current := by
  cases item <;> rfl

theorem slotLaws_expireLength (i : Fin 4) (s : State) : SlotLawsKept s (expireLength i s) := by
  refine SlotEdit.slotLaws ?_
  exact ⟨rfl, rfl, rfl, rfl, withoutLength_key _ _⟩

theorem slotLaws_fallCountdown (i : Fin 4) (s : State) : SlotLawsKept s (fallCountdown i s) := by
  unfold fallCountdown
  split
  · refine SlotEdit.slotLaws ?_
    exact ⟨rfl, rfl, rfl, rfl, rfl⟩
  · split
    · exact slotLaws_applyPending i s
    · refine SlotEdit.slotLaws ?_
      exact ⟨rfl, rfl, rfl, rfl, rfl⟩

theorem slotLaws_expireUsageAge (c : Fin 7) (s : State) : SlotLawsKept s (expireUsageAge c s) :=
  (onlyCommit_expireUsageAge c s).slotLaws

theorem slotLaws_flushSlot (i : Fin 4) (s : State) : SlotLawsKept s (flushSlot i s) :=
  ((((slotLaws_whenDue _ _ (slotLaws_expireBoundary i) s).trans
    (slotLaws_whenDue _ _ (slotLaws_expireHold i) _)).trans
    (slotLaws_whenDue _ _ (slotLaws_expireUnlock i) _)).trans
    (slotLaws_whenDue _ _ (slotLaws_fallCountdown i) _)).trans
    (slotLaws_whenDue _ _ (slotLaws_expireLength i) _)

theorem slotLaws_flushChild (c : Fin 7) (s : State) : SlotLawsKept s (flushChild c s) :=
  (slotLaws_whenDue _ _ (slotLaws_expireExtension c) s).trans (slotLaws_whenDue _ _ (slotLaws_expireUsageAge c) _)

theorem beginSecond_slot (s : State) (i : Fin 4) : (beginSecond s).slot i = (s.slot i).second := by
  simp [beginSecond, State.slot]

theorem slotLaws_beginSecond (s : State) : SlotLawsKept s (beginSecond s) := by
  have edit : ∀ i, SlotEdit (s.slot i) ((beginSecond s).slot i) := fun i => by
    rw [beginSecond_slot]
    exact ⟨rfl, rfl, rfl, rfl, second_key _ _⟩
  exact ⟨fun i => (edit i).enforced, fun i => (edit i).inTime⟩

theorem slotLaws_expireLockout (s : State) : SlotLawsKept s (expireLockout s) := slotLaws_of_blocks rfl rfl

theorem slotLaws_nextSecond (s : State) : SlotLawsKept s (nextSecond s) :=
  (((slotLaws_whenDue _ _ slotLaws_expireLockout s).trans (slotLaws_forSlots _ slotLaws_flushSlot _)).trans
    (slotLaws_forChildren _ slotLaws_flushChild _)).trans (slotLaws_beginSecond _)

/-- An expiry does its own act, at once or in the next second, or nothing (log 3). -/
theorem slotLaws_expiry (due : State → Bool) (act : State → State) (h : ∀ s, SlotLawsKept s (act s)) (s : State) :
    SlotLawsKept s (expiry due act s) := by
  unfold expiry
  repeat' split
  · exact h s
  · exact .refl s
  · exact (slotLaws_nextSecond s).trans (h _)
  · exact .refl s
  · exact .refl s

theorem slotLaws_accountingTick (s : State) : SlotLawsKept s (accountingTick s) := by
  have ticked : ∀ t, SlotLawsKept t (startCommit (tickBody { t with vtu.tickDue := false })) := fun t => by
    have begun : SlotLawsKept t { t with vtu.tickDue := false } := slotLaws_of_blocks rfl rfl
    exact (begun.trans (slotLaws_tickBody _)).trans (onlyCommit_startCommit _).slotLaws
  simp only [accountingTick]
  split
  · split
    · exact ticked s
    · exact (slotLaws_nextSecond s).trans (ticked _)
  · exact .refl s

/-! ### The store, start-up and the part reset -/

theorem slotLaws_afterWrite (s : State) : SlotLawsKept s (afterWrite s) := by
  have reopened : SlotLawsKept s { s with sc.writing := none, sc.failed := Vector.replicate 18 false } :=
    slotLaws_of_blocks rfl rfl
  have ended : SlotLawsKept s { s with sc.writing := none } := slotLaws_of_blocks rfl rfl
  simp only [afterWrite, continueClear, continueCommit]
  split
  · split
    · exact (onlyCommit_beginWrite _ s).slotLaws
    · exact slotLaws_fresh fun i => ⟨_, finishLoad_slot s i⟩
  · split
    · exact ended.trans (onlyCommit_beginWrite _ _).slotLaws
    · exact reopened.trans (onlyCommit_startCommit _).slotLaws

theorem slotLaws_completeWrite (s : State) : SlotLawsKept s (completeWrite s) := by
  unfold completeWrite
  split <;> exact slotLaws_of_blocks rfl rfl

theorem slotLaws_failWrite (s : State) : SlotLawsKept s (failWrite s) := by
  unfold failWrite
  split <;> exact slotLaws_of_blocks rfl rfl

theorem inReset_slot (store : Store) (arr : Arrangement) (cb : Byte) (pins : Pins) (queue : List Instr) (i : Fin 4) :
    (State.inReset store arr cb pins queue).slot i = Slot.atReset 0 := by
  simp [State.slot, State.inReset]

theorem release_slot (arr : Bool) (cb : Byte) (fclr : Bool) (s : State) (i : Fin 4) :
    ∃ p, (release arr cb fclr s).slot i = Slot.atReset p := by
  cases fclr with
  | true =>
    rw [release_clear, slot_of_sdu _ _ (beginClear_frame (s.sampled arr cb)).sdu]
    exact ⟨0, inReset_slot s.sc.store (if arr then .brc else .rbc) cb s.ct.toPins s.pending i⟩
  | false =>
    rw [release_load]
    exact ⟨_, finishLoad_slot _ i⟩

theorem slotLaws_endStartup (order : List (Fin 4)) (s : State) : SlotLawsKept s (endStartup order s) := by
  have running : SlotLawsKept s { s with phase := .running, vtu.tickDue := false } := slotLaws_of_blocks rfl rfl
  simp only [endStartup]
  split
  · exact slotLaws_of_blocks rfl rfl
  · exact running.trans (keptByTaking_slotLaws.takeAll order _)

/-! ### Every run -/

theorem exec_slotLaws (i : Instr) (s : State) : ∃ t, exec i s = .next t ∧ SlotLawsKept s t := by
  have timer : ∀ due act, (∀ t, SlotLawsKept t (act t)) → SlotLawsKept s (expiry due act s) := fun due act kept =>
    slotLaws_expiry due act kept s
  have closes : ∀ j, SlotLawsKept s (closeRecord j (handlerOf j) s) := fun j => by
    unfold closeRecord
    split
    · exact keptByTaking_slotLaws.presentRecord j _ _ _ s
    · exact .refl s
  cases record : (handlerOf i).isSome with
  | true => exact ⟨_, exec_record i record s, closes i⟩
  | false =>
    cases i
    case bankOpen | readBurst | writeBurst | bankClose | closeAll | refresh | modeLoad =>
      exact ⟨_, rfl, slotLaws_present _ s⟩
    case restEntry | idleEntry => exact ⟨_, rfl, slotLaws_fallEnable _ s⟩
    case restExit | idleExit => exact ⟨_, rfl, slotLaws_riseEnable s⟩
    case channelReset => exact ⟨_, rfl, slotLaws_lineReset s⟩
    case dataBeat => exact ⟨_, rfl, (passBeat_case _ _ _ _ s).slotLaws⟩
    case unknownCommand hd code =>
      refine ⟨_, rfl, ?_⟩
      split
      · exact closes (.unknownCommand hd code)
      · exact .refl s
    case lockoutExpiry => exact ⟨_, rfl, timer _ _ slotLaws_expireLockout⟩
    case accountingTick => exact ⟨_, rfl, slotLaws_accountingTick s⟩
    case extensionExpiry c => exact ⟨_, rfl, timer _ _ (slotLaws_expireExtension c)⟩
    case boundaryExpiry n => exact ⟨_, rfl, timer _ _ (slotLaws_expireBoundary n)⟩
    case holdExpiry n => exact ⟨_, rfl, timer _ _ (slotLaws_expireHold n)⟩
    case unlockExpiry n => exact ⟨_, rfl, timer _ _ (slotLaws_expireUnlock n)⟩
    case pendingCountdown n => exact ⟨_, rfl, timer _ _ (slotLaws_fallCountdown n)⟩
    case countdownExpiry n => exact ⟨_, rfl, timer _ _ (slotLaws_applyPending n)⟩
    case recordingLengthExpiry n => exact ⟨_, rfl, timer _ _ (slotLaws_expireLength n)⟩
    case usageAgeExpiry c => exact ⟨_, rfl, timer _ _ (slotLaws_expireUsageAge c)⟩
    case storeWriteComplete =>
      refine ⟨_, rfl, ?_⟩
      split
      · exact (slotLaws_completeWrite s).trans (slotLaws_afterWrite _)
      · exact .refl s
    case storeWriteFail =>
      refine ⟨_, rfl, ?_⟩
      split
      · exact (slotLaws_failWrite s).trans (slotLaws_afterWrite _)
      · exact .refl s
    case partReset => exact ⟨_, rfl, slotLaws_fresh fun i => ⟨0, inReset_slot _ _ _ _ _ i⟩⟩
    case partResetRelease arr cb fclr =>
      refine ⟨_, rfl, ?_⟩
      split
      · exact .refl s
      · exact slotLaws_fresh (release_slot arr cb fclr s)
    case startupEnd order =>
      refine ⟨_, rfl, ?_⟩
      split
      · exact slotLaws_endStartup order s
      · exact .refl s
    case startupSecond =>
      refine ⟨_, rfl, ?_⟩
      split
      · exact slotLaws_of_blocks rfl rfl
      · exact .refl s
    all_goals exact absurd record.symm Bool.false_ne_true

/-- What every step keeps of the slot records' laws. -/
theorem step_slotLaws {s t : State} (h : step s = .next t) : SlotLawsKept s t := by
  unfold step at h
  split at h
  · cases h
    exact .refl s
  next c rest _ =>
    obtain ⟨u, runs, kept⟩ := exec_slotLaws c { s with pending := rest }
    obtain rfl : u = t := Host.Outcome.next.inj (runs.symm.trans h)
    exact ⟨kept.enforced, kept.inTime⟩

end Sys2Proof.Machine
end

section
open Sys2Proof Sys2Proof.Machine

/-- Settles O48: a slot record is judged afresh by the table of R110, moved to SHOWING out of RELEASING, or edited apart from
what the law speaks of. -/
theorem enforcementAgreesKept : Obligations.EnforcementAgreesKept := by
  intro s t agrees h
  rw [enforcementAgrees_iff] at agrees ⊢
  exact fun i => (step_slotLaws h).enforced i (agrees i)

end

section
open Sys2Proof Sys2Proof.Machine

/-- Settles O50: whatever uses up a profile's time or ends its extension reports the profile, and the report judges its slots
by gate 5. -/
theorem timeOutHidesKept : Obligations.TimeOutHidesKept := by
  intro s t hides h
  rw [timeOutHides_iff] at hides ⊢
  exact fun i => (step_slotLaws h).inTime i (hides i)

end

section
/-! PROOFS. The timers of a slot: the boundary, the hold, the unlock, the countdown of a pending profile and the remaining
length of a recording (R104, R113, R116, R118, R121, R126, R127). -/

namespace Sys2Proof.Machine

/-! ### When an expiry acts (logs 3 and 8) -/

/-- An expiry that is not due, in a second whose tick is still to come, changes nothing. -/
theorem expiry_waits {due : State → Bool} {act : State → State} {s : State} (tick : s.vtu.tickDue = true)
    (early : due s = false) : expiry due act s = s := by
  simp only [expiry, early, tick, Bool.false_eq_true, if_false, if_true, ite_self]

/-! ### Placing a judged record (R112, R113) -/

/-- Between `s` and `t` slot `i` alone moved, and of the rest at most DECISION was raised (R112). -/
structure SlotPlaced (s t : State) (i : Fin 4) : Prop where
  others : OtherSlotsKept s t i
  raised : RaisedAtMostDecision s t
  frame : t = { s with sdu := t.sdu, au := t.au }

theorem OnlySlots.frame {s t : State} (h : OnlySlots s t) : t = { s with sdu := t.sdu, au := t.au } := by
  obtain ⟨phase, ct, wd, lc, prt, pss, vtu, sc, pending, -, -, -, -⟩ := h
  cases t
  simp only at phase ct wd lc prt pss vtu sc pending
  subst phase ct wd lc prt pss vtu sc pending
  rfl

theorem slotPlaced_placeSlot (i : Fin 4) (y : Slot) (s : State) : SlotPlaced s (placeSlot i y s) i :=
  ⟨fun j other => placeSlot_slot_other i j y s other, (onlySlots_placeSlot i y s).status, (onlySlots_placeSlot i y s).frame⟩

/-- What a re-evaluation does not set is that of the record judged (R113). -/
theorem slotBasis_placeJudged {i : Fin 4} {x : Slot} {s : State} (pos : Option Entry × Option Nat)
    (item : x.item = (s.slot i).item) (bound : x.bound = (s.slot i).bound) (pending : x.pending = (s.slot i).pending)
    (picture : x.picture = (s.slot i).picture) (frames : x.frames = (s.slot i).frames) :
    SlotBasisKept s (placeSlot i (reevaluatedAt pos s x) s) i := by
  obtain ⟨item', bound', pending', picture', frames'⟩ := reevaluatedAt_basis pos s x
  refine ⟨?_, ?_, ?_, ?_, ?_⟩ <;> rw [placeSlot_slot]
  · exact item'.trans item
  · exact bound'.trans bound
  · exact pending'.trans pending
  · exact picture'.trans picture
  · exact frames'.trans frames

theorem placeJudged_hiding (i : Fin 4) (pos : Option Entry × Option Nat) (x : Slot) (s : State) :
    ((placeSlot i (reevaluatedAt pos s x) s).slot i).enforcement = .hiding
      ↔ ((placeSlot i (reevaluatedAt pos s x) s).slot i).decision.permits = false := by
  rw [placeSlot_slot]
  exact nextEnforcement_hiding _ _ _

/-! ### The decisions a record cannot have (R107 to R109) -/

theorem serviceGate_decides {t : List ServiceEntry} {p : Fin 8} {mode : ServiceMode} {service : Nat} {v : Verdict}
    (gate : serviceGate t p mode service = some v) : v.decision = .clear ∨ v.decision = .blocked .service := by
  unfold serviceGate at gate
  repeat' split at gate
  all_goals cases gate
  · exact .inr rfl
  · exact .inl rfl
  · exact .inr rfl
  · exact .inr rfl

/-- No gate waits for a rating (R107). -/
theorem gates_decide {s : State} {p : Fin 8} {curfew : Bool} {item : Item} {key : Option ItemKey} {v : Verdict}
    (gate : gates s p curfew item key = some v) : v.decision ≠ .pending ∧ v.decision ≠ .unlocked := by
  unfold gates at gate
  repeat' split at gate
  · cases gate; exact ⟨nofun, nofun⟩
  · cases gate; exact ⟨nofun, nofun⟩
  · cases gate; exact ⟨nofun, nofun⟩
  · cases gate; exact ⟨nofun, nofun⟩
  · obtain ⟨service, -, gate⟩ := Option.bind_eq_some_iff.mp gate
    rcases serviceGate_decides gate with decides | decides <;> rw [decides] <;> exact ⟨nofun, nofun⟩

/-- Steps 7 to 10 give PENDING to a held item alone, and never UNLOCKED (R108). -/
theorem judgeRatings_decides (p : Profile) (ratings : List Rating) (flags : BitVec 8) (held : Bool) :
    ((judgeRatings p ratings flags held).decision = .pending → held = true)
      ∧ (judgeRatings p ratings flags held).decision ≠ .unlocked := by
  unfold judgeRatings
  repeat' split
  next holds => exact ⟨fun _ => holds, nofun⟩
  all_goals exact ⟨nofun, nofun⟩

theorem judge_decides (s : State) (p : Fin 8) (curfew : Bool) (item : Item) (event : Option Entry) (held : Bool) :
    ((judge s p curfew item event held).decision = .pending → held = true)
      ∧ (judge s p curfew item event held).decision ≠ .unlocked := by
  unfold judge
  split
  next v gate =>
    obtain ⟨notPending, notUnlocked⟩ := gates_decide gate
    exact ⟨fun pending => absurd pending notPending, notUnlocked⟩
  next => exact judgeRatings_decides _ _ _ _

/-- A slot is PENDING while its hold runs, and UNLOCKED while it holds an unlock (R108, R109). -/
theorem decideSlot_decides (s : State) (x : Slot) (event : Option Entry) :
    (decideSlot s x event = .pending → x.hold.isRunning = true)
      ∧ (decideSlot s x event = .unlocked → x.unlock.isSome = true) := by
  unfold decideSlot
  split
  · exact ⟨nofun, nofun⟩
  all_goals
    obtain ⟨holds, locked⟩ := judge_decides s x.bound (s.curfewHeld x.bound) _ event
      (unratedGap s.pss.services _ event && x.hold.isRunning)
    simp only
    split
    next lifted => exact ⟨nofun, fun _ => ((Bool.and_eq_true _ _).mp lifted).2⟩
    next => exact ⟨fun pending => ((Bool.and_eq_true _ _).mp (holds pending)).2, fun unlocked => absurd unlocked locked⟩

theorem reevaluatedAt_notPending {pos : Option Entry × Option Nat} {s : State} {x : Slot}
    (idle : (reevaluatedAt pos s x).hold.isRunning = false) : (reevaluatedAt pos s x).decision ≠ .pending := fun pending =>
  Bool.false_ne_true (idle.symm.trans ((decideSlot_decides s _ pos.1).1 pending))

/-- A record judged without an unlock has none, and is not UNLOCKED (R109, R113). -/
theorem reevaluatedAt_locked {pos : Option Entry × Option Nat} {s : State} {x : Slot} (locked : x.unlock = none) :
    (reevaluatedAt pos s x).unlock = none ∧ (reevaluatedAt pos s x).decision ≠ .unlocked := by
  have none : (reevaluatedAt pos s x).unlock = none := by
    rw [reevaluatedAt, locked]
    rfl
  refine ⟨none, fun unlocked => ?_⟩
  have some : (reevaluatedAt pos s x).unlock.isSome = true := (decideSlot_decides s _ pos.1).2 unlocked
  rw [none] at some
  exact Bool.false_ne_true some

/-! ### The boundary (R116) -/

theorem position_live (s : State) (service w : Nat) (wall : s.wallNow = some w) :
    position s (.live service) = (currentEvent s.prt.entries service w, nextBoundary s.prt.entries service w) := by
  simp only [position, wall]

section
variable (i : Fin 4) (s : State)

/-- The boundary's expiry judges the slot where the table puts it now. -/
theorem expireBoundary_position (service w : Nat) (live : (s.slot i).item = .live service) (wall : s.wallNow = some w) :
    ((expireBoundary i s).slot i).current = (currentEvent s.prt.entries service w).map Entry.key
      ∧ ((expireBoundary i s).slot i).boundary = nextBoundary s.prt.entries service w := by
  rw [expireBoundary, reevaluate, reevaluateAs_slot, reevaluated, live, position_live s service w wall]
  exact ⟨rfl, rfl⟩

/-! ### The hold (R118) -/

/-- A spent hold stays so in an unrated gap, and ends outside one. -/
theorem nextHold_spent (holdTime : Nat) (gap : Bool) :
    nextHold holdTime gap .spent = .spent ∨ nextHold holdTime gap .spent = .none := by
  cases gap
  · exact .inr rfl
  · exact .inl rfl

theorem expireHold_spends : ((expireHold i s).slot i).hold = .spent ∨ ((expireHold i s).slot i).hold = .none := by
  rw [expireHold, reevaluateAs_slot]
  exact nextHold_spent s.sc.settings.hold
    (unratedGap s.pss.services (s.slot i).item (position s (s.slot i).item).1)

theorem expireHold_notPending : ((expireHold i s).slot i).decision ≠ .pending := by
  have spends := expireHold_spends i s
  rw [expireHold, reevaluateAs_slot] at spends ⊢
  refine reevaluatedAt_notPending ?_
  rcases spends with spent | ended
  · exact congrArg Hold.isRunning spent
  · exact congrArg Hold.isRunning ended

/-! ### The unlock (R121; log 30) -/

theorem expireUnlock_locks :
    ((expireUnlock i s).slot i).unlock = none ∧ ((expireUnlock i s).slot i).decision ≠ .unlocked := by
  rw [expireUnlock_slot]
  exact reevaluatedAt_locked rfl

/-- Where the boundary waits, the slot stays on its event until the boundary is taken. -/
theorem expireUnlock_waits (due : boundaryDue i s = true)
    (held : ((s.slot i).current.bind (entryOfKey s.prt.entries)).isSome = true) :
    ((expireUnlock i s).slot i).current = (s.slot i).current
      ∧ ((expireUnlock i s).slot i).boundary = (s.slot i).boundary ∧ boundaryDue i (expireUnlock i s) = true := by
  obtain ⟨e, found⟩ := Option.isSome_iff_exists.mp held
  obtain ⟨key, current, entry⟩ := Option.bind_eq_some_iff.mp found
  obtain ⟨-, same⟩ := mem_of_entryOfKey entry
  have wall : (expireUnlock i s).wallNow = s.wallNow := by
    rw [State.wallNow, (onlySlots_expireUnlock i s).vtu]
    rfl
  have boundary : ((expireUnlock i s).slot i).boundary = (s.slot i).boundary := by
    rw [expireUnlock_slot, expiryPosition_waiting i s e due found]
    rfl
  refine ⟨?_, boundary, ?_⟩
  · rw [expireUnlock_slot, expiryPosition_waiting i s e due found, current]
    exact congrArg some same
  · rw [boundaryDue, boundary, wall]
    exact due

/-! ### The countdown (R126, R127) -/

variable {i s} {q : Pending} (waiting : (s.slot i).pending = some q)
include waiting

theorem fallCountdown_falls (more : 1 < q.countdown) : fallCountdown i s = s.setSlot i
    { s.slot i with pending := some { q with countdown := q.countdown - 1 }, countdownDue := false } := by
  simp only [fallCountdown, waiting, if_neg (Nat.not_le.mpr more)]

theorem fallCountdown_ends (last : q.countdown ≤ 1) : fallCountdown i s = applyPending i s := by
  simp only [fallCountdown, waiting, if_pos last]

theorem countdownAtEnd_last (due : (s.slot i).countdownDue = true) (last : q.countdown ≤ 1) :
    countdownAtEnd i s = true := by
  simp [countdownAtEnd, due, waiting, last]

theorem applyPending_waiting : applyPending i s = reevaluateAs i ((s.slot i).withBound q.profile) s := by
  simp only [applyPending, waiting]

end

end Sys2Proof.Machine
end

section
open Sys2Proof Sys2Proof.Machine

/-- Settles O43: a timer that is due judges its slot's edited record, or edits it; one that is not waits for its second. -/
theorem slotTimers : Obligations.SlotTimers := by
  intro s i running
  refine ⟨fun due => ?_, fun due => ?_, fun u held passed => ?_, fun q due waiting more => ?_,
    fun q due waiting last => ?_, fun r due recording => ?_, fun tick => ⟨fun early => ?_, fun early => ?_,
    fun early => ?_, fun early => ⟨?_, ?_⟩, fun early => ?_⟩⟩
  · have placed := slotPlaced_placeSlot i (reevaluated s (s.slot i)) s
    exact ⟨expireBoundary i s, congrArg Host.Outcome.next (expiry_taken (act := expireBoundary i) running due),
      slotBasis_placeJudged _ rfl rfl rfl rfl rfl, placed.others, placed.raised,
      fun service w live wall => expireBoundary_position i s service w live wall, placeJudged_hiding i _ _ s, placed.frame⟩
  · have placed := slotPlaced_placeSlot i (reevaluated s { s.slot i with hold := .spent, holdDue := false }) s
    exact ⟨expireHold i s, congrArg Host.Outcome.next (expiry_taken (due := holdDue i) (act := expireHold i) running due),
      slotBasis_placeJudged _ rfl rfl rfl rfl rfl, placed.others, placed.raised, expireHold_spends i s,
      expireHold_notPending i s, placeJudged_hiding i _ _ s, placed.frame⟩
  · have due : unlockDue i s = true := by simp [unlockDue, held, passed]
    have placed := slotPlaced_placeSlot i (reevaluatedAt (expiryPosition i s) s { s.slot i with unlock := none }) s
    obtain ⟨unlock, decision⟩ := expireUnlock_locks i s
    exact ⟨expireUnlock i s, congrArg Host.Outcome.next (expiry_taken (act := expireUnlock i) running due),
      slotBasis_placeJudged _ rfl rfl rfl rfl rfl, placed.others, placed.raised, unlock, decision,
      expireUnlock_waits i s, placeJudged_hiding i _ _ s, placed.frame⟩
  · have taken := expiry_taken (due := countdownDue i) (act := fallCountdown i) running due
    exact ⟨_, congrArg Host.Outcome.next taken, fallCountdown_falls waiting more⟩
  · have taken := expiry_taken (due := countdownDue i) (act := fallCountdown i) running due
    have atEnd := expiry_taken (act := applyPending i) running (countdownAtEnd_last waiting due last)
    have placed := slotPlaced_placeSlot i (reevaluated s ((s.slot i).withBound q.profile)) s
    rw [fallCountdown_ends waiting last] at taken
    rw [applyPending_waiting waiting] at taken atEnd
    refine ⟨_, congrArg Host.Outcome.next taken, congrArg Host.Outcome.next atEnd, ?_, ?_, ?_, ?_, ?_,
      placeJudged_hiding i _ _ s, placed.others, placed.raised, placed.frame⟩ <;> rw [reevaluateAs_slot]
    · rfl
    · rfl
    · exact reevaluated_locked s _ rfl
    · rfl
    · rfl
  · have taken := expiry_taken (due := lengthDue i) (act := expireLength i) running due
    refine ⟨_, congrArg Host.Outcome.next taken, ?_⟩
    rw [expireLength, recording]
    rfl
  · exact congrArg Host.Outcome.next (expiry_waits tick early)
  · exact congrArg Host.Outcome.next (expiry_waits (due := holdDue i) tick early)
  · have early : unlockDue i s = false := by
      cases held : (s.slot i).unlock with
      | none => simp [unlockDue, held]
      | some u => simp [unlockDue, held, early u held]
    exact congrArg Host.Outcome.next (expiry_waits tick early)
  · exact congrArg Host.Outcome.next (expiry_waits (due := countdownDue i) tick early)
  · have early : countdownAtEnd i s = false := by simp [countdownAtEnd, early]
    exact congrArg Host.Outcome.next (expiry_waits tick early)
  · exact congrArg Host.Outcome.next (expiry_waits (due := lengthDue i) tick early)

end

section
/-! PROOFS. SLOT_UNLOCK and SLOT_RELOCK (R109, R119, R120, R122, R167). -/

namespace Sys2Proof.Machine

/-! ### The unlock of a slot -/

theorem unlockExpiry_congr {s t : State} (prt : t.prt = s.prt) (vtu : t.vtu = s.vtu) (x : Slot) :
    unlockExpiry t x = unlockExpiry s x := by
  simp only [unlockExpiry, expiryAfter, State.wallNow, prt, vtu]

theorem passed_of_vtu {s t : State} (vtu : t.vtu = s.vtu) (e : Expiry) : e.passed t = e.passed s := by
  simp only [Expiry.passed, State.wallNow, vtu]

/-- A slot that keeps its unlock is decided past what the unlock lifts (R109). -/
theorem decideSlot_lifted (s : State) (x : Slot) (event : Option Entry) (held : x.unlock.isSome = true) :
    (decideSlot s x event).unlockable = false := by
  unfold decideSlot
  split
  · rfl
  all_goals
    simp only
    split
    · rfl
    next standing => exact Bool.eq_false_iff.mpr fun lifts => standing ((Bool.and_eq_true _ _).mpr ⟨lifts, held⟩)

/-- An unlock stands where the re-evaluation finds its key and its expiry is ahead (R113, step 3). -/
theorem keptUnlock_stands {s : State} {key : Option ItemKey} {u : Unlock} (same : some u.key = key)
    (ahead : u.expiry.passed s = false) : keptUnlock s key (some u) = some u :=
  if_pos ⟨same, Bool.eq_false_iff.mp ahead⟩

theorem reevaluated_unlocked {s : State} {x : Slot} {u : Unlock} (held : x.unlock = some u)
    (same : some u.key = itemKey x.item (reevaluated s x).current) (ahead : u.expiry.passed s = false) :
    (reevaluated s x).unlock = some u ∧ (reevaluated s x).decision.unlockable = false := by
  have stands : (reevaluated s x).unlock = some u := by
    rw [reevaluated, reevaluatedAt, held]
    exact keptUnlock_stands same ahead
  refine ⟨stands, decideSlot_lifted s _ (position s x.item).1 ?_⟩
  exact (congrArg Option.isSome stands).trans rfl

/-- The record with another unlock, or with none (R119, R122). -/
def Slot.holding (x : Slot) (u : Option Unlock) : Slot := { x with unlock := u }

theorem unlockSlot_eq (i : Fin 4) (key : ItemKey) (s : State) : unlockSlot i key s
    = reevaluateAs i ((s.slot i).holding (some { key := key, expiry := unlockExpiry s (s.slot i) })) s := rfl

theorem relockSlot_eq (i : Fin 4) (s : State) : relockSlot i s = reevaluateAs i ((s.slot i).holding none) s := rfl

/-- DECISION is raised exactly where the new record's decision is not the old one's (R112). -/
theorem reevaluateAs_raised (i : Fin 4) (x : Slot) (s : State) : (reevaluateAs i x s).au.status = s.au.status
    ||| (if decide (((reevaluateAs i x s).slot i).decision ≠ (s.slot i).decision) then Cause.decision.bit else 0) := by
  rw [reevaluateAs_status, reevaluateAs_slot]
  by_cases same : (reevaluated s x).decision = (s.slot i).decision <;> simp [same]

/-- What a command leaves that judges slot `i` with another unlock and is answered (R49, R112, R113). -/
structure SlotRejudged (i : Fin 4) (s t : State) : Prop where
  basis : SlotBasisKept s t i
  others : OtherSlotsKept s t i
  raised : RaisedReply s t (decide ((t.slot i).decision ≠ (s.slot i).decision))
  traffic : TrafficKept s t
  quiet : QuietAttention s t

theorem SlotBasisKept.congr {s t u v : State} {i : Fin 4} (h : SlotBasisKept s t i) (before : u.slot i = s.slot i)
    (after : v.slot i = t.slot i) : SlotBasisKept u v i := by
  obtain ⟨item, bound, pending, picture, frames⟩ := h
  constructor <;> rw [before, after] <;> assumption

theorem slotRejudged {s r t : State} {i : Fin 4} {u : Option Unlock} (sdu : r.sdu = s.sdu) (au : r.au = s.au)
    (traffic : TrafficKept s r) (posted : Posted (reevaluateAs i ((r.slot i).holding u) r) t) : SlotRejudged i s t := by
  have only := onlySlots_reevaluateAs i ((r.slot i).holding u) r
  have record : r.slot = s.slot := funext (slot_of_sdu _ _ sdu)
  have shown : ∀ j, t.slot j = (reevaluateAs i ((r.slot i).holding u) r).slot j := slot_of_sdu _ _ posted.sdu
  have status := reevaluateAs_raised i ((r.slot i).holding u) r
  have basis : SlotBasisKept r (reevaluateAs i ((r.slot i).holding u) r) i := slotBasis_placeJudged _ rfl rfl rfl rfl rfl
  generalize (r.slot i).holding u = x at *
  rw [← shown, record, au] at status
  refine ⟨basis.congr (congrFun record i).symm (shown i), fun j other => ?_,
    posted.statusReply.trans (congrArg (· ||| Cause.reply.bit) status), ⟨?_, ?_, ?_⟩, ⟨?_, ?_, ?_⟩⟩
  · rw [shown, reevaluateAs_slot_other i j _ r other, record]
  · exact (posted.ct.trans only.ct).trans traffic.ct
  · exact (posted.wd.trans only.wd).trans traffic.wd
  · exact (posted.prt.trans only.prt).trans traffic.prt
  · exact (posted.enable.trans only.enable).trans (congrArg AU.enable au)
  · exact (posted.warned.trans only.warned).trans (congrArg AU.warned au)
  · exact (posted.capture.trans only.capture).trans (congrArg AU.capture au)

/-! ### The two commands' owners -/

theorem slotUnlock_acts {slot : Byte} {i : Fin 4} {key : ItemKey} (x : TakeCtx) {s : State}
    (place : slotField slot = some i) (present : itemKey (s.slot i).item (s.slot i).current = some key)
    (lifts : (s.slot i).decision.unlockable = true) :
    (slotUnlock slot).act x s = accept (unlockSlot i key s) false
      ([openingByte [(unlockExpiry s (s.slot i)).isUptime], key.code] ++ expiry32 (some (unlockExpiry s (s.slot i)))
        ++ [((unlockSlot i key s).slot i).decision.code, ((unlockSlot i key s).slot i).enforcement.code]) := by
  simp only [slotUnlock, Handler.gated, place, present, if_pos lifts]

theorem slotUnlock_refuses {slot : Byte} {i : Fin 4} (x : TakeCtx) {s : State} (place : slotField slot = some i)
    (decided : (s.slot i).decision.unlockable = false) :
    (slotUnlock slot).act x s = refuse s .badState [(s.slot i).decision.code, (s.slot i).decision.reasonCode] := by
  have standing := Bool.eq_false_iff.mp decided
  simp only [slotUnlock, Handler.gated, place, if_neg standing]
  split <;> rfl

theorem slotRelock_acts {slot : Byte} {i : Fin 4} (x : TakeCtx) (s : State) (place : slotField slot = some i) :
    (slotRelock slot).act x s = accept (relockSlot i s) false
      ([openingByte [(s.slot i).unlock.isSome]] ++ ((relockSlot i s).slot i).verdictBytes) := by
  simp only [slotRelock, Handler.free, place]

end Sys2Proof.Machine
end

section
open Sys2Proof Sys2Proof.Machine

/-- Settles O31: the owner judges the slot's record with the unlock set, or with none. -/
theorem unlockAndRelock : Obligations.UnlockAndRelock := by
  intro s h slot i place
  refine ⟨fun key ready passes present lifts => ?_, fun ready unset decided => ?_, fun ready => ?_⟩
  · obtain ⟨body, parts⟩ : ∃ body, recordParts (.slotUnlock h slot) = some (h, 0x32, body) := ⟨_, rfl⟩
    have kept := onlyCount_admitted s h 0x32 body
    have record := admitted_slot s h 0x32 body i
    have pin : PinKept s (s.admitted h 0x32 body) := pinKept_of_pss rfl
    have expiry : unlockExpiry (s.admitted h 0x32 body) (s.slot i) = unlockExpiry s (s.slot i) :=
      unlockExpiry_congr kept.prt kept.vtu _
    have only : OnlySlots (s.admitted h 0x32 body) (unlockSlot i key (s.admitted h 0x32 body)) :=
      onlySlots_reevaluateAs i _ _
    obtain ⟨t, runs, answered, posted, classes, -⟩ := gated_accepted (.slotUnlock h slot) _ _ _ h 0x32 body s _ false _
      parts rfl ready passes (fun x => slotUnlock_acts x place (record.symm ▸ present) (record.symm ▸ lifts)) only.lc
    have shown : t.slot i = (unlockSlot i key (s.admitted h 0x32 body)).slot i := slot_of_sdu _ _ posted.sdu i
    rw [record, expiry, ← shown] at answered
    rw [unlockSlot_eq, record, expiry, reevaluateAs_slot] at shown
    rw [unlockSlot_eq] at posted
    obtain ⟨basis, others, raised, traffic, quiet⟩ := slotRejudged (s := s) kept.sdu (comparedIf_au _ _)
      ⟨kept.ct, kept.wd, kept.prt⟩ posted
    refine ⟨t, runs, fun unchanged ahead => ?_, basis, others, ?_, answered.number, answered.entry, raised, traffic, quiet,
      classes, posted.vtu.trans (only.vtu.trans kept.vtu)⟩
    · rw [shown] at unchanged ⊢
      exact reevaluated_unlocked rfl (present.symm.trans (congrArg (itemKey (s.slot i).item) unchanged.symm))
        ((passed_of_vtu kept.vtu _).trans ahead)
    · exact ⟨(congrArg PSS.pin (posted.pss.trans only.pss)).trans pin.pin,
        (congrArg PSS.failures (posted.pss.trans only.pss)).trans pin.failures,
        (congrArg PSS.lockout (posted.pss.trans only.pss)).trans pin.lockout⟩
  · obtain ⟨body, parts⟩ : ∃ body, recordParts (.slotUnlock h slot) = some (h, 0x32, body) := ⟨_, rfl⟩
    exact gated_refused (.slotUnlock h slot) _ _ _ h 0x32 body s _ _ parts rfl ready unset nofun
      fun x => slotUnlock_refuses (s := s.closedIn h 0x32 body) x place decided
  · obtain ⟨body, parts⟩ : ∃ body, recordParts (.slotRelock h slot) = some (h, 0x33, body) := ⟨_, rfl⟩
    have only : OnlySlots (s.closedIn h 0x33 body) (relockSlot i (s.closedIn h 0x33 body)) := onlySlots_reevaluateAs i _ _
    obtain ⟨t, runs, answered, posted⟩ := free_answered (.slotRelock h slot) _ _ _ h 0x33 body s _ parts rfl ready
      (fun x => slotRelock_acts x _ place) only.lc
    have shown : t.slot i = (relockSlot i (s.closedIn h 0x33 body)).slot i := slot_of_sdu _ _ posted.sdu i
    have sc : (relockSlot i (s.closedIn h 0x33 body)).sc = s.sc := only.sc
    rw [accept_payload, ← shown] at answered
    rw [relockSlot_eq, reevaluateAs_slot] at shown
    obtain ⟨locked, decision⟩ := reevaluatedAt_locked (s := s.closedIn h 0x33 body)
      (pos := position (s.closedIn h 0x33 body) (s.slot i).item) (x := (s.slot i).holding none) rfl
    obtain ⟨basis, others, raised, traffic, quiet⟩ := slotRejudged (s := s) (r := s.closedIn h 0x33 body) rfl rfl
      ⟨rfl, rfl, rfl⟩ posted
    refine ⟨t, runs, answered, ?_, ?_, basis, others, raised, traffic, quiet, posted.classesKept only.lc,
      posted.pss.trans only.pss, posted.vtu.trans only.vtu, fun settled =>
        (posted.sc (by rw [accept_state, State.Settled, sc]; exact settled)).trans sc⟩
    · exact (congrArg Slot.unlock shown).trans locked
    · exact fun unlocked => decision ((congrArg Slot.decision shown).symm.trans unlocked)

end

section
/-! PROOFS. The usage records mapped child by child, the rollover check, the curfew states made again and the setting of the
clock (R117, R129, R131, R143, R146 to R150, R152, R192; log 19). -/

namespace Sys2Proof.Machine

/-! ### What VTU's operations move -/

/-- Between `s` and `t` the usage records, the curfew states, the day and week, the marks and the ages alone moved. -/
structure OnlyRecords (s t : State) : Prop extends OnlyViewing s t where
  sdu : t.sdu = s.sdu
  au : t.au = s.au

theorem OnlyRecords.refl (s : State) : OnlyRecords s s := ⟨.refl s, rfl, rfl⟩

theorem OnlyRecords.trans {s t u : State} (a : OnlyRecords s t) (b : OnlyRecords t u) : OnlyRecords s u :=
  ⟨a.toOnlyViewing.trans b.toOnlyViewing, b.sdu.trans a.sdu, b.au.trans a.au⟩

section
variable {s t : State} (h : OnlyRecords s t)
include h

theorem OnlyRecords.child (c : Fin 7) : t.child c = s.child c := child_of_pss _ _ h.pss c

theorem OnlyRecords.wallNow : t.wallNow = s.wallNow := by rw [State.wallNow, h.clock, h.uptime, ← State.wallNow]

theorem OnlyRecords.localNow : t.localNow = s.localNow := by rw [State.localNow, h.wallNow, h.settings, ← State.localNow]

end

theorem onlyRecords_setUsage (s : State) (c : Fin 7) (u : Usage) : OnlyRecords s (s.setUsage c u) :=
  ⟨onlyViewing_setUsage s c u, setUsage_sdu s c u, setUsage_au s c u⟩

theorem onlyRecords_markDirty (s : State) (r : RecordId) : OnlyRecords s (s.markDirty r) :=
  ⟨onlyViewing_markDirty s r, rfl, rfl⟩

theorem onlyRecords_setAcct (s : State) (a : Option Acct) : OnlyRecords s { s with vtu.acct := a } :=
  ⟨onlyViewing_setAcct s a, rfl, rfl⟩

theorem onlyRecords_forChildren (f : Fin 7 → State → State) (only : ∀ c t, OnlyRecords t (f c t)) (s : State) :
    OnlyRecords s (forChildren f s) :=
  forChildren_induct (P := OnlyRecords s) f (fun c t sofar => sofar.trans (only c t)) s (.refl s)

/-! ### The usage records mapped child by child -/

/-- Every child's usage record becomes what `g` makes of its profile and of it. -/
def State.mapUsage (g : Profile → Usage → Usage) (s : State) : State :=
  forChildren (fun c t => t.setUsage c (g (t.child c) (t.usage c))) s

/-- Between `s` and `t` the children of the list had their usage records mapped; a record that its mapping leaves alone gains
no changed mark (R185). -/
structure UsageMapped (l : List (Fin 7)) (g : Profile → Usage → Usage) (s t : State) : Prop extends OnlyRecords s t where
  acct : t.vtu.acct = s.vtu.acct
  curfew : t.vtu.curfew = s.vtu.curfew
  dirty : t.sc.dirty = s.sc.dirty
  usage : ∀ c, t.usage c = if c ∈ l then g (s.child c) (s.usage c) else s.usage c
  changed : ∀ c, g (s.child c) (s.usage c) = s.usage c → t.sc.changed[c] = s.sc.changed[c]

theorem setUsage_unaltered {s : State} {c : Fin 7} {u : Usage} (same : u = s.usage c) : s.setUsage c u = s := if_pos same

theorem setUsage_moves (s : State) (c : Fin 7) (u : Usage) : (s.setUsage c u).vtu.acct = s.vtu.acct
    ∧ (s.setUsage c u).vtu.curfew = s.vtu.curfew ∧ (s.setUsage c u).sc.dirty = s.sc.dirty := by
  unfold State.setUsage
  split <;> exact ⟨rfl, rfl, rfl⟩

theorem setUsage_changed_other {s : State} {c d : Fin 7} (u : Usage) (other : d ≠ c) :
    (s.setUsage c u).sc.changed[d] = s.sc.changed[d] := by
  unfold State.setUsage
  split
  · rfl
  · exact putAt_other _ _ _ _ other

theorem usageMapped_foldl (g : Profile → Usage → Usage) (l : List (Fin 7)) : l.Nodup → ∀ s : State,
    UsageMapped l g s (l.foldl (fun t c => t.setUsage c (g (t.child c) (t.usage c))) s) := by
  induction l with
  | nil => exact fun _ s => ⟨.refl s, rfl, rfl, rfl, fun c => (if_neg List.not_mem_nil).symm, fun _ _ => rfl⟩
  | cons d rest ih =>
    intro nodup s
    obtain ⟨once, nodup⟩ := List.nodup_cons.mp nodup
    rw [List.foldl_cons]
    have only := onlyRecords_setUsage s d (g (s.child d) (s.usage d))
    obtain ⟨acct, curfew, dirty⟩ := setUsage_moves s d (g (s.child d) (s.usage d))
    have made := usage_setUsage_same s d (g (s.child d) (s.usage d))
    have others := fun c => usage_setUsage_other s d c (g (s.child d) (s.usage d))
    have marks := fun c => setUsage_changed_other (s := s) (c := d) (d := c) (g (s.child d) (s.usage d))
    have unaltered := setUsage_unaltered (s := s) (c := d) (u := g (s.child d) (s.usage d))
    generalize s.setUsage d (g (s.child d) (s.usage d)) = r at *
    obtain ⟨only', acct', curfew', dirty', usage, changed⟩ := ih nodup r
    generalize rest.foldl (fun t c => t.setUsage c (g (t.child c) (t.usage c))) r = t at *
    refine ⟨only.trans only', acct'.trans acct, curfew'.trans curfew, dirty'.trans dirty, fun c => ?_, fun c same => ?_⟩
    · rw [usage, only.child]
      by_cases here : c = d
      · subst here
        rw [if_neg once, if_pos List.mem_cons_self, made]
      · simp only [List.mem_cons, here, false_or, others c here]
    · by_cases here : c = d
      · subst here
        rw [unaltered same] at changed
        exact changed c same
      · rw [changed c (by rw [only.child, others c here, same]), marks c here]

theorem usageMapped (g : Profile → Usage → Usage) (s : State) : UsageMapped childList g s (s.mapUsage g) :=
  usageMapped_foldl g childList (by decide) s

theorem mapUsage_usage (g : Profile → Usage → Usage) (s : State) (c : Fin 7) :
    (s.mapUsage g).usage c = g (s.child c) (s.usage c) :=
  ((usageMapped g s).usage c).trans (if_pos (mem_childList c))

/-- An edit that only some records get is a mapping of every record. -/
theorem setUsage_if (edits : Bool) (t : State) (c : Fin 7) (u : Usage) :
    (if edits then t.setUsage c u else t) = t.setUsage c (if edits then u else t.usage c) := by
  cases edits
  · exact (setUsage_unaltered rfl).symm
  · rfl

/-! ### The rollovers (R149, R150) -/

/-- A day rollover's part in one usage record: a valid profile's is rolled over (R149). -/
def dayRolled (weekend adjacent : Bool) (p : Profile) (u : Usage) : Usage :=
  if p.valid then rolledUsage p u weekend adjacent else u

/-- A week rollover's part in one usage record (R150). -/
def weekRolled (p : Profile) (u : Usage) : Usage := if p.valid then { u with week := 0, weekBonus := 0 } else u

/-- A day rollover before its marks. -/
def State.dayTurned (s : State) (day : Nat) (a : Acct) : State :=
  s.mapUsage (dayRolled (weekendDay s.sc.settings.weekend a.day) (day == a.day + 1))

theorem dayRollover_eq (day : Nat) (a : Acct) (s : State) :
    dayRollover day a s = { markUsageDirty (s.dayTurned day a) with vtu.acct := some { a with day := day } } := by
  simp only [dayRollover, setUsage_if, State.dayTurned, State.mapUsage, dayRolled]

theorem onlyRecords_markUsageDirty (s : State) : OnlyRecords s (markUsageDirty s) :=
  onlyRecords_forChildren (fun c t => t.markDirty (.usage c)) (fun _ t => onlyRecords_markDirty t _) s

theorem markUsageDirty_vtu (s : State) : (markUsageDirty s).vtu = s.vtu :=
  forChildren_induct (P := fun t => t.vtu = s.vtu) (fun c t => t.markDirty (.usage c)) (fun _ _ same => same) s rfl

theorem markUsageDirty_isDirty (s : State) (c : Fin 7) : (markUsageDirty s).isDirty (.usage c) = true :=
  forChildren_reaches (P := fun _ => True) (Q := fun t => t.isDirty (.usage c) = true) (fun c t => t.markDirty (.usage c)) c
    (fun _ _ _ => trivial) (fun t _ => isDirty_markDirty_same t _) (fun _ _ dirty => isDirty_markDirty_grow _ dirty) trivial

theorem weekRollover_eq {a : Acct} {s : State} (known : s.vtu.acct = some a) : weekRollover s
    = if a.week < accountingWeek s.sc.settings.weekStart a.day then
        { s.mapUsage weekRolled with
          vtu.acct := some { a with week := accountingWeek s.sc.settings.weekStart a.day } }
      else s := by
  simp only [weekRollover, known, setUsage_if, State.mapUsage, weekRolled]

/-! ### The rollover check (R148, R192) -/

/-- The day and week that a check at local seconds `l` leaves. -/
def checkedAcct (s : State) (l : Nat) : Option Acct :=
  match s.vtu.acct with
  | none => some { day := dayAt s l, week := weekAt s l }
  | some a => if a.day < dayAt s l then some { day := dayAt s l, week := max a.week (weekAt s l) } else some a

theorem checkedAcct_checked (s : State) (l : Nat) : Checked s l (checkedAcct s l) where
  kept a known later := by simp only [checkedAcct, known, if_neg (Nat.not_lt.mpr later)]
  moved a known later := by simp only [checkedAcct, known, if_pos later]
  adopted unknown := by simp only [checkedAcct, unknown]

/-- A usage record once the rollovers from day and week `a` to those of local seconds `l` are made. -/
def rolledTo (s : State) (l : Nat) (a : Acct) (p : Profile) (u : Usage) : Usage :=
  let r := dayRolled (weekendDay s.sc.settings.weekend a.day) (dayAt s l == a.day + 1) p u
  if a.week < weekAt s l then weekRolled p r else r

/-- A usage record once the check at local seconds `l` is made. -/
def checkedUsage (s : State) (l : Nat) (p : Profile) (u : Usage) : Usage :=
  match s.vtu.acct with
  | none => u
  | some a => if a.day < dayAt s l then rolledTo s l a p u else u

theorem checkedUsage_rolls {s : State} {l : Nat} {a : Acct} (known : s.vtu.acct = some a) (later : a.day < dayAt s l)
    (p : Profile) (u : Usage) : checkedUsage s l p u = rolledTo s l a p u := by
  simp only [checkedUsage, known, if_pos later]

theorem checkedUsage_idle {s : State} {l : Nat} (idle : ¬ RollsOver s l) (p : Profile) (u : Usage) :
    checkedUsage s l p u = u := by
  cases known : s.vtu.acct with
  | none => simp only [checkedUsage, known]
  | some a => simp only [checkedUsage, known, if_neg fun later => idle ⟨a, known, later⟩]

/-- What the check at local seconds `l` made in `s` leaves. -/
structure RolloverChecked (s : State) (l : Nat) (t : State) : Prop extends OnlyRecords s t where
  curfew : t.vtu.curfew = s.vtu.curfew
  acct : t.vtu.acct = checkedAcct s l
  usage : ∀ c, t.usage c = checkedUsage s l (s.child c) (s.usage c)
  dirty : RollsOver s l → ∀ c, t.isDirty (.usage c) = true
  idle : ¬ RollsOver s l → t.sc = s.sc

/-- What a day rollover leaves. -/
structure DayTurned (day : Nat) (a : Acct) (s t : State) : Prop extends OnlyRecords s t where
  curfew : t.vtu.curfew = s.vtu.curfew
  acct : t.vtu.acct = some { a with day := day }
  usage : ∀ c, t.usage c
    = dayRolled (weekendDay s.sc.settings.weekend a.day) (day == a.day + 1) (s.child c) (s.usage c)
  dirty : ∀ c, t.isDirty (.usage c) = true

theorem dayTurned (day : Nat) (a : Acct) (s : State) : DayTurned day a s (dayRollover day a s) := by
  rw [dayRollover_eq]
  have mapped := usageMapped (dayRolled (weekendDay s.sc.settings.weekend a.day) (day == a.day + 1)) s
  have usage := mapUsage_usage (dayRolled (weekendDay s.sc.settings.weekend a.day) (day == a.day + 1)) s
  rw [← State.dayTurned] at mapped usage
  generalize s.dayTurned day a = r at *
  have only := onlyRecords_markUsageDirty r
  have vtu := markUsageDirty_vtu r
  have dirty := markUsageDirty_isDirty r
  generalize markUsageDirty r = t at *
  have stored : ({ t with vtu.acct := some { a with day := day } } : State).usage = t.usage := usage_of_records rfl
  refine ⟨(mapped.toOnlyRecords.trans only).trans (onlyRecords_setAcct t _), ?_, rfl, fun c => ?_, dirty⟩
  · exact (congrArg VTU.curfew vtu).trans mapped.curfew
  · rw [stored, usage_of_vtu _ _ vtu, usage]

/-- The week check after a day rollover leaves the later of the two weeks (R150). -/
theorem weekTurned {a : Acct} {s t : State} (known : s.vtu.acct = some a) (turned : weekRollover s = t) : OnlyRecords s t
    ∧ t.vtu.curfew = s.vtu.curfew
    ∧ t.vtu.acct = some { a with week := max a.week (accountingWeek s.sc.settings.weekStart a.day) }
    ∧ (∀ c, t.usage c = if a.week < accountingWeek s.sc.settings.weekStart a.day then weekRolled (s.child c) (s.usage c)
        else s.usage c) ∧ t.sc.dirty = s.sc.dirty := by
  rw [weekRollover_eq known] at turned
  split at turned
  next later =>
    have mapped := usageMapped weekRolled s
    have usage := mapUsage_usage weekRolled s
    generalize s.mapUsage weekRolled = r at *
    subst turned
    refine ⟨mapped.toOnlyRecords.trans (onlyRecords_setAcct r _), mapped.curfew, ?_, fun c => ?_, mapped.dirty⟩
    · rw [max_eq_right (Nat.le_of_lt later)]
    · rw [if_pos later]
      exact usage c
  next early =>
    subst turned
    refine ⟨.refl s, rfl, ?_, fun c => (if_neg early).symm, rfl⟩
    rw [known, max_eq_left (Nat.not_lt.mp early)]

theorem rolloverCheck_rolls {s : State} {l : Nat} {a : Acct} (now : s.localNow = some l) (known : s.vtu.acct = some a)
    (later : a.day < dayAt s l) : rolloverCheck s = weekRollover (dayRollover (dayAt s l) a s) := by
  simp only [rolloverCheck, now, known]
  exact if_pos later

theorem rolloverCheck_idle {s : State} {l : Nat} (now : s.localNow = some l) (idle : ¬ RollsOver s l) :
    rolloverCheck s = { s with vtu.acct := checkedAcct s l } := by
  cases known : s.vtu.acct with
  | none =>
    simp only [rolloverCheck, now, known, checkedAcct]
    rfl
  | some a =>
    have early : ¬ a.day < dayAt s l := fun later => idle ⟨a, known, later⟩
    simp only [rolloverCheck, now, known, checkedAcct, if_neg early]
    rw [← known]
    exact if_neg early

theorem rolloverChecked {s : State} {l : Nat} (now : s.localNow = some l) : RolloverChecked s l (rolloverCheck s) := by
  by_cases rolls : RollsOver s l
  · obtain ⟨a, known, later⟩ := rolls
    rw [rolloverCheck_rolls now known later]
    have day := dayTurned (dayAt s l) a s
    generalize dayRollover (dayAt s l) a s = r at *
    obtain ⟨only, curfew, acct, usage, dirty⟩ := weekTurned day.acct rfl
    generalize weekRollover r = t at *
    refine ⟨day.toOnlyRecords.trans only, curfew.trans day.curfew, ?_, fun c => ?_, fun _ c => ?_,
      fun idle => absurd ⟨a, known, later⟩ idle⟩
    · rw [acct, checkedAcct, known, day.settings]
      exact (if_pos later).symm
    · rw [usage, day.child, day.usage, day.settings, checkedUsage_rolls known later]
      rfl
    · exact (congrArg (fun marks : Vector Bool 18 => marks[(RecordId.usage c).place]) dirty).trans (day.dirty c)
  · rw [rolloverCheck_idle now rolls]
    exact ⟨onlyRecords_setAcct s _, rfl, rfl, fun c => (checkedUsage_idle rolls _ _).symm,
      fun rolls' => absurd rolls' rolls, fun _ => rfl⟩

end Sys2Proof.Machine
end

section
/-! PROOFS. The curfew states made again and the setting of the clock (R117, R129, R143, R146, R147, R152, R168). -/

namespace Sys2Proof.Machine

/-! ### The curfew states (R146, R147) -/

theorem curfewActive_of_curfew {s t : State} (curfew : t.vtu.curfew = s.vtu.curfew) (c : Fin 7) :
    t.curfewActive c = s.curfewActive c := congrArg (fun states : Vector Bool 7 => states[c]) curfew

/-- Between `s` and `t` the curfew states alone moved. -/
structure OnlyCurfews (s t : State) : Prop extends OnlyRecords s t where
  usage : t.vtu.usage = s.vtu.usage
  acct : t.vtu.acct = s.vtu.acct
  sc : t.sc = s.sc

theorem OnlyCurfews.refl (s : State) : OnlyCurfews s s := ⟨.refl s, rfl, rfl, rfl⟩

theorem OnlyCurfews.trans {s t u : State} (a : OnlyCurfews s t) (b : OnlyCurfews t u) : OnlyCurfews s u :=
  ⟨a.toOnlyRecords.trans b.toOnlyRecords, b.usage.trans a.usage, b.acct.trans a.acct, b.sc.trans a.sc⟩

theorem onlyCurfews_recomputeCurfew (c : Fin 7) (s : State) : OnlyCurfews s (recomputeCurfew c s) := by
  unfold recomputeCurfew
  split
  · exact ⟨⟨onlyViewing_setCurfew s c _, rfl, rfl⟩, rfl, rfl, rfl⟩
  · exact .refl s

theorem onlyCurfews_recomputeCurfews (s : State) : OnlyCurfews s (recomputeCurfews s) :=
  forChildren_induct (P := OnlyCurfews s) recomputeCurfew (fun c t sofar => sofar.trans (onlyCurfews_recomputeCurfew c t)) s
    (.refl s)

theorem recomputeCurfew_other {c d : Fin 7} (other : d ≠ c) (s : State) :
    (recomputeCurfew d s).curfewActive c = s.curfewActive c := by
  unfold recomputeCurfew
  split
  · exact putAt_other _ _ _ _ other.symm
  · rfl

theorem recomputeCurfew_valid {c : Fin 7} {s : State} (valid : (s.child c).valid = true) :
    (recomputeCurfew c s).curfewActive c = s.curfewNow c := by
  rw [recomputeCurfew, if_pos valid]
  exact curfewActive_setCurfew_same s c _

theorem recomputeCurfew_invalid {c : Fin 7} {s : State} (invalid : (s.child c).valid = false) : recomputeCurfew c s = s := by
  rw [recomputeCurfew, invalid]
  rfl

/-- A valid profile's curfew state is that of the time; an INVALID one's is kept. -/
theorem recomputeCurfews_curfew {s : State} {l : Nat} (now : s.localNow = some l) (c : Fin 7) :
    (recomputeCurfews s).curfewActive c
      = if (s.child c).valid then curfewCovers (s.child c).curfews l else s.curfewActive c := by
  have keep : ∀ d t, OnlyCurfews s t → OnlyCurfews s (recomputeCurfew d t) := fun d t sofar =>
    sofar.trans (onlyCurfews_recomputeCurfew d t)
  cases valid : (s.child c).valid with
  | true =>
    refine forChildren_each (I := OnlyCurfews s) (Q := fun t => t.curfewActive c = curfewCovers (s.child c).curfews l)
      recomputeCurfew c keep (fun t sofar => ?_) (fun d t other _ made => (recomputeCurfew_other other t).trans made) s
      (.refl s)
    have same := sofar.child c
    rw [recomputeCurfew_valid (same ▸ valid), State.curfewNow, sofar.localNow, now, same]
  | false =>
    refine (forChildren_induct (P := fun t => OnlyCurfews s t ∧ t.curfewActive c = s.curfewActive c) recomputeCurfew
      (fun d t ⟨sofar, kept⟩ => ⟨keep d t sofar, ?_⟩) s ⟨.refl s, rfl⟩).2
    by_cases here : d = c
    · subst here
      have same := sofar.child d
      rwa [recomputeCurfew_invalid (same ▸ valid)]
    · exact (recomputeCurfew_other here t).trans kept

/-! ### An extension at the setting of the clock (R143, R152) -/

/-- An extension once its end is held in wall time and, at or before the wall time, has come. -/
def clockedExt (wall uptime : Nat) (x : Option Extension) : Option Extension :=
  let y := x.map fun e => { e with expiry := e.expiry.toWall wall uptime }
  if y.any fun e => e.endedBy wall then none else y

/-- The usage record with its ends in wall time (R152 step 2). -/
def Usage.toWall (u : Usage) (wall uptime : Nat) : Usage :=
  { u with ext := u.ext.map fun e => { e with expiry := e.expiry.toWall wall uptime } }

/-- The usage record without an extension that has ended by the wall time (R152 step 3). -/
def Usage.ended (u : Usage) (wall : Nat) : Usage :=
  if u.ext.any fun e => e.endedBy wall then { u with ext := none } else u

/-- The usage record once the clock is set (R152 steps 2 and 3). -/
def Usage.clocked (u : Usage) (wall uptime : Nat) : Usage := { u with ext := clockedExt wall uptime u.ext }

theorem Usage.ended_toWall (u : Usage) (wall uptime : Nat) : (u.toWall wall uptime).ended wall = u.clocked wall uptime := by
  unfold Usage.ended Usage.clocked clockedExt
  by_cases past : ((u.toWall wall uptime).ext.any fun e => e.endedBy wall) = true
  · rw [if_pos past]
    exact congrArg (fun x => { u with ext := x }) (if_pos past).symm
  · rw [if_neg past]
    exact congrArg (fun x => { u with ext := x }) (if_neg past).symm

/-- The wall time that an end is or becomes. -/
def Expiry.wallAt (e : Expiry) (wall uptime : Nat) : Nat :=
  match e with
  | .wall t => t
  | .uptime t => wall + (t - uptime)

theorem Expiry.toWall_eq (e : Expiry) (wall uptime : Nat) : e.toWall wall uptime = .wall (e.wallAt wall uptime) := by
  cases e <;> rfl

theorem clockedExt_some (wall uptime : Nat) (x : Extension) : clockedExt wall uptime (some x)
    = if x.expiry.wallAt wall uptime ≤ wall then none
      else some { key := x.key, expiry := .wall (x.expiry.wallAt wall uptime) } := by
  simp only [clockedExt, Option.map_some, Expiry.toWall_eq, Option.any_some, Extension.endedBy, decide_eq_true_eq]

theorem clockedExt_ahead {wall uptime : Nat} {x : Option Extension} {y : Extension}
    (held : clockedExt wall uptime x = some y) : ∃ e, y.expiry = .wall e ∧ wall < e := by
  cases x with
  | none => cases held
  | some x =>
    rw [clockedExt_some] at held
    split at held
    · cases held
    next ahead =>
      cases held
      exact ⟨_, rfl, Nat.not_le.mp ahead⟩

/-- A record that the setting leaves as it was met neither of its two steps. -/
theorem Usage.toWall_of_clocked {u : Usage} {wall uptime : Nat} (same : u.clocked wall uptime = u) :
    u.toWall wall uptime = u := by
  have kept : clockedExt wall uptime u.ext = u.ext := congrArg Usage.ext same
  unfold Usage.toWall
  cases held : u.ext with
  | none => rw [Option.map_none, ← held]
  | some x =>
    rw [held, clockedExt_some] at kept
    split at kept
    · cases kept
    · rw [Option.map_some, Expiry.toWall_eq, kept, ← held]

/-! ### Steps 1 to 5 (R152) -/

/-- The clock and the zone offset set (R129, R152 step 1). -/
def State.clocked (s : State) (wall : Nat) (zone : Int) : State :=
  { s with vtu.clock := some { wall := wall, since := s.vtu.uptime }, sc.settings.zone := zone }

theorem clocked_wallNow (s : State) (wall : Nat) (zone : Int) : (s.clocked wall zone).wallNow = some wall := by
  simp [State.clocked, State.wallNow]

theorem clocked_localNow (s : State) (wall : Nat) (zone : Int) :
    (s.clocked wall zone).localNow = some (localSeconds wall zone) := by
  rw [State.localNow, clocked_wallNow]
  rfl

theorem startClock_eq (wall : Nat) (zone : Int) (s : State) :
    startClock wall zone s = (s.clocked wall zone).mapUsage fun _ u => u.toWall wall s.vtu.uptime := rfl

theorem endPastExtensions_eq (wall : Nat) (s : State) :
    endPastExtensions wall s = s.mapUsage fun _ u => u.ended wall := by
  simp only [endPastExtensions, setUsage_if, State.mapUsage, Usage.ended]

theorem dayAt_of_settings {s t : State} (settings : t.sc.settings = s.sc.settings) (l : Nat) : dayAt t l = dayAt s l := by
  rw [dayAt, settings, ← dayAt]

theorem weekAt_of_settings {s t : State} (settings : t.sc.settings = s.sc.settings) (l : Nat) : weekAt t l = weekAt s l := by
  rw [weekAt, dayAt_of_settings settings, settings, ← weekAt]

theorem checkedUsage_congr {s t : State} (acct : t.vtu.acct = s.vtu.acct) (settings : t.sc.settings = s.sc.settings) :
    checkedUsage t = checkedUsage s := by
  funext l p u
  simp only [checkedUsage, rolledTo, acct, settings, dayAt_of_settings settings, weekAt_of_settings settings]

theorem checkedAcct_congr {s t : State} (acct : t.vtu.acct = s.vtu.acct) (settings : t.sc.settings = s.sc.settings) :
    checkedAcct t = checkedAcct s := by
  funext l
  simp only [checkedAcct, acct, dayAt_of_settings settings, weekAt_of_settings settings]

theorem rollsOver_congr {s t : State} (acct : t.vtu.acct = s.vtu.acct) (settings : t.sc.settings = s.sc.settings) (l : Nat) :
    RollsOver t l ↔ RollsOver s l := by
  simp only [RollsOver, acct, dayAt_of_settings settings]

/-- What the setting of the clock has made when its reports begin. -/
structure ClockSet (wall : Nat) (zone : Int) (s t : State) : Prop extends OnlyRecords (s.clocked wall zone) t where
  curfew : ∀ c, t.curfewActive c
    = if (s.child c).valid then curfewCovers (s.child c).curfews (localSeconds wall zone) else s.curfewActive c
  acct : t.vtu.acct = checkedAcct s (localSeconds wall zone)
  usage : ∀ c, t.usage c
    = checkedUsage s (localSeconds wall zone) (s.child c) ((s.usage c).clocked wall s.vtu.uptime)
  dirty : RollsOver s (localSeconds wall zone) → ∀ c, t.isDirty (.usage c) = true
  idle : ¬ RollsOver s (localSeconds wall zone) → ∀ c, (s.usage c).clocked wall s.vtu.uptime = s.usage c →
    t.sc.changed[c] = s.sc.changed[c] ∧ t.isDirty (.usage c) = s.isDirty (.usage c)

/-- What steps 2 and 3 leave. -/
structure ExtensionsClocked (wall : Nat) (zone : Int) (s t : State) : Prop extends OnlyRecords (s.clocked wall zone) t where
  curfew : t.vtu.curfew = s.vtu.curfew
  acct : t.vtu.acct = s.vtu.acct
  dirty : t.sc.dirty = s.sc.dirty
  usage : ∀ c, t.usage c = (s.usage c).clocked wall s.vtu.uptime
  changed : ∀ c, (s.usage c).clocked wall s.vtu.uptime = s.usage c → t.sc.changed[c] = s.sc.changed[c]

theorem extensionsClocked (wall : Nat) (zone : Int) (s : State) :
    ExtensionsClocked wall zone s (endPastExtensions wall (startClock wall zone s)) := by
  rw [endPastExtensions_eq, startClock_eq]
  have first := usageMapped (fun _ u => u.toWall wall s.vtu.uptime) (s.clocked wall zone)
  have walled := mapUsage_usage (fun _ u => u.toWall wall s.vtu.uptime) (s.clocked wall zone)
  generalize (s.clocked wall zone).mapUsage (fun _ u => u.toWall wall s.vtu.uptime) = r at *
  have second := usageMapped (fun _ u => u.ended wall) r
  have ended := mapUsage_usage (fun _ u => u.ended wall) r
  generalize r.mapUsage (fun _ u => u.ended wall) = t at *
  have usage : ∀ c, t.usage c = (s.usage c).clocked wall s.vtu.uptime := fun c => by
    rw [ended, walled]
    exact Usage.ended_toWall _ _ _
  refine ⟨first.toOnlyRecords.trans second.toOnlyRecords, second.curfew.trans first.curfew, second.acct.trans first.acct,
    second.dirty.trans first.dirty, usage, fun c same => ?_⟩
  have unwalled : (s.usage c).toWall wall s.vtu.uptime = s.usage c := Usage.toWall_of_clocked same
  refine (second.changed c ?_).trans (first.changed c unwalled)
  rw [← ended, usage, same, walled]
  exact unwalled.symm

theorem clockSet_made (wall : Nat) (zone : Int) (s : State) : ClockSet wall zone s (clockBeforeReports wall zone s) := by
  rw [clockBeforeReports]
  have clocked := extensionsClocked wall zone s
  generalize endPastExtensions wall (startClock wall zone s) = r at *
  have settings : r.sc.settings = { s.sc.settings with zone := zone } := clocked.settings
  have now : r.localNow = some (localSeconds wall zone) := clocked.localNow.trans (clocked_localNow s wall zone)
  have rolls : RollsOver r (localSeconds wall zone) ↔ RollsOver s (localSeconds wall zone) :=
    rollsOver_congr (s := s.clocked wall zone) clocked.acct clocked.settings _
  have usages : checkedUsage r = checkedUsage s := checkedUsage_congr (s := s.clocked wall zone) clocked.acct clocked.settings
  have accts : checkedAcct r = checkedAcct s := checkedAcct_congr (s := s.clocked wall zone) clocked.acct clocked.settings
  have checked := rolloverChecked now
  generalize rolloverCheck r = q at *
  have curfews := onlyCurfews_recomputeCurfews q
  have curfew := recomputeCurfews_curfew (checked.localNow.trans now)
  generalize recomputeCurfews q = t at *
  have child : ∀ c, q.child c = s.child c := fun c => (checked.child c).trans (clocked.child c)
  have before : ∀ c, q.curfewActive c = s.curfewActive c := fun c =>
    (curfewActive_of_curfew checked.curfew c).trans (curfewActive_of_curfew clocked.curfew c)
  refine ⟨(clocked.toOnlyRecords.trans checked.toOnlyRecords).trans curfews.toOnlyRecords, fun c => ?_, ?_, fun c => ?_,
    fun rolled c => ?_, fun idle c same => ⟨?_, ?_⟩⟩
  · rw [curfew, child, before]
  · rw [curfews.acct, checked.acct, accts]
  · rw [usage_of_records curfews.usage, checked.usage, usages, clocked.usage, clocked.child]
    rfl
  · rw [isDirty_of_sc curfews.sc]
    exact checked.dirty (rolls.mpr rolled) c
  · rw [curfews.sc, checked.idle (mt rolls.mp idle)]
    exact clocked.changed c same
  · rw [isDirty_of_sc curfews.sc, isDirty_of_sc (checked.idle (mt rolls.mp idle)), State.isDirty, clocked.dirty]
    rfl

end Sys2Proof.Machine
end

section
/-! PROOFS. CLOCK_SET (R117, R152, R168): what the setting of the clock leaves of the usage records and of the slots, its
payload, and the marks past the commit that its reply starts. -/

namespace Sys2Proof.Machine

/-! ### A usage record once the check is made -/

theorem dayRolled_valid {p : Profile} (valid : p.valid = true) (weekend adjacent : Bool) (u : Usage) :
    dayRolled weekend adjacent p u = rolledUsage p u weekend adjacent := if_pos valid

theorem weekRolled_valid {p : Profile} (valid : p.valid = true) (u : Usage) :
    weekRolled p u = { u with week := 0, weekBonus := 0 } := if_pos valid

/-- A valid profile's record is rolled over, what its extension was being of no account. -/
theorem rolledTo_rolledOver {s : State} {c : Fin 7} (valid : (s.child c).valid = true) (l : Nat) (a : Acct)
    (x : Option Extension) : RolledOver s c a l (rolledTo s l a (s.child c) { s.usage c with ext := x }) := by
  rw [rolledTo, dayRolled_valid valid]
  split
  next later =>
    rw [weekRolled_valid valid]
    exact ⟨by simp [rolledUsage], ⟨rfl, rfl, rfl⟩, ⟨rfl, rfl, rfl, rfl⟩, fun early => absurd later (Nat.not_lt.mpr early),
      fun _ => ⟨rfl, rfl⟩⟩
  next early =>
    exact ⟨by simp [rolledUsage], ⟨rfl, rfl, rfl⟩, ⟨rfl, rfl, rfl, rfl⟩, fun _ => ⟨rfl, rfl⟩,
      fun later => absurd later early⟩

theorem rolledTo_invalid {s : State} {p : Profile} (invalid : p.valid = false) (l : Nat) (a : Acct) (u : Usage) :
    rolledTo s l a p u = u := by
  simp [rolledTo, dayRolled, weekRolled, invalid]

theorem checkedUsage_kept {s : State} {l : Nat} {p : Profile} (kept : p.valid = false ∨ ¬ RollsOver s l) (u : Usage) :
    checkedUsage s l p u = u := by
  by_cases rolls : RollsOver s l
  · obtain ⟨a, known, later⟩ := rolls
    rw [checkedUsage_rolls known later]
    exact rolledTo_invalid (kept.resolve_right (not_not_intro ⟨a, known, later⟩)) l a u
  · exact checkedUsage_idle rolls p u

/-- The check grants no extension. -/
theorem checkedUsage_ext {s : State} {l : Nat} {c : Fin 7} {x : Option Extension} {y : Extension}
    (held : (checkedUsage s l (s.child c) { s.usage c with ext := x }).ext = some y) : x = some y := by
  by_cases kept : (s.child c).valid = false ∨ ¬ RollsOver s l
  · rwa [checkedUsage_kept kept] at held
  · rw [not_or, Bool.not_eq_false, not_not] at kept
    obtain ⟨valid, a, known, later⟩ := kept
    obtain ⟨none, -⟩ := (rolledTo_rolledOver valid l a x).flags
    rw [checkedUsage_rolls known later, none] at held
    cases held

/-! ### The payload (R168) -/

theorem startClock_usage (wall : Nat) (zone : Int) (s : State) (c : Fin 7) :
    (startClock wall zone s).usage c = (s.usage c).toWall wall s.vtu.uptime := by
  rw [startClock_eq]
  exact mapUsage_usage _ _ c

/-- The payload speaks of VTU, the profiles and the settings alone. -/
theorem clockPayload_congr {s t : State} (vtu : t.vtu = s.vtu) (pss : t.pss = s.pss)
    (settings : t.sc.settings = s.sc.settings) (wall : Nat) (zone : Int) :
    clockPayload wall zone t = clockPayload wall zone s := by
  have made := clockSet_made wall zone t
  have made' := clockSet_made wall zone s
  have acct := checkedAcct_congr (congrArg VTU.acct vtu) settings
  have checked := checkedUsage_congr (congrArg VTU.acct vtu) settings
  have child := child_of_pss _ _ pss
  have usage := usage_of_vtu _ _ vtu
  have curfew := curfewActive_of_vtu vtu
  have differs : ∀ c, vtuDiffers t (clockBeforeReports wall zone t) c = vtuDiffers s (clockBeforeReports wall zone s) c := by
    intro c
    simp only [vtuDiffers, made.usage, made'.usage, made.curfew, made'.curfew, checked, child, usage, curfew, vtu]
  have ends : endsExtension wall (startClock wall zone t) = endsExtension wall (startClock wall zone s) := by
    simp only [endsExtension, startClock_usage, usage, vtu]
  have counts : differingCount t (clockBeforeReports wall zone t) = differingCount s (clockBeforeReports wall zone s) := by
    simp only [differingCount, differs]
  simp only [clockPayload, made.acct, made'.acct, acct, ends, counts, vtu, State.wallShown, State.wallNow]

theorem clockSet_acts {wall : BitVec 32} {zone : BitVec 16} (known : wall ≠ 0xFFFFFFFF) (least : -720 ≤ zone.toInt)
    (most : zone.toInt ≤ 840) (x : TakeCtx) (s : State) : (clockSet wall zone).act x s
      = accept (setClock wall.toNat zone.toInt s) false (clockPayload wall.toNat zone.toInt s) := by
  have inRange : ¬ (zone.toInt < -720 ∨ 840 < zone.toInt) := by omega
  simp only [clockSet, Handler.free, if_neg known, if_neg inRange]

/-! ### The slots (R117) -/

theorem onlySlots_reportDiffering (s t : State) : OnlySlots t (reportDiffering s t) := by
  refine forChildren_induct (P := OnlySlots t) _ (fun c u sofar => ?_) t (.refl t)
  split
  · exact sofar.trans (onlySlots_reportProfile _ _)
  · exact sofar

/-- The slots with their unlocks' ends in wall time (R117 step 1). -/
def State.unlocksToWall (s : State) (wall : Nat) : State :=
  forSlots (fun i t => t.setSlot i
    { t.slot i with unlock := (t.slot i).unlock.map fun u => u.toWall wall s.vtu.uptime }) s

theorem onlySlots_unlocksToWall (wall : Nat) (s : State) : OnlySlots s (s.unlocksToWall wall) :=
  forSlots_induct (P := OnlySlots s) _ (fun i t sofar => sofar.trans (onlySlots_setSlot t i _)) s (.refl s)

theorem SlotBasisKept.trans {s t u : State} {i : Fin 4} (a : SlotBasisKept s t i) (b : SlotBasisKept t u i) :
    SlotBasisKept s u i :=
  ⟨b.item.trans a.item, b.bound.trans a.bound, b.pending.trans a.pending, b.picture.trans a.picture,
    b.frames.trans a.frames⟩

theorem slotBasis_refl (s : State) (i : Fin 4) : SlotBasisKept s s i := ⟨rfl, rfl, rfl, rfl, rfl⟩

theorem slotBasis_unlocksToWall (wall : Nat) (s : State) (i : Fin 4) : SlotBasisKept s (s.unlocksToWall wall) i := by
  refine forSlots_induct (P := fun t => SlotBasisKept s t i) _ (fun j t sofar => sofar.trans ?_) s (slotBasis_refl s i)
  by_cases here : i = j
  · subst here
    constructor <;> rw [slot_setSlot_same]
  · exact (slotBasis_refl t i).congr rfl (slot_setSlot_other _ _ _ _ here)

theorem slotBasis_reportDiffering (s t : State) (i : Fin 4) : SlotBasisKept t (reportDiffering s t) i := by
  refine forChildren_induct (P := fun u => SlotBasisKept t u i) _ (fun c u sofar => ?_) t (slotBasis_refl t i)
  split
  · exact sofar.trans (slotsTouched_reportProfile _ u i).1
  · exact sofar

section
variable (wall : Nat) (zone : Int) (s : State)

/-- The state once the reports are made. -/
def State.clockReported : State := reportDiffering s ((clockBeforeReports wall zone s).markDirty .settings)

theorem setClock_eq :
    setClock wall zone s = reevaluateWhere (fun _ => true) ((s.clockReported wall zone).unlocksToWall wall) := rfl

theorem onlySlots_clockReported :
    OnlySlots ((clockBeforeReports wall zone s).markDirty .settings) (s.clockReported wall zone) :=
  onlySlots_reportDiffering s _

theorem onlySlots_unlocksClocked :
    OnlySlots ((clockBeforeReports wall zone s).markDirty .settings) ((s.clockReported wall zone).unlocksToWall wall) :=
  (onlySlots_clockReported wall zone s).trans (onlySlots_unlocksToWall wall (s.clockReported wall zone))

/-- What the setting of the clock leaves is that of its steps 1 to 5, and the settings record marked, but for the slots. -/
theorem onlySlots_setClock : OnlySlots ((clockBeforeReports wall zone s).markDirty .settings) (setClock wall zone s) := by
  rw [setClock_eq]
  exact (onlySlots_unlocksClocked wall zone s).trans (onlySlots_reevaluateWhere _ _)

theorem slotBasis_unlocksClocked (i : Fin 4) :
    SlotBasisKept s ((s.clockReported wall zone).unlocksToWall wall) i := by
  have made := clockSet_made wall zone s
  have reported : SlotBasisKept ((clockBeforeReports wall zone s).markDirty .settings) (s.clockReported wall zone) i :=
    slotBasis_reportDiffering s _ i
  have walled := slotBasis_unlocksToWall wall (s.clockReported wall zone) i
  generalize clockBeforeReports wall zone s = b at *
  have sdu : (b.markDirty .settings).sdu = s.sdu := made.sdu
  have before : SlotBasisKept s (b.markDirty .settings) i := (slotBasis_refl s i).congr rfl (slot_of_sdu _ _ sdu i)
  exact (before.trans reported).trans walled

theorem slotBasis_setClock (i : Fin 4) : SlotBasisKept s (setClock wall zone s) i := by
  obtain ⟨judged, -⟩ := slotsTouched_reevaluateWhere (fun _ => true) ((s.clockReported wall zone).unlocksToWall wall) i
  exact (slotBasis_unlocksClocked wall zone s i).trans judged

/-- Every LIVE slot stands where the guide puts it at the new time (R116, R117). -/
theorem setClock_live (i : Fin 4) (service : Nat) (live : (s.slot i).item = .live service) :
    ((setClock wall zone s).slot i).current = (currentEvent s.prt.entries service wall).map Entry.key := by
  have made := clockSet_made wall zone s
  have only := onlySlots_unlocksClocked wall zone s
  have item := (slotBasis_unlocksClocked wall zone s i).item
  rw [setClock_eq]
  generalize (s.clockReported wall zone).unlocksToWall wall = r at *
  generalize clockBeforeReports wall zone s = b at *
  obtain ⟨t, kept, became⟩ := reevaluateWhere_picked (fun _ => true) r i rfl
  have now : t.wallNow = some wall := by
    have vtu : t.vtu = b.vtu := kept.vtu.trans only.vtu
    rw [State.wallNow, vtu, ← State.wallNow, made.wallNow, clocked_wallNow]
  have prt : t.prt = s.prt := (kept.prt.trans only.prt).trans made.prt
  rw [became, reevaluated, item, live, position_live t service wall now, prt]
  rfl

end

/-! ### The marks past the start of a commit (R186) -/

/-- A mark put to false is not set. -/
theorem putAt_false {n : Nat} {marks : Vector Bool n} {p q : Fin n} (set : (putAt marks p false)[q] = true) :
    marks[q] = true := by
  rw [putAt_read] at set
  split at set
  · cases set
  · exact set

/-- The beginning of a write sets no mark. -/
theorem beginWrite_marks (r : RecordId) (s : State) (c : Fin 7) :
    ((beginWrite r s).sc.changed[c] = true → s.sc.changed[c] = true)
      ∧ ((beginWrite r s).isDirty (.usage c) = true → s.isDirty (.usage c) = true) := by
  have dirty : (beginWrite r s).sc.dirty = putAt s.sc.dirty r.place false := by cases r <;> rfl
  refine ⟨fun set => ?_, fun set => ?_⟩
  · cases r with
    | usage d => exact putAt_false (p := d) set
    | pin | lane | profile | services | settings => exact set
  · rw [State.isDirty, dirty] at set
    exact putAt_false set

/-- The start of a commit sets no mark. -/
theorem startCommit_marks (s : State) (c : Fin 7) : ((startCommit s).sc.changed[c] = true → s.sc.changed[c] = true)
    ∧ ((startCommit s).isDirty (.usage c) = true → s.isDirty (.usage c) = true) := by
  unfold startCommit
  split
  · exact ⟨id, id⟩
  · simp only
    split
    · exact beginWrite_marks _ { s with sc.failed := Vector.replicate 18 false } c
    · exact ⟨id, id⟩

theorem presentRecord_marks (i : Instr) (hd : Header) (code : Byte) (body : List Byte) (s : State) (c : Fin 7)
    (listening : Listening s hd) :
    ((presentRecord (handlerOf i) hd code body s).sc.changed[c] = true →
        (s.judged (handlerOf i) hd code body).state.sc.changed[c] = true)
      ∧ ((presentRecord (handlerOf i) hd code body s).isDirty (.usage c) = true →
        (s.judged (handlerOf i) hd code body).state.isDirty (.usage c) = true) := by
  rw [presentRecord_listening i hd code body s listening]
  exact startCommit_marks (advanceLane hd.lane
    (replyTo hd code (s.lane hd.lane).expected (s.judged (handlerOf i) hd code body))) c

/-- What an accepted record that needs no PIN leaves where its owner left `u`: the lane's reply, and of the rest what the
owner left; what the owner left dirty is written soon, and no mark is set past it (R44, R49, R186). -/
theorem free_accepted (i : Instr) (cls : CmdClass) (length : Nat) (act : TakeCtx → State → Taken) (hd : Header)
    (code : Byte) (body : List Byte) (s u : State) (payload : List Byte) (parts : recordParts i = some (hd, code, body))
    (handler : handlerOf i = some (.free cls length act)) (ready : Ready s hd cls length)
    (acts : ∀ x, act x (s.closedIn hd code body) = accept u false payload) (lc : u.lc = (s.closedIn hd code body).lc) :
    ∃ t, Runs i s t ∧ Answered s t hd code 0 false payload ∧ Posted u t ∧ ClassesKept s t
      ∧ (∀ q, u.isDirty q = true → WrittenSoon t q) ∧ ∀ c, Unmarked u t c := by
  have judged : s.judged (handlerOf i) hd code body = accept u false payload :=
    (judged_free i _ hd code body s handler ready rfl).trans (acts _)
  have answered := presentRecord_answered i hd code body s ready.toListening
  have posted := presentRecord_posted i hd code body s ready.toListening
  have written q := presentRecord_writtenSoon i hd code body s q ready.toListening
  have marks c := presentRecord_marks i hd code body s c ready.toListening
  rw [judged] at answered posted written marks
  exact ⟨_, runs_record i _ hd code body s parts handler, answered lc, posted, posted.classesKept lc, written, marks⟩

end Sys2Proof.Machine
end

section
open Sys2Proof Sys2Proof.Machine

/-- Settles O32: steps 1 to 5 of R152 are followed child by child, and the reports and the slots' response after them touch
the slots alone. -/
theorem clockSetSets : Obligations.ClockSetSets := by
  intro s h wall zone ready known least most
  obtain ⟨body, parts⟩ : ∃ body, recordParts (.clockSet h wall zone) = some (h, 0x40, body) := ⟨_, rfl⟩
  have made := clockSet_made wall.toNat zone.toInt (s.closedIn h 0x40 body)
  have only := onlySlots_setClock wall.toNat zone.toInt (s.closedIn h 0x40 body)
  have live := setClock_live wall.toNat zone.toInt (s.closedIn h 0x40 body)
  have basis := slotBasis_setClock wall.toNat zone.toInt (s.closedIn h 0x40 body)
  obtain ⟨t, runs, answered, posted, classes, written, marks⟩ := free_accepted (.clockSet h wall zone) _ _ _ h 0x40 body s _ _
    parts rfl ready (fun x => clockSet_acts known least most x _) (setClock_lc _ _ _)
  have payload : clockPayload wall.toNat zone.toInt (s.closedIn h 0x40 body) = clockPayload wall.toNat zone.toInt s :=
    clockPayload_congr (s := s) (t := s.closedIn h 0x40 body) rfl rfl rfl wall.toNat zone.toInt
  rw [payload] at answered
  generalize setClock wall.toNat zone.toInt (s.closedIn h 0x40 body) = u at *
  generalize clockBeforeReports wall.toNat zone.toInt (s.closedIn h 0x40 body) = b at *
  have vtu : t.vtu = b.vtu := posted.vtu.trans only.vtu
  have shown : ∀ i, t.slot i = u.slot i := slot_of_sdu _ _ posted.sdu
  have clock : t.vtu.clock = some { wall := wall.toNat, since := s.vtu.uptime } := (congrArg VTU.clock vtu).trans made.clock
  have uptime : t.vtu.uptime = s.vtu.uptime := (congrArg VTU.uptime vtu).trans made.uptime
  have checked : checkedUsage (s.closedIn h 0x40 body) = checkedUsage s := checkedUsage_congr rfl rfl
  have usage : ∀ c, t.usage c = checkedUsage s (localSeconds wall.toNat zone.toInt) (s.child c)
      ((s.usage c).clocked wall.toNat s.vtu.uptime) := fun c =>
    ((usage_of_vtu _ _ vtu c).trans (made.usage c)).trans (by rw [checked]; rfl)
  have acct : t.vtu.acct = checkedAcct s (localSeconds wall.toNat zone.toInt) := (congrArg VTU.acct vtu).trans made.acct
  have dirty : ∀ q, b.isDirty q = true → WrittenSoon t q := fun q marked => written q <| by
    rw [isDirty_of_sc only.sc]
    exact isDirty_markDirty_grow .settings marked
  refine ⟨t, runs, answered, clock, uptime, ?_, ?_, written _ ?_, fun c valid => ?_, fun c x held => ?_, ?_,
    fun a stored later c => ⟨?_, fun valid => ?_⟩, fun c kept => ⟨?_, fun none => ?_, fun x e held ends => ?_⟩,
    fun idle c same => ?_, fun i service item => ?_, fun i => ?_, ?_, ?_, classes, ?_⟩
  · rw [State.wallNow, clock, uptime]
    simp
  · exact posted.settings.trans ((congrArg SC.settings only.sc).trans made.settings)
  · rw [isDirty_of_sc only.sc]
    exact isDirty_markDirty_same b .settings
  · exact (curfewActive_of_vtu vtu c).trans ((made.curfew c).trans (if_pos valid))
  · rw [usage] at held
    exact clockedExt_ahead (checkedUsage_ext held)
  · exact acct ▸ checkedAcct_checked s _
  · exact dirty _ (made.dirty ⟨a, stored, later⟩ c)
  · rw [usage, checkedUsage_rolls stored later]
    exact rolledTo_rolledOver valid _ a _
  · rw [usage, checkedUsage_kept kept]
    rfl
  · rw [usage, checkedUsage_kept kept, Usage.clocked, none]
    rfl
  · have wallAt : x.expiry.wallAt wall.toNat s.vtu.uptime = e := by
      rcases ends with wall | ⟨u, uptime, rfl⟩
      · rw [wall]; rfl
      · rw [uptime]; rfl
    rw [usage, checkedUsage_kept kept, ← wallAt, ← clockedExt_some, ← held]
    rfl
  · have clocked : (s.usage c).clocked wall.toNat s.vtu.uptime = s.usage c :=
      (checkedUsage_idle idle _ _).symm.trans ((usage c).symm.trans same)
    obtain ⟨changed, unmarked⟩ := made.idle idle c clocked
    obtain ⟨set, marked⟩ := marks c
    have apart : (RecordId.usage c).place ≠ RecordId.settings.place := fun place => nomatch place_injective place
    refine ⟨fun now => ?_, fun now => ?_⟩
    · have before : b.sc.changed[c] = true := (congrArg (fun sc : SC => sc.changed[c]) only.sc).symm.trans (set now)
      exact changed.symm.trans before
    · have before : (b.markDirty .settings).isDirty (.usage c) = true := (isDirty_of_sc only.sc _).symm.trans (marked now)
      exact unmarked.symm.trans ((putAt_other _ _ _ _ apart).symm.trans before)
  · rw [shown]
    exact live i service item
  · exact (basis i).congr rfl (shown i)
  · exact ⟨(posted.ct.trans only.ct).trans made.ct, (posted.wd.trans only.wd).trans made.wd,
      (posted.prt.trans only.prt).trans made.prt⟩
  · exact ⟨(posted.enable.trans only.enable).trans (congrArg AU.enable made.au),
      (posted.warned.trans only.warned).trans (congrArg AU.warned made.au),
      (posted.capture.trans only.capture).trans (congrArg AU.capture made.au)⟩
  · exact (posted.pss.trans only.pss).trans made.pss

end

section
/-! PROOFS. ALLOWANCE_GRANT and USAGE_RESET (R132, R144, R176, R185; log 13). -/

namespace Sys2Proof.Machine

/-! ### A usage record replaced and restored (R144, R185) -/

/-- Child `c`'s usage record replaced by `v`, marked, and the profile restored (R144, R176). -/
def regrant (c : Fin 7) (v : Usage) (s : State) : State := restore c ((s.setUsage c v).markDirty (.usage c))

/-- A record `v` as the restoration steps leave it at remaining time `r` and a warning bound: its figures kept, its flags and
extension cleared where time is left (R144). -/
structure Regained (v w : Usage) (r : Option Nat) (bound : Nat) : Prop where
  today : w.today = v.today
  acc : w.acc = v.acc
  week : w.week = v.week
  carry : w.carry = v.carry
  bonus : w.bonus = v.bonus
  weekBonus : w.weekBonus = v.weekBonus
  extUsed : w.extUsed = v.extUsed
  above : aboveZero r = true → w.exhausted = false ∧ w.ext = none ∧ w.warned = (v.warned && !aboveBound r bound)
  spent : aboveZero r = false → w.exhausted = v.exhausted ∧ w.ext = v.ext ∧ w.warned = v.warned

theorem regained_restored (v : Usage) (r : Option Nat) (bound : Nat) : Regained v (v.restored r bound) r bound := by
  cases above : aboveZero r with
  | true =>
    rw [restored_above _ _ above]
    exact ⟨rfl, rfl, rfl, rfl, rfl, rfl, rfl, fun _ => ⟨rfl, rfl, rfl⟩,
      fun spent => absurd (spent.symm.trans above) Bool.false_ne_true⟩
  | false =>
    rw [restored_spent _ _ above]
    exact ⟨rfl, rfl, rfl, rfl, rfl, rfl, rfl, fun more => absurd (above.symm.trans more) Bool.false_ne_true,
      fun _ => ⟨rfl, rfl, rfl⟩⟩

section
variable (c : Fin 7) (v : Usage) (s : State)

theorem onlyChild_regrant : OnlyChild c s (regrant c v s) :=
  ((onlyChild_setUsage c v s).trans (onlyChild_markDirty c _ _)).trans (onlyChild_restore c _)

theorem regrant_pss : (regrant c v s).pss = s.pss :=
  (((onlyViewing_setUsage s c v).trans (onlyViewing_markDirty _ _)).trans (onlyViewing_restore c _)).pss

/-- The remaining time that the restoration steps go by (R134, R144). -/
theorem replaced_remaining : ((s.setUsage c v).markDirty (.usage c)).remainingChild c
    = remainingTime (s.child c) v s.weekendClass := by
  have only := (onlyChild_setUsage c v s).trans (onlyChild_markDirty c (.usage c) _)
  have own : ((s.setUsage c v).markDirty (.usage c)).usage c = v := usage_setUsage_same s c v
  rw [State.remainingChild, only.weekendClass, own,
    child_of_pss s _ ((onlyViewing_setUsage s c v).trans (onlyViewing_markDirty _ (.usage c))).pss]

theorem regrant_usage : (regrant c v s).usage c
    = v.restored (remainingTime (s.child c) v s.weekendClass) ((s.child c).warn * 60) := by
  have own : ((s.setUsage c v).markDirty (.usage c)).usage c = v := usage_setUsage_same s c v
  rw [regrant, restore_usage, replaced_remaining, own,
    child_of_pss s _ ((onlyViewing_setUsage s c v).trans (onlyViewing_markDirty _ (.usage c))).pss]

theorem regrant_remaining : (regrant c v s).remainingChild c = remainingTime (s.child c) v s.weekendClass := by
  rw [State.remainingChild, (onlyChild_regrant c v s).weekendClass, regrant_usage, remainingTime_restored,
    child_of_pss _ _ (regrant_pss c v s)]

theorem regrant_regained :
    Regained v ((regrant c v s).usage c) ((regrant c v s).remainingChild c) ((s.child c).warn * 60) := by
  rw [regrant_remaining, regrant_usage]
  exact regained_restored v _ _

/-- Restoring clears no dirty mark. -/
theorem restore_isDirty {r : RecordId} (dirty : s.isDirty r = true) : (restore c s).isDirty r = true := by
  unfold restore
  split
  · have marked : ∀ u, ((s.setUsage c u).markDirty (.usage c)).isDirty r = true := fun u =>
      isDirty_markDirty_grow (.usage c) ((setUsage_isDirty s c u r).trans dirty)
    simp only
    split
    · exact (isDirty_of_sc (reportProfile_sc _ _) r).trans (marked _)
    · exact marked _
  · exact dirty

theorem regrant_isDirty : (regrant c v s).isDirty (.usage c) = true :=
  restore_isDirty c _ (isDirty_markDirty_same _ _)

end

/-! ### The commands (R176) -/

theorem allowanceGrant_acts {profile minutes : Byte} {c : Fin 7} {s : State} (x : TakeCtx)
    (named : validChildField s profile = some c) (nonzero : minutes ≠ 0) :
    (allowanceGrant profile minutes).act x s
      = accept (regrant c ((s.usage c).granted (min 240 minutes.toNat)) s) (grantClamps (s.usage c) minutes.toNat)
          (grantPayload c (aboveZero (remainingTime (s.child c) ((s.usage c).granted (min 240 minutes.toNat))
            s.weekendClass)) (regrant c ((s.usage c).granted (min 240 minutes.toNat)) s)) := by
  simp only [allowanceGrant, Handler.gated, named, if_neg nonzero, replaced_remaining, regrant]

theorem usageReset_acts {profile week : Byte} {c : Fin 7} {w : Bool} {s : State} (x : TakeCtx)
    (named : validChildField s profile = some c) (flag : flagField week = some w) :
    (usageReset profile week).act x s
      = accept (regrant c ((s.usage c).reset w) s) false
          (grantPayload c (aboveZero (remainingTime (s.child c) ((s.usage c).reset w) s.weekendClass))
            (regrant c ((s.usage c).reset w) s)) := by
  simp only [usageReset, Handler.gated, named, flag, replaced_remaining, regrant]

/-- What a command leaves that replaces child `c`'s usage record by `v` and restores it (R48, R144, R176). -/
structure Regranted (c : Fin 7) (v : Usage) (s t : State) : Prop extends ChildEdited c s t where
  record : Regained v (t.usage c) (t.remainingChild c) ((s.child c).warn * 60)
  written : WrittenSoon t (.usage c)
  profiles : t.pss.profiles = s.pss.profiles
  services : t.pss.services = s.pss.services

/-- A ready gated record, its PIN requirement met, whose owner replaces child `c`'s usage record and restores it; the payload
tells of the record and the remaining time after (R176). -/
theorem regrantCommand (c : Fin 7) (i : Instr) (act : TakeCtx → State → Taken) (hd : Header) (code : Byte)
    (body : List Byte) (s : State) (v : Usage) (adjusted : Bool) (parts : recordParts i = some (hd, code, body))
    (handler : handlerOf i = some (.gated .admin 2 act)) (ready : Ready s hd .admin 2) (passes : PinPasses s hd)
    (acts : ∀ x, act x (s.admitted hd code body) = accept (regrant c v (s.admitted hd code body)) adjusted
      (grantPayload c (aboveZero (remainingTime ((s.admitted hd code body).child c) v
        (s.admitted hd code body).weekendClass)) (regrant c v (s.admitted hd code body)))) :
    ∃ t, Runs i s t ∧ Regranted c v s t
      ∧ Answered s t hd code (if adjusted then 1 else 0) adjusted (grantPayload c (aboveZero (t.remainingChild c)) t) := by
  have only := onlyChild_regrant c v (s.admitted hd code body)
  have record := regrant_regained c v (s.admitted hd code body)
  have pss := regrant_pss c v (s.admitted hd code body)
  have dirty := regrant_isDirty c v (s.admitted hd code body)
  rw [← regrant_remaining] at acts
  generalize regrant c v (s.admitted hd code body) = u at *
  obtain ⟨t, runs, answered, posted, edited, soon⟩ := childCommand c i 2 act hd code body s u adjusted _ parts handler ready
    passes acts only
  have usage := usage_of_vtu _ _ posted.vtu c
  have remaining := remainingChild_eq posted.pss posted.vtu posted.settings c
  have payload : grantPayload c (aboveZero (u.remainingChild c)) u = grantPayload c (aboveZero (t.remainingChild c)) t := by
    simp only [grantPayload, usage, remaining]
  rw [payload] at answered
  rw [← usage, ← remaining, admitted_child] at record
  refine ⟨t, runs, ⟨edited, record, soon _ dirty, ?_, ?_⟩, answered⟩
  · rw [posted.pss, pss, admitted_profiles]
  · rw [posted.pss, pss, admitted_services]

end Sys2Proof.Machine
end

section
open Sys2Proof Sys2Proof.Machine

/-- Settles O37: each command's owner replaces the profile's usage record and restores it, which the reply tells of. -/
theorem grantAndReset : Obligations.GrantAndReset := by
  intro s h profile c ready passes named
  refine ⟨fun minutes nonzero => ?_, fun week w flag => ?_⟩
  · obtain ⟨body, parts⟩ : ∃ body, recordParts (.allowanceGrant h profile minutes) = some (h, 0x67, body) := ⟨_, rfl⟩
    have namedThen := (admitted_validChildField s h 0x67 body profile).trans named
    obtain ⟨t, runs, made, answered⟩ := regrantCommand c (.allowanceGrant h profile minutes) _ h 0x67 body s _ _ parts rfl
      ready passes fun x => allowanceGrant_acts x namedThen nonzero
    rw [admitted_usage] at made answered
    have record := made.record
    refine ⟨t, runs, record.bonus, record.weekBonus, record.today, record.week, record.carry, record.extUsed, record.above,
      record.spent, made.written, made.pin, made.usages, made.profiles, made.services, made.slots, ?_, made.traffic,
      made.quiet, made.classes, made.settings⟩
    rintro clamps rfl
    exact answered
  · obtain ⟨body, parts⟩ : ∃ body, recordParts (.usageReset h profile week) = some (h, 0x68, body) := ⟨_, rfl⟩
    have namedThen := (admitted_validChildField s h 0x68 body profile).trans named
    obtain ⟨t, runs, made, answered⟩ := regrantCommand c (.usageReset h profile week) _ h 0x68 body s _ _ parts rfl
      ready passes fun x => usageReset_acts x namedThen flag
    rw [admitted_usage] at made
    have record := made.record
    exact ⟨t, runs, record.today, record.acc, record.week, record.weekBonus, record.bonus, record.carry, record.extUsed,
      record.above, record.spent, made.written, made.pin, made.usages, made.profiles, made.services, made.slots, answered,
      made.traffic, made.quiet, made.classes, made.settings⟩

end

section
/-! PROOFS. One child profile's part of the accounting tick: the charge, the warning test, the exhaustion test and the
extension grant, in one usage record and in the state; and all seven parts, each of which leaves the others' records alone
(R135 to R141, R185). -/

namespace Sys2Proof.Machine

/-! ### A usage record at a tick (R137 to R141) -/

/-- The record after the warning test at remaining time `r` (R138). -/
def Usage.warnedAt (u : Usage) (r : Option Nat) (bound : Nat) : Usage :=
  { u with warned := u.warned || dueForWarning r bound }

/-- The record under the extension that a candidate gives it, if there is one (R141). -/
def Usage.extended (u : Usage) : Option Candidate → Usage
  | none => u
  | some k => { u with ext := some { key := k.key, expiry := k.expiry }, extUsed := true }

/-- The record after the exhaustion test at remaining time `r`, the grant choosing `k` (R139, R141). -/
def Usage.exhaustedAt (u : Usage) (r : Option Nat) (k : Option Candidate) : Usage :=
  if r = some 0 ∧ u.exhausted = false then { u with exhausted := true }.extended k else u

/-- The record charged a weight `w` under profile `p`, then warned and exhausted by the time that leaves. -/
def Usage.charged (u : Usage) (p : Profile) (weekend : Bool) (w : Nat) (k : Option Candidate) : Usage :=
  ((accrue w u).warnedAt (remainingTime p (accrue w u) weekend) (p.warn * 60)).exhaustedAt
    (remainingTime p (accrue w u) weekend) k

/-- What a charge makes of a record's figures and flags, by the remaining time it leaves. -/
structure UsageCharged (u v : Usage) (w bound : Nat) (r : Option Nat) (k : Option Candidate) : Prop where
  acc : v.acc = (u.acc + w) % 8
  today : v.today = min 86400 (u.today + (u.acc + w) / 8)
  week : v.week = min 604800 (u.week + (u.acc + w) / 8)
  carry : v.carry = u.carry
  bonus : v.bonus = u.bonus
  weekBonus : v.weekBonus = u.weekBonus
  warned : v.warned = (u.warned || dueForWarning r bound)
  exhausted : v.exhausted = (u.exhausted || decide (r = some 0))
  goesOn : v.exhausted = u.exhausted ∨ k = none → v.ext = u.ext ∧ v.extUsed = u.extUsed
  granted : v.exhausted ≠ u.exhausted → ∀ x, k = some x →
    v.ext = some { key := x.key, expiry := x.expiry } ∧ v.extUsed = true

theorem usageCharged (u : Usage) (p : Profile) (weekend : Bool) (w : Nat) (k : Option Candidate) :
    UsageCharged u (u.charged p weekend w k) w (p.warn * 60) (remainingTime p (u.charged p weekend w k) weekend) k := by
  have time : remainingTime p (u.charged p weekend w k) weekend = remainingTime p (accrue w u) weekend := by
    unfold Usage.charged Usage.exhaustedAt Usage.extended
    split
    · cases k <;> rfl
    · rfl
  rw [time, Usage.charged]
  generalize remainingTime p (accrue w u) weekend = r
  unfold Usage.exhaustedAt
  split
  next out =>
    obtain ⟨spent, running⟩ := out
    have before : u.exhausted = false := running
    cases k with
    | none =>
      refine ⟨rfl, rfl, rfl, rfl, rfl, rfl, rfl, ?_, fun _ => ⟨rfl, rfl⟩, fun _ _ => nofun⟩
      rw [before, decide_eq_true spent]
      rfl
    | some x =>
      refine ⟨rfl, rfl, rfl, rfl, rfl, rfl, rfl, ?_, fun goesOn => ?_, fun _ y same => ?_⟩
      · rw [before, decide_eq_true spent]
        rfl
      · obtain same | none := goesOn
        · exact absurd (same.trans before).symm Bool.false_ne_true
        · cases none
      · cases same
        exact ⟨rfl, rfl⟩
  next goesOn =>
    refine ⟨rfl, rfl, rfl, rfl, rfl, rfl, rfl, ?_, fun _ => ⟨rfl, rfl⟩, fun changed => absurd rfl changed⟩
    show u.exhausted = _
    cases before : u.exhausted with
    | true => rfl
    | false => exact (decide_eq_false fun spent => goesOn ⟨spent, before⟩).symm

/-! ### What a tick moves -/

/-- Between `s` and `t` nothing moved but usage records, their marks, and the causes and warnings raised; none of these was
taken back. -/
structure Ticking (s t : State) : Prop extends OnlyViewing s t, MarksGrow s t where
  sdu : t.sdu = s.sdu
  acct : t.vtu.acct = s.vtu.acct
  curfew : t.vtu.curfew = s.vtu.curfew
  warned : ∀ p, inSet s.au.warned p = true → inSet t.au.warned p = true

/-- The usage record of child `c` and its marks are kept. -/
structure UsageStands (c : Fin 7) (s t : State) : Prop where
  usage : t.usage c = s.usage c
  changed : t.sc.changed[c] = s.sc.changed[c]
  dirty : t.isDirty (.usage c) = s.isDirty (.usage c)

/-- A tick's part of child `c`. -/
structure TickEdit (c : Fin 7) (s t : State) : Prop extends Ticking s t where
  others : ∀ d, d ≠ c → UsageStands d s t

section
variable {c : Fin 7} {s t u : State}

theorem Ticking.refl (s : State) : Ticking s s := ⟨.refl s, .refl s, rfl, rfl, rfl, fun _ => id⟩

theorem Ticking.trans (a : Ticking s t) (b : Ticking t u) : Ticking s u :=
  ⟨a.toOnlyViewing.trans b.toOnlyViewing, a.toMarksGrow.trans b.toMarksGrow, b.sdu.trans a.sdu, b.acct.trans a.acct,
    b.curfew.trans a.curfew, fun p member => b.warned p (a.warned p member)⟩

theorem UsageStands.refl (c : Fin 7) (s : State) : UsageStands c s s := ⟨rfl, rfl, rfl⟩

theorem UsageStands.trans (a : UsageStands c s t) (b : UsageStands c t u) : UsageStands c s u :=
  ⟨b.usage.trans a.usage, b.changed.trans a.changed, b.dirty.trans a.dirty⟩

theorem TickEdit.refl (c : Fin 7) (s : State) : TickEdit c s s := ⟨.refl s, fun d _ => .refl d s⟩

theorem TickEdit.trans (a : TickEdit c s t) (b : TickEdit c t u) : TickEdit c s u :=
  ⟨a.toTicking.trans b.toTicking, fun d other => (a.others d other).trans (b.others d other)⟩

theorem Ticking.weekendClass (h : Ticking s t) : t.weekendClass = s.weekendClass := by
  rw [State.weekendClass, h.acct, h.settings]
  rfl

end

theorem tickEdit_setUsage (c : Fin 7) (u : Usage) (s : State) : TickEdit c s (s.setUsage c u) := by
  obtain ⟨acct, curfew, dirty⟩ := setUsage_moves s c u
  have au := setUsage_au s c u
  have only := onlyViewing_setUsage s c u
  exact ⟨⟨only, marksGrow_of_same dirty au only.faultSeen, setUsage_sdu s c u, acct, curfew, fun p => by rw [au]; exact id⟩,
    fun d other => ⟨usage_setUsage_other s c d u other, setUsage_changed_other u other, setUsage_isDirty s c u _⟩⟩

theorem tickEdit_raise (c : Fin 7) (cause : Cause) (s : State) : TickEdit c s (s.raise cause) :=
  ⟨⟨onlyViewing_raise s cause, marksGrow_raise s cause, rfl, rfl, rfl, fun _ => id⟩, fun _ _ => ⟨rfl, rfl, rfl⟩⟩

theorem inSet_joined (set : BitVec 8) (p : Fin 8) : inSet (set ||| (1#8 <<< p.val)) p.val = true := by
  rw [inSet, BitVec.getLsbD_or, BitVec.getLsbD_shiftLeft]
  simp

theorem inSet_or (set added : BitVec 8) (p : Nat) (member : inSet set p = true) : inSet (set ||| added) p = true := by
  rw [inSet] at member ⊢
  rw [BitVec.getLsbD_or, member, Bool.true_or]

theorem tickEdit_addWarned (c : Fin 7) (p : Fin 8) (s : State) : TickEdit c s (s.addWarned p) :=
  ⟨⟨onlyViewing_addWarned s p, ⟨fun _ => id, fun _ => id, id⟩, rfl, rfl, rfl, fun q => inSet_or _ _ q⟩,
    fun _ _ => ⟨rfl, rfl, rfl⟩⟩

theorem tickEdit_markDirty (c : Fin 7) (s : State) : TickEdit c s (s.markDirty (.usage c)) := by
  refine ⟨⟨onlyViewing_markDirty s _, marksGrow_markDirty s _, rfl, rfl, rfl, fun _ => id⟩, fun d other => ⟨rfl, rfl, ?_⟩⟩
  have apart : (RecordId.usage d).place ≠ (RecordId.usage c).place := fun place => by
    cases place_injective place
    exact other rfl
  exact putAt_other _ _ _ _ apart

/-! ### The tests (R138, R139) -/

/-- The warning test leaves everything as it was, or warns the profile, which it had not been today, and WARN is raised
(R138, R196). -/
theorem warningTest_cases (c : Fin 7) (s : State) :
    (warningTest c s = s ∧ (s.usage c).warnedAt (s.remainingChild c) ((s.child c).warn * 60) = s.usage c)
    ∨ ((s.usage c).warned = false ∧ TickEdit c s (warningTest c s)
      ∧ (warningTest c s).usage c = (s.usage c).warnedAt (s.remainingChild c) ((s.child c).warn * 60)
      ∧ ((warningTest c s).usage c).warned = true
      ∧ (warningTest c s).au.status &&& Cause.warn.bit = Cause.warn.bit
      ∧ inSet (warningTest c s).au.warned (childNumber c).val = true) := by
  unfold warningTest Usage.warnedAt
  split
  next fires =>
    obtain ⟨due, fresh⟩ := (Bool.and_eq_true _ _).mp fires
    have fresh : (s.usage c).warned = false := by simpa using fresh
    have own : (((s.setUsage c { s.usage c with warned := true }).addWarned (childNumber c)).raise .warn).usage c
      = { s.usage c with warned := true } := usage_setUsage_same s c _
    refine .inr ⟨fresh, ((tickEdit_setUsage c _ s).trans (tickEdit_addWarned c _ _)).trans (tickEdit_raise c _ _), ?_, ?_,
      raised_bit _ _, inSet_joined _ _⟩
    · rw [own, fresh, due]
      rfl
    · rw [own]
  next rests =>
    refine .inl ⟨rfl, ?_⟩
    have same : ((s.usage c).warned || dueForWarning (s.remainingChild c) ((s.child c).warn * 60)) = (s.usage c).warned := by
      cases fresh : (s.usage c).warned with
      | true => rfl
      | false => simpa [fresh] using rests
    rw [same]

theorem tickEdit_warningTest (c : Fin 7) (s : State) : TickEdit c s (warningTest c s) := by
  rcases warningTest_cases c s with ⟨same, -⟩ | ⟨-, edit, -⟩
  · rw [same]
    exact .refl c s
  · exact edit

/-- The warning test's part in its usage record. -/
theorem warningTest_usage (c : Fin 7) (s : State) :
    (warningTest c s).usage c = (s.usage c).warnedAt (s.remainingChild c) ((s.child c).warn * 60) := by
  rcases warningTest_cases c s with ⟨same, unmoved⟩ | ⟨-, -, made, -⟩
  · rw [same, unmoved]
  · exact made

theorem grantExtension_usage (c : Fin 7) (s : State) :
    (grantExtension c s).usage c = (s.usage c).extended (grantChoice s c) := by
  unfold grantExtension
  split
  next none => rw [none]; rfl
  next k some => rw [some]; exact usage_setUsage_same s c _

theorem tickEdit_grantExtension (c : Fin 7) (s : State) : TickEdit c s (grantExtension c s) := by
  unfold grantExtension
  split
  · exact .refl c s
  · exact tickEdit_setUsage c _ s

/-! ### The grant's choice (R141, R143) -/

theorem candidateOf_congr {s t : State} (prt : t.prt = s.prt) (clock : t.vtu.clock = s.vtu.clock)
    (uptime : t.vtu.uptime = s.vtu.uptime) (c : Fin 7) (x : Slot) : candidateOf t c x = candidateOf s c x := by
  simp only [candidateOf, State.wallNow, prt, clock, uptime]

/-- The candidates that qualify for an extension of child `c`, in the order of the slots (R141). -/
def State.candidates (s : State) (c : Fin 7) : List Candidate :=
  (slotList.filterMap fun i => candidateOf s c (s.slot i)).filter fun k => k.qualifies (s.child c).extLimit

theorem grantChoice_eq (s : State) (c : Fin 7) :
    grantChoice s c = if (s.usage c).extUsed then none else earliestCandidate (s.candidates c) := rfl

theorem candidates_congr {s t : State} (h : OnlyViewing s t) (sdu : t.sdu = s.sdu) (c : Fin 7) :
    t.candidates c = s.candidates c := by
  simp only [State.candidates, slot_of_sdu s t sdu, child_of_pss s t h.pss, candidateOf_congr h.prt h.clock h.uptime]

/-- The choice asks of the usage record only whether an extension was used today. -/
theorem Ticking.grantChoice {s t : State} (h : Ticking s t) {c : Fin 7} (used : (t.usage c).extUsed = (s.usage c).extUsed) :
    grantChoice t c = grantChoice s c := by
  rw [grantChoice_eq, grantChoice_eq, used, candidates_congr h.toOnlyViewing h.sdu]

theorem profileWeight_congr {s t : State} (h : OnlyViewing s t) (sdu : t.sdu = s.sdu) (c : Fin 7) :
    profileWeight t c = profileWeight s c := by
  simp only [profileWeight, slotCategory, slot_of_sdu s t sdu, child_of_pss s t h.pss, h.prt, h.pss]

/-- The exhaustion test leaves everything as it was, or exhausts the profile, grants it what the grant chooses, marks its
record and raises TIME-UP (R139, R141, R185). -/
theorem exhaustionTest_cases (c : Fin 7) (s : State) :
    (exhaustionTest c s = s ∧ (s.usage c).exhaustedAt (s.remainingChild c) (grantChoice s c) = s.usage c)
    ∨ ((s.usage c).exhausted = false ∧ TickEdit c s (exhaustionTest c s)
      ∧ (exhaustionTest c s).usage c = (s.usage c).exhaustedAt (s.remainingChild c) (grantChoice s c)
      ∧ ((exhaustionTest c s).usage c).exhausted = true
      ∧ (exhaustionTest c s).au.status &&& Cause.timeUp.bit = Cause.timeUp.bit
      ∧ (exhaustionTest c s).isDirty (.usage c) = true) := by
  unfold exhaustionTest Usage.exhaustedAt
  by_cases fires : s.remainingChild c = some 0 ∧ (s.usage c).exhausted = false
  · rw [if_pos fires, if_pos fires]
    have raised : TickEdit c s ((s.setUsage c { s.usage c with exhausted := true }).raise .timeUp) :=
      (tickEdit_setUsage c _ s).trans (tickEdit_raise c _ _)
    have own : ((s.setUsage c { s.usage c with exhausted := true }).raise .timeUp).usage c
      = { s.usage c with exhausted := true } := usage_setUsage_same s c _
    have status : ((s.setUsage c { s.usage c with exhausted := true }).raise .timeUp).au.status &&& Cause.timeUp.bit
      = Cause.timeUp.bit := raised_bit _ _
    generalize (s.setUsage c { s.usage c with exhausted := true }).raise .timeUp = r at *
    have made := grantExtension_usage c r
    rw [own, raised.toTicking.grantChoice (by rw [own])] at made
    have edit := tickEdit_grantExtension c r
    generalize grantExtension c r = q at *
    have used : ({ s.usage c with exhausted := true }.extended (grantChoice s c)).exhausted = true := by
      cases grantChoice s c <;> rfl
    exact .inr ⟨fires.2, (raised.trans edit).trans (tickEdit_markDirty c q), made,
      (congrArg Usage.exhausted made).trans used, edit.status _ status, isDirty_markDirty_same q _⟩
  · rw [if_neg fires, if_neg fires]
    exact .inl ⟨rfl, rfl⟩

theorem tickEdit_exhaustionTest (c : Fin 7) (s : State) : TickEdit c s (exhaustionTest c s) := by
  rcases exhaustionTest_cases c s with ⟨same, -⟩ | ⟨-, edit, -⟩
  · rw [same]
    exact .refl c s
  · exact edit

theorem exhaustionTest_usage (c : Fin 7) (s : State) :
    (exhaustionTest c s).usage c = (s.usage c).exhaustedAt (s.remainingChild c) (grantChoice s c) := by
  rcases exhaustionTest_cases c s with ⟨same, unmoved⟩ | ⟨-, -, made, -⟩
  · rw [same, unmoved]
  · exact made

/-! ### One child's part (R135 part 2) -/

/-- The usage record of child `c`, standing as in `s`, was charged in `t`, with its marks, causes and warning. -/
structure ChildCharged (c : Fin 7) (s t : State) : Prop where
  usage : t.usage c
    = (s.usage c).charged (s.child c) s.weekendClass (profileWeight s c) (grantChoice s c)
  warns : (t.usage c).warned ≠ (s.usage c).warned →
    t.au.status &&& Cause.warn.bit = Cause.warn.bit ∧ inSet t.au.warned (childNumber c).val = true
  runsOut : (t.usage c).exhausted ≠ (s.usage c).exhausted →
    t.isDirty (.usage c) = true ∧ t.au.status &&& Cause.timeUp.bit = Cause.timeUp.bit
  unaltered : t.usage c = s.usage c → UsageStands c s t

theorem tickEdit_tickChild (c : Fin 7) (s : State) : TickEdit c s (tickChild c s) := by
  unfold tickChild
  split
  · exact ((tickEdit_setUsage c _ s).trans (tickEdit_warningTest c _)).trans (tickEdit_exhaustionTest c _)
  · exact .refl c s

theorem tickChild_invalid {c : Fin 7} {s : State} (invalid : (s.child c).valid = false) : tickChild c s = s :=
  if_neg (Bool.eq_false_iff.mp invalid)

/-- A record that the charge leaves alone was charged nothing. -/
theorem accrue_of_charged {u : Usage} {p : Profile} {weekend : Bool} {w : Nat} {k : Option Candidate}
    (same : u.charged p weekend w k = u) : accrue w u = u := by
  have made := usageCharged u p weekend w k
  rw [same] at made
  rw [accrue, ← made.acc, ← made.today, ← made.week]

/-- Neither test asks for, or changes, what the remaining time is reckoned from. -/
theorem remainingTime_warnedAt (p : Profile) (u : Usage) (weekend : Bool) (r : Option Nat) (bound : Nat) :
    remainingTime p (u.warnedAt r bound) weekend = remainingTime p u weekend := rfl

theorem exhaustedAt_warned (u : Usage) (r : Option Nat) (k : Option Candidate) :
    (u.exhaustedAt r k).warned = u.warned := by
  unfold Usage.exhaustedAt Usage.extended
  split
  · cases k <;> rfl
  · rfl

/-- A valid profile is charged; what it was charged, warned of and granted stands in its record (R135 to R141). -/
theorem childCharged_tickChild {c : Fin 7} {s : State} (valid : (s.child c).valid = true) :
    ChildCharged c s (tickChild c s) := by
  rw [tickChild, if_pos valid]
  have accrued := tickEdit_setUsage c (accrue (profileWeight s c) (s.usage c)) s
  have own := usage_setUsage_same s c (accrue (profileWeight s c) (s.usage c))
  have uncharged := setUsage_unaltered (s := s) (c := c) (u := accrue (profileWeight s c) (s.usage c))
  generalize s.setUsage c (accrue (profileWeight s c) (s.usage c)) = a at *
  have time : a.remainingChild c = remainingTime (s.child c) (accrue (profileWeight s c) (s.usage c)) s.weekendClass := by
    rw [State.remainingChild, child_of_pss _ _ accrued.pss, own, accrued.toTicking.weekendClass]
  have warning := warningTest_cases c a
  have tested := tickEdit_warningTest c a
  have told := warningTest_usage c a
  rw [own, time, child_of_pss _ _ accrued.pss] at told
  generalize warningTest c a = b at *
  have chosen : grantChoice b c = grantChoice s c := (accrued.trans tested).toTicking.grantChoice (by rw [told]; rfl)
  have time' : b.remainingChild c = a.remainingChild c := by
    rw [State.remainingChild, told, remainingTime_warnedAt, tested.toTicking.weekendClass,
      accrued.toTicking.weekendClass, child_of_pss _ _ tested.pss, child_of_pss _ _ accrued.pss, time]
  have exhaustion := exhaustionTest_cases c b
  have ended := tickEdit_exhaustionTest c b
  have made := exhaustionTest_usage c b
  generalize exhaustionTest c b = t at *
  have keepsWarned : (t.usage c).warned = (b.usage c).warned := by rw [made, exhaustedAt_warned]
  have usage : t.usage c = (s.usage c).charged (s.child c) s.weekendClass (profileWeight s c) (grantChoice s c) := by
    rw [made, told, time', time, chosen, Usage.charged]
  have warns : (t.usage c).warned = (s.usage c).warned ∧ b = a ∨ (s.usage c).warned = false ∧ (t.usage c).warned = true
      ∧ t.au.status &&& Cause.warn.bit = Cause.warn.bit ∧ inSet t.au.warned (childNumber c).val = true := by
    rcases warning with ⟨same, -⟩ | ⟨before, -, -, after, status, member⟩
    · refine .inl ⟨?_, same⟩
      rw [keepsWarned, same, own]
      rfl
    · refine .inr ⟨?_, keepsWarned.trans after, ended.status _ status, ended.warned _ member⟩
      rw [own] at before
      exact before
  have out : (t.usage c).exhausted = (s.usage c).exhausted ∧ t = b ∨ (s.usage c).exhausted = false
      ∧ (t.usage c).exhausted = true ∧ t.isDirty (.usage c) = true
      ∧ t.au.status &&& Cause.timeUp.bit = Cause.timeUp.bit := by
    rcases exhaustion with ⟨same, -⟩ | ⟨before, -, -, after, status, dirty⟩
    · refine .inl ⟨?_, same⟩
      rw [same, told]
      rfl
    · refine .inr ⟨?_, after, dirty, status⟩
      rw [told] at before
      exact before
  refine ⟨usage, fun changed => ?_, fun changed => ?_, fun same => ?_⟩
  · obtain ⟨kept, -⟩ | ⟨-, -, raised⟩ := warns
    · exact absurd kept changed
    · exact raised
  · obtain ⟨kept, -⟩ | ⟨-, -, raised⟩ := out
    · exact absurd kept changed
    · exact raised
  · have first : a = s := uncharged (accrue_of_charged (usage.symm.trans same))
    obtain ⟨-, second⟩ | ⟨before, after, -⟩ := warns
    · obtain ⟨-, third⟩ | ⟨before, after, -⟩ := out
      · rw [third, second, first]
        exact .refl c s
      · exact absurd (before.symm.trans ((congrArg Usage.exhausted same).symm.trans after)) Bool.false_ne_true
    · exact absurd (before.symm.trans ((congrArg Usage.warned same).symm.trans after)) Bool.false_ne_true

/-! ### Every child's part (R135 part 2) -/

/-- Where each child is visited once: what the others keep before, the child's own visit uses, and what the others keep after
stands. -/
theorem forChildren_once {P Q : State → Prop} (f : Fin 7 → State → State) (c : Fin 7)
    (before : ∀ d t, d ≠ c → P t → P (f d t)) (make : ∀ t, P t → Q (f c t)) (after : ∀ d t, d ≠ c → Q t → Q (f d t))
    {s : State} (holds : P s) : Q (forChildren f s) := by
  obtain ⟨l, r, split⟩ := List.mem_iff_append.mp (mem_childList c)
  have nodup : (l ++ c :: r).Nodup := split ▸ (by decide : childList.Nodup)
  obtain ⟨-, rest, disjoint⟩ := List.nodup_append'.mp nodup
  have earlier : ∀ d ∈ l, d ≠ c := fun d member same => disjoint (same ▸ member) List.mem_cons_self
  have later : ∀ d ∈ r, d ≠ c := fun d member same => (List.nodup_cons.mp rest).1 (same ▸ member)
  rw [forChildren, split, List.foldl_append, List.foldl_cons]
  have held := List.foldlRecOn l (fun t d => f d t) holds fun t kept d member => before d t (earlier d member) kept
  exact List.foldlRecOn r (fun t d => f d t) (make _ held) fun t kept d member => after d t (later d member) kept

theorem ChildCharged.before {c : Fin 7} {s t u : State} (h : ChildCharged c t u) (moved : Ticking s t)
    (stood : UsageStands c s t) : ChildCharged c s u where
  usage := by
    rw [h.usage, stood.usage, child_of_pss _ _ moved.pss, moved.weekendClass,
      profileWeight_congr moved.toOnlyViewing moved.sdu, moved.grantChoice (congrArg Usage.extUsed stood.usage)]
  warns changed := h.warns (stood.usage.symm ▸ changed)
  runsOut changed := h.runsOut (stood.usage.symm ▸ changed)
  unaltered same := stood.trans (h.unaltered (same.trans stood.usage.symm))

theorem ChildCharged.after {c : Fin 7} {s t u : State} (h : ChildCharged c s t) (grown : MarksGrow t u)
    (warned : ∀ p, inSet t.au.warned p = true → inSet u.au.warned p = true) (stands : UsageStands c t u) :
    ChildCharged c s u where
  usage := stands.usage.trans h.usage
  warns changed := by
    obtain ⟨status, member⟩ := h.warns (stands.usage ▸ changed)
    exact ⟨grown.status _ status, warned _ member⟩
  runsOut changed := by
    obtain ⟨dirty, status⟩ := h.runsOut (stands.usage ▸ changed)
    exact ⟨grown.dirty _ dirty, grown.status _ status⟩
  unaltered same := (h.unaltered (stands.usage.symm.trans same)).trans stands

/-- What the charging of every child leaves. -/
structure AllCharged (s t : State) : Prop extends Ticking s t where
  charged : ∀ c, (s.child c).valid = true → ChildCharged c s t
  invalid : ∀ c, (s.child c).valid = false → UsageStands c s t

theorem ticking_tickChildren (s : State) : Ticking s (forChildren tickChild s) :=
  forChildren_induct (P := Ticking s) tickChild (fun c t sofar => sofar.trans (tickEdit_tickChild c t).toTicking) s (.refl s)

theorem allCharged (s : State) : AllCharged s (forChildren tickChild s) := by
  have moved : ∀ c d t, d ≠ c → Ticking s t ∧ UsageStands c s t →
      Ticking s (tickChild d t) ∧ UsageStands c s (tickChild d t) := fun c d t other ⟨sofar, stood⟩ =>
    ⟨sofar.trans (tickEdit_tickChild d t).toTicking, stood.trans ((tickEdit_tickChild d t).others c other.symm)⟩
  refine ⟨ticking_tickChildren s, fun c valid => ?_, fun c invalid => ?_⟩
  · refine forChildren_once (P := fun t => Ticking s t ∧ UsageStands c s t) (Q := ChildCharged c s) tickChild c (moved c)
      (fun t ⟨sofar, stood⟩ => ?_) (fun d t other made => ?_) ⟨.refl s, .refl c s⟩
    · have same := child_of_pss _ _ sofar.pss c
      exact (childCharged_tickChild (same ▸ valid)).before sofar stood
    · have edit := tickEdit_tickChild d t
      exact made.after edit.toMarksGrow edit.warned (edit.others c other.symm)
  · refine (forChildren_once (P := fun t => Ticking s t ∧ UsageStands c s t) (Q := fun t => Ticking s t ∧ UsageStands c s t)
      tickChild c (moved c) (fun t kept => ?_) (moved c) ⟨.refl s, .refl c s⟩).2
    have same := child_of_pss _ _ kept.1.pss c
    rwa [tickChild_invalid (same ▸ invalid)]

end Sys2Proof.Machine
end

section
/-! PROOFS. What stands before the reports of an accounting tick: the rollover check, the charges, the frame counts and the
curfew states (R135 parts 1 to 4, R140, R147, R148). -/

namespace Sys2Proof.Machine

/-- What the rollover check leaves alone, whether or not there is a local time to check at (R148). -/
structure RolloverFrame (s t : State) : Prop extends OnlyRecords s t where
  curfew : t.vtu.curfew = s.vtu.curfew
  invalid : ∀ c, (s.child c).valid = false → t.usage c = s.usage c

theorem rolloverCheck_unset {s : State} (unset : s.localNow = none) : rolloverCheck s = s := by
  simp only [rolloverCheck, unset]

theorem rolloverFrame (s : State) : RolloverFrame s (rolloverCheck s) := by
  cases now : s.localNow with
  | none =>
    rw [rolloverCheck_unset now]
    exact ⟨.refl s, rfl, fun _ _ => rfl⟩
  | some l =>
    have checked := rolloverChecked now
    exact ⟨checked.toOnlyRecords, checked.curfew, fun c invalid =>
      (checked.usage c).trans (checkedUsage_kept (.inl invalid) _)⟩

theorem usageStands_of_blocks {s t : State} (usage : t.vtu.usage = s.vtu.usage) (sc : t.sc = s.sc) (c : Fin 7) :
    UsageStands c s t := by
  refine ⟨?_, ?_, isDirty_of_sc sc _⟩
  · rw [usage_of_records usage]
  · rw [sc]

theorem OnlySlots.grows {s t : State} (h : OnlySlots s t) : MarksGrow s t := by
  refine ⟨fun r dirty => (isDirty_of_sc h.sc r).trans dirty, fun b set => ?_, fun seen => by rwa [h.sc]⟩
  rcases h.status with same | raised
  · rwa [same]
  · rw [raised]
    exact and_or_of_and _ _ b set

theorem ChildCharged.reported {c : Fin 7} {s t u : State} (h : ChildCharged c s t) (only : OnlySlots t u) :
    ChildCharged c s u :=
  h.after only.grows (fun p => by rw [only.warned]; exact id)
    (usageStands_of_blocks (congrArg VTU.usage only.vtu) only.sc c)

theorem onlySlots_zeroFrames (s : State) : OnlySlots s (zeroFrames s) :=
  forSlots_induct (P := OnlySlots s) _ (fun i t sofar => sofar.trans (onlySlots_setSlot t i _)) s (.refl s)

/-- What an accounting tick has made of `r`, as the rollover check left it, when its reports begin. -/
structure TickMade (r t : State) : Prop extends OnlyViewing r t, MarksGrow r t where
  slot : ∀ i, t.slot i = { r.slot i with frames := 0 }
  acct : t.vtu.acct = r.vtu.acct
  charged : ∀ c, (r.child c).valid = true → ChildCharged c r t
  invalid : ∀ c, (r.child c).valid = false → UsageStands c r t
  minute : ∀ l, r.localNow = some l → l % 60 = 0 → ∀ c,
    t.curfewActive c = if (r.child c).valid then curfewCovers (r.child c).curfews l else r.curfewActive c
  noMinute : (∀ l, r.localNow = some l → l % 60 ≠ 0) → t.vtu.curfew = r.vtu.curfew

theorem State.atMinute_iff (s : State) : s.atMinute = true ↔ ∃ l, s.localNow = some l ∧ l % 60 = 0 := by
  rw [State.atMinute]
  cases s.localNow <;> simp

theorem OnlyViewing.localNow {s t : State} (h : OnlyViewing s t) : t.localNow = s.localNow := by
  rw [State.localNow, State.wallNow, h.clock, h.uptime, h.settings]
  rfl

theorem OnlyCurfews.grows {s t : State} (h : OnlyCurfews s t) : MarksGrow s t :=
  marksGrow_of_same (congrArg SC.dirty h.sc) h.au (congrArg SC.faultSeen h.sc)

theorem ChildCharged.recomputed {c : Fin 7} {s t u : State} (h : ChildCharged c s t) (only : OnlyCurfews t u) :
    ChildCharged c s u :=
  h.after only.grows (fun p => by rw [only.au]; exact id) (usageStands_of_blocks only.usage only.sc c)

/-- Recomputing the curfew states at a minute boundary alone (R147). -/
def curfewsAtMinute (s : State) : State := if s.atMinute then recomputeCurfews s else s

theorem onlyCurfews_curfewsAtMinute (s : State) : OnlyCurfews s (curfewsAtMinute s) := by
  unfold curfewsAtMinute
  split
  · exact onlyCurfews_recomputeCurfews s
  · exact .refl s

theorem tickBeforeReports_eq (s : State) :
    tickBeforeReports s = curfewsAtMinute (zeroFrames (forChildren tickChild (rolloverCheck s))) := rfl

theorem tickMade (s : State) : TickMade (rolloverCheck s) (tickBeforeReports s) := by
  rw [tickBeforeReports_eq]
  generalize rolloverCheck s = r
  have all := allCharged r
  generalize forChildren tickChild r = m at *
  have zeroed := onlySlots_zeroFrames m
  have slots := zeroFrames_slot m
  generalize zeroFrames m = z at *
  have only := onlyCurfews_curfewsAtMinute z
  have viewing : OnlyViewing r z := all.toOnlyViewing.trans zeroed.viewing
  have curfew : z.vtu.curfew = r.vtu.curfew := (congrArg VTU.curfew zeroed.vtu).trans all.curfew
  refine ⟨viewing.trans only.toOnlyViewing, (all.toMarksGrow.trans zeroed.grows).trans only.grows, fun i => ?_, ?_,
    fun c valid => ((all.charged c valid).reported zeroed).recomputed only, fun c invalid => ?_,
    fun l now minute c => ?_, fun between => ?_⟩
  · rw [slot_of_sdu _ _ only.sdu, slots, slot_of_sdu _ _ all.sdu]
  · rw [only.acct, zeroed.vtu, all.acct]
  · exact ((all.invalid c invalid).trans (usageStands_of_blocks (congrArg VTU.usage zeroed.vtu) zeroed.sc c)).trans
      (usageStands_of_blocks only.usage only.sc c)
  · rw [← viewing.localNow] at now
    rw [curfewsAtMinute, if_pos (z.atMinute_iff.mpr ⟨l, now, minute⟩), recomputeCurfews_curfew now,
      child_of_pss _ _ viewing.pss, curfewActive_of_curfew curfew]
  · have never : ¬ z.atMinute = true := fun at_minute => by
      obtain ⟨l, now, minute⟩ := z.atMinute_iff.mp at_minute
      exact between l (viewing.localNow.symm.trans now) minute
    rw [curfewsAtMinute, if_neg never, curfew]

end Sys2Proof.Machine
end

section
/-! PROOFS. The stored accounting day and week under every command: a check makes them later or leaves them, and nothing but
a part reset's load sets them otherwise (R131, R148, R150, R152, R192). -/

namespace Sys2Proof.Machine

/-- A known stored day and week stay known and move no way but forward. -/
def AcctRises (s t : State) : Prop :=
  ∀ a, s.vtu.acct = some a → ∃ b, t.vtu.acct = some b ∧ a.day ≤ b.day ∧ a.week ≤ b.week

section
variable {s t u : State}

theorem acctRises_of_acct (same : t.vtu.acct = s.vtu.acct) : AcctRises s t := fun a known =>
  ⟨a, same.trans known, Nat.le_refl _, Nat.le_refl _⟩

theorem acctRises_of_vtu (vtu : t.vtu = s.vtu) : AcctRises s t := acctRises_of_acct (congrArg VTU.acct vtu)

theorem AcctRises.refl (s : State) : AcctRises s s := acctRises_of_acct rfl

theorem AcctRises.trans (a : AcctRises s t) (b : AcctRises t u) : AcctRises s u := by
  intro x known
  obtain ⟨y, known', day, week⟩ := a x known
  obtain ⟨z, known'', day', week'⟩ := b y known'
  exact ⟨z, known'', day.trans day', week.trans week'⟩

theorem OnlySlots.acctRises (h : OnlySlots s t) : AcctRises s t := acctRises_of_vtu h.vtu

theorem OnlyCommit.acctRises (h : OnlyCommit s t) : AcctRises s t := acctRises_of_vtu h.vtu

theorem OnlyChannel.acctRises (h : OnlyChannel s t) : AcctRises s t := acctRises_of_vtu h.vtu

theorem OnlyChild.acctRises {c : Fin 7} (h : OnlyChild c s t) : AcctRises s t := acctRises_of_acct h.acct

/-- The rollover check takes a later day, or keeps the stored one, and a week no earlier (R148, R150). -/
theorem acctRises_of_checked {l : Nat} (checked : t.vtu.acct = checkedAcct s l) : AcctRises s t := by
  intro a known
  have check := checkedAcct_checked s l
  by_cases later : a.day < dayAt s l
  · exact ⟨_, checked.trans (check.moved a known later), Nat.le_of_lt later, Nat.le_max_left _ _⟩
  · exact ⟨a, checked.trans (check.kept a known (Nat.not_lt.mp later)), Nat.le_refl _, Nat.le_refl _⟩

end

/-! ### The Viewing Time Unit (R135, R148, R152) -/

theorem acctRises_rolloverCheck (s : State) : AcctRises s (rolloverCheck s) := by
  cases now : s.localNow with
  | none =>
    rw [rolloverCheck_unset now]
    exact .refl s
  | some l => exact acctRises_of_checked (rolloverChecked now).acct

theorem acctRises_tickBody (s : State) : AcctRises s (tickBody s) :=
  ((acctRises_rolloverCheck s).trans (acctRises_of_acct (tickMade s).acct)).trans (onlySlots_reportDiffering s _).acctRises

/-- The clock's setting makes the check at its own time, under its own zone offset (R152 step 4). -/
theorem acctRises_setClock (wall : Nat) (zone : Int) (s : State) : AcctRises s (setClock wall zone s) := by
  have made := (clockSet_made wall zone s).acct
  have only := onlySlots_setClock wall zone s
  generalize clockBeforeReports wall zone s = b at *
  exact acctRises_of_checked ((congrArg VTU.acct only.vtu).trans made)

/-! ### What a command's owner does -/

theorem acctRises_restoreUsage (c : Fin 7) (u : Usage) (s : State) :
    AcctRises s (restore c ((s.setUsage c u).markDirty (.usage c))) :=
  (onlyChild_regrant c u s).acctRises

theorem acctRises_storeServices (service : Nat) (table : List ServiceEntry) (s : State) :
    AcctRises s (storeServices service table s) := by
  refine acctRises_of_vtu ?_
  rw [storeServices, reportServiceEntry_vtu]
  rfl

theorem acctRises_applyInsert (e : Entry) (r : InsertResult) (s : State) : AcctRises s (applyInsert e r s) := by
  unfold applyInsert
  split
  · exact acctRises_of_vtu (onlySlots_reportServices _ _).vtu
  · exact .refl s
  · exact .refl s

theorem acctRises_changeWindows (wd : WD) (s : State) : AcctRises s (changeWindows wd s) :=
  acctRises_of_vtu (onlySlots_changeWindows wd s).vtu

/-- No record command's own effect but CLOCK_SET's touches the stored day and week. -/
theorem acctRises_handlerOf (i : Instr) (H : Handler) (h : handlerOf i = some H) (x : TakeCtx) (s : State) :
    AcctRises s (H.act x s).state := by
  cases i <;> simp only [handlerOf, Option.some.injEq, reduceCtorEq] at h <;> subst h
  case clockSet =>
    simp only [clockSet, Handler.free]
    repeat' split
    all_goals simp only [accept_state, refuse_state, AcctRises.refl, acctRises_setClock]
  case profileWrite | profileCurfew | profileSuspend | profileResume | profileRemove | allowanceGrant | usageReset =>
    simp only [profileWrite, profileCurfew, profileSuspend, profileResume, profileRemove, allowanceGrant, usageReset,
      Handler.gated]
    repeat' split
    all_goals simp only [accept_state, refuse_state, AcctRises.refl, acctRises_restoreUsage,
      (onlyChild_storeProfile _ _ s).acctRises, (onlyChild_storeCurfews _ _ s).acctRises,
      (onlyChild_setSuspended _ _ s).acctRises, (onlyChild_dropProfile _ s).acctRises]
  case serviceWrite | serviceRemove =>
    simp only [serviceWrite, serviceRemove, Handler.gated]
    repeat' split
    all_goals simp only [accept_state, refuse_state, AcctRises.refl, acctRises_storeServices]
  case eventNotice | eventWithdraw | serviceEventsClear =>
    simp only [eventNotice, eventWithdraw, serviceEventsClear, withdraw, Handler.free]
    repeat' split
    all_goals simp only [accept_state, refuse_state, AcctRises.refl, acctRises_applyInsert]
    all_goals exact acctRises_of_vtu (onlySlots_reportServices _ _).vtu
  case slotTune | slotBind | slotUnlock | slotRelock =>
    simp only [slotTune, tuneSlot, slotBind, slotUnlock, unlockSlot, slotRelock, relockSlot, Handler.free,
      Handler.gated]
    repeat' split
    all_goals simp only [accept_state, refuse_state, AcctRises.refl, (onlySlots_bindSlot _ _ s).acctRises,
      (onlySlots_reevaluateAs _ _ s).acctRises]
  case windowDefine | windowRemove =>
    simp only [windowDefine, windowRemove, Handler.free]
    repeat' split
    all_goals simp only [accept_state, refuse_state, AcctRises.refl, acctRises_changeWindows]
  case readEvent | ratingCheck | readProfile | readUsage | readSlot | readService | readCapture | readWindow =>
    simp only [readEvent, ratingCheck, readProfile, readUsage, readSlot, readService, readCapture, readWindow,
      Handler.free]
    repeat' split
    all_goals exact .refl s
  case attentionSet | attentionClear | captureClear | pinSet | settingsWrite | lanePermit | windowLock | fillTileWrite
      | ingestBegin | ingestAbort =>
    simp only [attentionSet, attentionClear, captureClear, pinSet, settingsWrite, lanePermit, windowLock, fillTileWrite,
      ingestBegin, ingestAbort, Handler.free, Handler.gated]
    repeat' split
    all_goals exact acctRises_of_vtu rfl

theorem keptByTaking_acctRises : KeptByTaking AcctRises where
  refl := .refl
  trans := AcctRises.trans
  acts := acctRises_handlerOf
  matched s := acctRises_of_vtu (setFailures_vtu s 0)
  failed s := acctRises_of_vtu (onlyCount_failCompare s).vtu
  replied _ _ _ _ _ _ _ _ := acctRises_of_vtu rfl
  advanced _ _ := acctRises_of_vtu rfl
  committed s := (onlyCommit_startCommit s).acctRises
  staged _ _ _ _ := acctRises_of_vtu rfl
  misplaced s _ _ _ _ := acctRises_of_vtu (report_vtu s _ _ _ _ _)

theorem keptBySeconds_acctRises : KeptBySeconds AcctRises where
  refl := .refl
  trans := AcctRises.trans
  slots := OnlySlots.acctRises
  lockout _ := acctRises_of_vtu rfl
  extension c s := (onlyChild_expireExtension c s).acctRises
  age c s := (onlyCommit_expireUsageAge c s).acctRises
  second _ := acctRises_of_acct rfl
  tick s := by
    have begun : AcctRises s { s with vtu.tickDue := false } := acctRises_of_acct rfl
    exact (begun.trans (acctRises_tickBody _)).trans (onlyCommit_startCommit _).acctRises

/-! ### The channel, the ingest and the store -/

theorem acctRises_present (l : Lines) (s : State) : AcctRises s (present l s) := by
  rcases present_tables l s with ⟨u, only, -, e⟩ | only
  · exact e ▸ only.acctRises.trans (keptByTaking_acctRises.resumeTaking u)
  · exact only.acctRises

theorem acctRises_lineReset (s : State) : AcctRises s (assertLine (if s.isReleased then resetChannel s else s)) := by
  split
  · have before : AcctRises s (resetBeforeFrames s) := by rw [resetBeforeFrames_eq]; exact acctRises_of_vtu rfl
    exact (before.trans (onlySlots_zeroFrames _).acctRises).trans (acctRises_of_vtu rfl)
  · exact acctRises_of_vtu rfl

theorem vtu_ingestDelivery (d : Delivery) (s : State) : (ingestDelivery d s).vtu = s.vtu := by
  cases running : s.prt.ingest with
  | none => simp only [ingestDelivery, running]
  | some g =>
    by_cases place : d.block - d.block % 32 = g.next <;> cases closes : d.closesIngest
    · rw [ingestDelivery_gathers d s g running place closes]
      rfl
    · rw [ingestDelivery_closing d s g running place closes]
      obtain ⟨table, hit, became⟩ := processRecord_became (eventCoreAt (s.gathered d).prt.stager 0) (s.gathered d)
      exact (advanced_advanceIngest _ _).frame.vtu.trans became.only.vtu
    · rw [ingestDelivery_ignored d s g running place closes]
    · rw [ingestDelivery_misplaced d s g running place closes]
      exact report_vtu s _ _ _ _ _

theorem BeatCase.acctRises {s t : State} (h : BeatCase s t) : AcctRises s t := by
  have last : ∀ out index, AcctRises s (lastBeat out index s) := fun out index =>
    (lineKept_lastBeat out index s).only.acctRises
  cases h with
  | unlisted out => exact acctRises_of_vtu rfl
  | counted out index b c => exact acctRises_of_vtu rfl
  | finished out index => exact last out index
  | toLane out index _ _ lane ring d => exact (last out index).trans (keptByTaking_acctRises.laneDelivery lane ring d _)
  | toIngest out index _ _ d => exact (last out index).trans (acctRises_of_vtu (vtu_ingestDelivery d _))

theorem acctRises_endStartup (order : List (Fin 4)) (s : State) : AcctRises s (endStartup order s) := by
  have running : AcctRises s { s with phase := .running, vtu.tickDue := false } := acctRises_of_acct rfl
  simp only [endStartup]
  split
  · exact acctRises_of_acct rfl
  · exact running.trans (keptByTaking_acctRises.takeAll order _)

/-- A factory clear that ends takes the values its owners hold already (R190). -/
theorem acctRises_afterWrite (s : State) : AcctRises s (afterWrite s) := by
  have reopened : AcctRises s { s with sc.writing := none, sc.failed := Vector.replicate 18 false } := acctRises_of_vtu rfl
  have ended : AcctRises s { s with sc.writing := none } := acctRises_of_vtu rfl
  simp only [afterWrite, continueClear, continueCommit]
  split
  · split
    · exact (onlyCommit_beginWrite _ s).acctRises
    · exact acctRises_of_vtu (finishLoad_vtu s)
  · split
    · exact ended.trans (onlyCommit_beginWrite _ _).acctRises
    · exact reopened.trans (onlyCommit_startCommit _).acctRises

theorem acctRises_completeWrite (s : State) : AcctRises s (completeWrite s) := by
  unfold completeWrite
  split <;> exact acctRises_of_vtu rfl

theorem acctRises_failWrite (s : State) : AcctRises s (failWrite s) := by
  unfold failWrite
  split <;> exact acctRises_of_vtu rfl

/-! ### Every run but a part reset's -/

theorem exec_acctRises (i : Instr) (s : State) (reset : i ≠ .partReset)
    (release : ∀ arr cb fclr, i ≠ .partResetRelease arr cb fclr) : ∃ t, exec i s = .next t ∧ AcctRises s t := by
  have timer : ∀ due act, (∀ t, AcctRises t (act t)) → AcctRises s (expiry due act s) := fun due act kept =>
    keptBySeconds_acctRises.expiry due act kept s
  have closes : ∀ j, AcctRises s (closeRecord j (handlerOf j) s) := fun j => by
    unfold closeRecord
    split
    · exact keptByTaking_acctRises.presentRecord j _ _ _ s
    · exact .refl s
  cases record : (handlerOf i).isSome with
  | true => exact ⟨_, exec_record i record s, closes i⟩
  | false =>
    cases i
    case bankOpen | readBurst | writeBurst | bankClose | closeAll | refresh | modeLoad =>
      exact ⟨_, rfl, acctRises_present _ s⟩
    case restEntry | idleEntry => exact ⟨_, rfl, (fallEnable_only _ s).acctRises⟩
    case restExit | idleExit => exact ⟨_, rfl, (riseEnable_only s).acctRises⟩
    case channelReset => exact ⟨_, rfl, acctRises_lineReset s⟩
    case dataBeat => exact ⟨_, rfl, (passBeat_case _ _ _ _ s).acctRises⟩
    case unknownCommand hd code =>
      refine ⟨_, rfl, ?_⟩
      split
      · exact closes (.unknownCommand hd code)
      · exact .refl s
    case lockoutExpiry => exact ⟨_, rfl, timer _ _ keptBySeconds_acctRises.lockout⟩
    case accountingTick => exact ⟨_, rfl, keptBySeconds_acctRises.accountingTick s⟩
    case extensionExpiry c => exact ⟨_, rfl, timer _ _ (keptBySeconds_acctRises.extension c)⟩
    case boundaryExpiry n | holdExpiry n => exact ⟨_, rfl, timer _ _ fun t => (onlySlots_reevaluateAs n _ t).acctRises⟩
    case unlockExpiry n => exact ⟨_, rfl, timer _ _ fun t => (onlySlots_expireUnlock n t).acctRises⟩
    case pendingCountdown n => exact ⟨_, rfl, timer _ _ fun t => (onlySlots_fallCountdown n t).acctRises⟩
    case countdownExpiry n => exact ⟨_, rfl, timer _ _ fun t => (onlySlots_applyPending n t).acctRises⟩
    case recordingLengthExpiry n => exact ⟨_, rfl, timer _ _ fun t => (onlySlots_setSlot t n _).acctRises⟩
    case usageAgeExpiry c => exact ⟨_, rfl, timer _ _ (keptBySeconds_acctRises.age c)⟩
    case storeWriteComplete =>
      refine ⟨_, rfl, ?_⟩
      split
      · exact (acctRises_completeWrite s).trans (acctRises_afterWrite _)
      · exact .refl s
    case storeWriteFail =>
      refine ⟨_, rfl, ?_⟩
      split
      · exact (acctRises_failWrite s).trans (acctRises_afterWrite _)
      · exact .refl s
    case partReset => exact absurd rfl reset
    case partResetRelease arr cb fclr => exact absurd rfl (release arr cb fclr)
    case startupEnd order =>
      refine ⟨_, rfl, ?_⟩
      split
      · exact acctRises_endStartup order s
      · exact .refl s
    case startupSecond =>
      refine ⟨_, rfl, ?_⟩
      split <;> exact acctRises_of_acct rfl
    all_goals exact absurd record.symm Bool.false_ne_true

end Sys2Proof.Machine
end

section
open Sys2Proof Sys2Proof.Machine

/-- Settles O59, by what each command's run does to the stored day and week: the rollover check of a tick or of a new clock
takes a later day and the later of two weeks, and every other command but the two of a part reset keeps them. -/
theorem accountingDayNeverFalls : Obligations.AccountingDayNeverFalls := by
  intro i s t a reset release known runs
  obtain ⟨u, became, rises⟩ := exec_acctRises i s reset release
  obtain rfl : u = t := Host.Outcome.next.inj (became.symm.trans runs)
  exact rises a known

end

section
/-! PROOFS. The extension grant's choice: the candidate of the slot that ends first, and of those the lowest (R141, R143). -/

namespace Sys2Proof.Machine

/-- A slot bound to the child and SHOWING gives a candidate exactly where its item ends at a known time (R141, R143). -/
theorem candidateOf_eq_some {s : State} {c : Fin 7} {x : Slot} {k : Candidate} : candidateOf s c x = some k
    ↔ x.bound = childNumber c ∧ x.enforcement = .showing ∧ EndsAt s x k := by
  unfold candidateOf EndsAt
  by_cases shows : x.bound = childNumber c ∧ x.enforcement = .showing
  · rw [if_pos shows, ← and_assoc, and_iff_right shows]
    cases x.item with
    | nothing => exact ⟨nofun, False.elim⟩
    | external input => exact ⟨nofun, False.elim⟩
    | live service =>
      simp only
      cases x.current.bind (entryOfKey s.prt.entries) <;> cases s.wallNow <;> simp [Entry.stop, eq_comm]
    | recording r =>
      obtain ⟨key, expiry, left⟩ := k
      cases remaining : r.remaining with
      | none => simp [remaining]
      | some n =>
        cases now : s.wallNow <;> simp [remaining, and_comm, and_assoc, eq_comm] <;> exact fun same _ => by rw [same]
  · rw [if_neg shows, ← and_assoc]
    exact ⟨nofun, fun ⟨shown, _⟩ => absurd shown shows⟩

/-- The candidate that slot `i` gives child `c` within the extension limit (R141). -/
def State.qualifier (s : State) (c : Fin 7) (i : Fin 4) : Option Candidate :=
  (candidateOf s c (s.slot i)).filter fun k => k.qualifies (s.child c).extLimit

theorem qualifier_eq_some {s : State} {c : Fin 7} {i : Fin 4} {k : Candidate} :
    s.qualifier c i = some k ↔ Qualifies s c i k := by
  rw [State.qualifier, Option.filter_eq_some_iff, candidateOf_eq_some, Candidate.qualifies, decide_eq_true_iff]
  exact ⟨fun ⟨⟨bound, showing, ends⟩, ahead, within⟩ => ⟨bound, showing, ends, ahead, within⟩,
    fun ⟨bound, showing, ends, ahead, within⟩ => ⟨⟨bound, showing, ends⟩, ahead, within⟩⟩

theorem candidates_eq (s : State) (c : Fin 7) : s.candidates c = slotList.filterMap (s.qualifier c) := by
  rw [State.candidates, List.filter_filterMap]
  rfl

theorem earliestCandidate_eq_none {l : List Candidate} (none : earliestCandidate l = none) : l = [] := by
  cases l with
  | nil => rfl
  | cons k rest =>
    rw [earliestCandidate] at none
    split at none
    · cases none
    · split at none <;> cases none

/-- Of candidates given in rising order of their places, the earliest end is chosen, then the lowest place (R141). -/
theorem earliestCandidate_first {f : Fin 4 → Option Candidate} (l : List (Fin 4)) {k : Candidate} :
    l.Pairwise (· < ·) → earliestCandidate (l.filterMap f) = some k →
      ∃ i ∈ l, f i = some k ∧ ∀ j ∈ l, ∀ m, f j = some m → k.left < m.left ∨ (k.left = m.left ∧ i ≤ j) := by
  induction l generalizing k with
  | nil => exact fun _ none => nomatch none
  | cons a rest ih =>
    intro rising chosen
    obtain ⟨lowest, rising⟩ := List.pairwise_cons.mp rising
    cases own : f a with
    | none =>
      rw [List.filterMap_cons_none own] at chosen
      obtain ⟨i, member, gives, first⟩ := ih rising chosen
      refine ⟨i, List.mem_cons_of_mem a member, gives, fun j here m given => ?_⟩
      obtain rfl | later := List.mem_cons.mp here
      · rw [own] at given
        cases given
      · exact first j later m given
    | some q =>
      rw [List.filterMap_cons_some own, earliestCandidate] at chosen
      cases best : earliestCandidate (rest.filterMap f) with
      | none =>
        rw [best] at chosen
        cases chosen
        have alone : ∀ j ∈ rest, f j = none := List.filterMap_eq_nil_iff.mp (earliestCandidate_eq_none best)
        refine ⟨a, List.mem_cons_self, own, fun j here m given => ?_⟩
        obtain rfl | later := List.mem_cons.mp here
        · rw [own] at given
          cases given
          exact .inr ⟨rfl, Nat.le_refl _⟩
        · rw [alone j later] at given
          cases given
      | some b =>
        obtain ⟨i, member, gives, first⟩ := ih rising best
        rw [best] at chosen
        dsimp only at chosen
        split at chosen
        next sooner =>
          cases chosen
          refine ⟨i, List.mem_cons_of_mem a member, gives, fun j here m given => ?_⟩
          obtain rfl | later := List.mem_cons.mp here
          · rw [own] at given
            cases given
            exact .inl sooner
          · exact first j later m given
        next noSooner =>
          cases chosen
          refine ⟨a, List.mem_cons_self, own, fun j here m given => ?_⟩
          obtain rfl | later := List.mem_cons.mp here
          · rw [own] at given
            cases given
            exact .inr ⟨rfl, Nat.le_refl _⟩
          · have below := lowest j later
            have ahead := first j later m given
            omega

/-- The candidates' order is that of the slots. -/
theorem slotList_rising : slotList.Pairwise (· < ·) := by decide

/-- The grant of a record that has none used today is the candidate of the slot chosen by R141. -/
theorem earliestCandidate_chosen {s : State} {c : Fin 7} {k : Candidate} (best : earliestCandidate (s.candidates c) = some k) :
    ∃ i, Qualifies s c i k ∧ ∀ j m, Qualifies s c j m → k.left < m.left ∨ (k.left = m.left ∧ i ≤ j) := by
  rw [candidates_eq] at best
  obtain ⟨i, -, gives, first⟩ := earliestCandidate_first slotList slotList_rising best
  exact ⟨i, qualifier_eq_some.mp gives, fun j m other => first j (mem_slotList j) m (qualifier_eq_some.mpr other)⟩

/-- The choice from `s`'s slots for a record `u` that stands in a state with the same slots. -/
theorem chosen_of_grantChoice {s r : State} {c : Fin 7} (candidates : r.candidates c = s.candidates c) {k : Candidate}
    (choice : grantChoice r c = some k) : ∃ i, Chosen s c (r.usage c) i k := by
  rw [grantChoice_eq, candidates] at choice
  split at choice
  next => cases choice
  next unused =>
    obtain ⟨i, qualifies, first⟩ := earliestCandidate_chosen choice
    exact ⟨i, qualifies, Bool.eq_false_iff.mpr unused, first⟩

theorem grantChoice_of_chosen {s r : State} {c : Fin 7} (candidates : r.candidates c = s.candidates c) {i : Fin 4}
    {k : Candidate} (chosen : Chosen s c (r.usage c) i k) : grantChoice r c = some k := by
  have own := qualifier_eq_some.mpr chosen.toQualifies
  rw [grantChoice_eq, candidates, chosen.unused, if_neg Bool.false_ne_true]
  cases best : earliestCandidate (s.candidates c) with
  | none =>
    have empty := earliestCandidate_eq_none best
    rw [candidates_eq, List.filterMap_eq_nil_iff] at empty
    rw [empty i (mem_slotList i)] at own
    cases own
  | some m =>
    obtain ⟨j, qualifies, first⟩ := earliestCandidate_chosen best
    have before := first i k chosen.toQualifies
    have after := chosen.first j m qualifies
    obtain rfl : j = i := by omega
    exact (qualifier_eq_some.mpr qualifies).symm.trans own

end Sys2Proof.Machine
end

section
/-! PROOFS. What the reports of an accounting tick make of a slot (R107 gates 4 and 5, R110, R115, R140). -/

namespace Sys2Proof.Machine

/-! ### A profile with time left (R107 gate 5) -/

theorem serviceGate_decision {t : List ServiceEntry} {p : Fin 8} {mode : ServiceMode} {service : Nat} {v : Verdict}
    (gate : serviceGate t p mode service = some v) : v.decision = .clear ∨ v.decision = .blocked .service := by
  unfold serviceGate at gate
  split at gate
  · split at gate
    · cases gate; exact .inr rfl
    · split at gate
      · cases gate; exact .inl rfl
      · split at gate <;> cases gate
        exact .inr rfl
  · split at gate <;> cases gate
    exact .inr rfl

theorem gates_timeLeft {s : State} {c : Fin 7} (left : (s.usage c).exhausted = false) {curfew : Bool} {item : Item}
    {key : Option ItemKey} {v : Verdict} (gate : gates s (childNumber c) curfew item key = some v) :
    v.decision ≠ .blocked .time := by
  simp only [gates, childOf_childNumber, left, Bool.false_and, Bool.false_eq_true, if_false] at gate
  split at gate
  · cases gate; exact nofun
  · split at gate
    · cases gate; exact nofun
    · obtain ⟨service, -, gate⟩ := Option.bind_eq_some_iff.mp gate
      rcases serviceGate_decision gate with clear | blocked
      · rw [clear]; exact nofun
      · rw [blocked]; exact nofun

theorem judgeRatings_ne_time (p : Profile) (ratings : List Rating) (flags : BitVec 8) (held : Bool) :
    (judgeRatings p ratings flags held).decision ≠ .blocked .time := by
  unfold judgeRatings
  repeat' split
  all_goals exact nofun

/-- TIME is the reason of an exhausted profile's slots alone (R107). -/
theorem judge_timeLeft {s : State} {c : Fin 7} (left : (s.usage c).exhausted = false) (curfew : Bool) (item : Item)
    (event : Option Entry) (held : Bool) : (judge s (childNumber c) curfew item event held).decision ≠ .blocked .time := by
  unfold judge
  split
  next v gate => exact gates_timeLeft left gate
  next => exact judgeRatings_ne_time _ _ _ _

theorem decideSlot_timeLeft {s : State} {c : Fin 7} (left : (s.usage c).exhausted = false) {x : Slot}
    (bound : x.bound = childNumber c) (event : Option Entry) : decideSlot s x event ≠ .blocked .time := by
  unfold decideSlot
  split
  · exact nofun
  all_goals
    simp only [bound]
    split
    · exact nofun
    · exact judge_timeLeft left _ _ _ _

theorem reevaluated_timeLeft {s : State} {c : Fin 7} (left : (s.usage c).exhausted = false) {x : Slot}
    (bound : x.bound = childNumber c) : (reevaluated s x).decision ≠ .blocked .time := by
  obtain ⟨y, event, decided, same⟩ : ∃ y event, (reevaluated s x).decision = decideSlot s y event ∧ y.bound = x.bound :=
    ⟨_, _, rfl, rfl⟩
  rw [decided]
  exact decideSlot_timeLeft left (same.trans bound) event

/-! ### A profile in curfew or out of time (R107 gates 4 and 5) -/

theorem reevaluated_curfew {s : State} {x : Slot} {c : Fin 7} (bound : x.bound = childNumber c)
    (presents : x.item ≠ .nothing) (curfew : s.curfewActive c = true) : (reevaluated s x).enforcement = .hiding := by
  cases suspended : (s.child c).suspended with
  | true => exact (reevaluated_suspended bound presents suspended).2
  | false =>
    have blocked : (reevaluated s x).decision = .blocked .curfew :=
      reevaluated_gated (v := { decision := .blocked .curfew, step := 4 }) bound presents
        (fun key => curfew ▸ gates_curfew s c x.item key suspended) rfl
    exact (reevaluated_hiding s x).mpr (blocked ▸ rfl)

/-- An exhausted profile's slot hides unless the extension covers its item (R107 gate 5, R142). -/
theorem reevaluated_uncovered {s : State} {x : Slot} {c : Fin 7} (bound : x.bound = childNumber c)
    (presents : x.item ≠ .nothing) (exhausted : (s.usage c).exhausted = true)
    (uncovered : (s.usage c).ext.map Extension.key ≠ itemKey (reevaluated s x).item (reevaluated s x).current) :
    (reevaluated s x).enforcement = .hiding := by
  by_contra shows
  exact uncovered (reevaluatedAt_inTime _ s x c bound exhausted presents shows)

/-! ### The reports (R115, R140) -/

theorem vtuDiffers_iff {s t : State} {c : Fin 7} : vtuDiffers s t c = true ↔ (s.usage c).exhausted ≠ (t.usage c).exhausted
    ∨ (s.usage c).ext ≠ (t.usage c).ext ∨ s.curfewActive c ≠ t.curfewActive c := decide_eq_true_iff

/-- The report of a child that differs, which touches no slot of another profile. -/
theorem reportIf_slot_other (differs : Bool) {d : Fin 7} {s : State} {i : Fin 4} (other : (s.slot i).bound ≠ childNumber d) :
    (if differs then reportProfile (childNumber d) s else s).slot i = s.slot i := by
  split
  · exact (slotsTouched_reportProfile (childNumber d) s i).2 (decide_eq_false other)
  · rfl

theorem onlySlots_reportIf (differs : Bool) (d : Fin 7) (s : State) :
    OnlySlots s (if differs then reportProfile (childNumber d) s else s) := by
  split
  · exact onlySlots_reportProfile _ s
  · exact .refl s

/-- A slot of a profile that differs is judged once, as the profile's new time, extension and curfew state have it. -/
theorem reportDiffering_judged {s t : State} {i : Fin 4} {c : Fin 7} (bound : (t.slot i).bound = childNumber c)
    (differs : vtuDiffers s t c = true) :
    ∃ v, OnlySlots t v ∧ (reportDiffering s t).slot i = reevaluated v (t.slot i) := by
  have apart : ∀ {d}, d ≠ c → (t.slot i).bound ≠ childNumber d := fun other same =>
    other (Fin.succ_injective 7 (same.symm.trans bound))
  refine forChildren_once (P := fun u => OnlySlots t u ∧ u.slot i = t.slot i)
    (Q := fun u => ∃ v, OnlySlots t v ∧ u.slot i = reevaluated v (t.slot i)) _ c
    (fun d u other ⟨only, same⟩ => ⟨only.trans (onlySlots_reportIf _ d u), ?_⟩) (fun u ⟨only, same⟩ => ?_)
    (fun d u other ⟨v, only, judged⟩ => ⟨v, only, ?_⟩) ⟨.refl t, rfl⟩
  · exact (reportIf_slot_other _ (same ▸ apart other)).trans same
  · obtain ⟨v, moved, became⟩ := reportProfile_slot (childNumber c) u i (same ▸ bound)
    refine ⟨v, only.trans moved, ?_⟩
    rw [if_pos differs, became, same]
  · obtain ⟨-, still, -⟩ := reevaluated_basis v (t.slot i)
    exact (reportIf_slot_other _ (by rw [judged, still]; exact apart other)).trans judged

theorem reportDiffering_kept {s t : State} {i : Fin 4}
    (agree : ∀ c, (t.slot i).bound = childNumber c → vtuDiffers s t c = false) :
    (reportDiffering s t).slot i = t.slot i := by
  refine forChildren_induct (P := fun u => u.slot i = t.slot i) _ (fun c u same => ?_) t rfl
  by_cases bound : (t.slot i).bound = childNumber c
  · rw [agree c bound]
    exact same
  · exact (reportIf_slot_other _ (same ▸ bound)).trans same

end Sys2Proof.Machine
end

section
/-! PROOFS. The accounting tick of a second already begun: its run, each child's part and each slot's (R135 to R141, R146 to
R148). -/

namespace Sys2Proof.Machine

/-! ### The tick's run (R135) -/

/-- The state the tick works on: the second's tick is taken. -/
def State.tickTaken (s : State) : State := { s with vtu.tickDue := false }

/-- The state the rollover check leaves the tick. -/
def State.rolled (s : State) : State := rolloverCheck s.tickTaken

/-- The state before the tick's reports. -/
def State.chargedUp (s : State) : State := tickBeforeReports s.tickTaken

/-- The state after the tick, its commit begun where one waits. -/
def State.ticked (s : State) : State := startCommit (reportDiffering s s.chargedUp)

theorem runs_accountingTick_due {s : State} (running : s.phase = .running) (due : s.vtu.tickDue = true) :
    Runs .accountingTick s s.ticked := by
  have runs : s.isRunning = true := decide_eq_true running
  have unfolds : accountingTick s = s.ticked := by
    simp only [accountingTick, runs, due, if_true]
    rfl
  exact congrArg Host.Outcome.next unfolds

theorem ticked_vtu (s : State) : s.ticked.vtu = s.chargedUp.vtu := by
  rw [State.ticked, startCommit_vtu, (onlySlots_reportDiffering s s.chargedUp).vtu]

theorem rolled_frame (s : State) : RolloverFrame s.tickTaken s.rolled := rolloverFrame s.tickTaken

theorem chargedUp_made (s : State) : TickMade s.rolled s.chargedUp := tickMade s.tickTaken

/-! ### A child's part (R137 to R141) -/

theorem weekendClass_congr {s t : State} (acct : t.vtu.acct = s.vtu.acct) (settings : t.sc.settings = s.sc.settings) :
    t.weekendClass = s.weekendClass := by
  rw [State.weekendClass, acct, settings]
  rfl

/-- A child's part, told in terms of what the tick found, once the tick's commit has begun. -/
theorem charged_startCommit {s r u : State} {c : Fin 7} (h : ChildCharged c r u) (child : r.child c = s.child c)
    (weight : profileWeight r c = profileWeight s c) (candidates : r.candidates c = s.candidates c)
    (pss : u.pss = r.pss) (weekend : u.weekendClass = r.weekendClass) :
    Charged s (startCommit u) c (r.usage c) := by
  have made := usageCharged (r.usage c) (r.child c) r.weekendClass (profileWeight r c) (grantChoice r c)
  have usage : (startCommit u).usage c = u.usage c := usage_of_vtu _ _ (startCommit_vtu u) c
  have time : remainingTime (r.child c) (u.usage c) r.weekendClass = (startCommit u).remainingChild c := by
    have sameClass := weekendClass_congr (congrArg VTU.acct (startCommit_vtu u)) (startCommit_settings u)
    rw [State.remainingChild, usage, sameClass, weekend, child_of_pss _ _ ((startCommit_pss u).trans pss)]
  rw [← h.usage, time, ← usage, weight, child] at made
  have warns := h.warns
  have runsOut := h.runsOut
  rw [← usage, ← startCommit_au] at warns runsOut
  refine ⟨made.acc, made.today, made.week, made.carry, made.bonus, made.weekBonus, made.warned, warns, made.exhausted,
    fun goesOn => made.goesOn (.inl goesOn), fun changed => ?_, fun _ unchosen => made.goesOn (.inr ?_),
    fun changed i k chosen => made.granted changed k (grantChoice_of_chosen candidates chosen)⟩
  · obtain ⟨dirty, status⟩ := runsOut changed
    exact ⟨writtenSoon_startCommit u _ dirty, status⟩
  · refine Option.eq_none_iff_forall_ne_some.mpr fun k choice => ?_
    obtain ⟨i, chosen⟩ := chosen_of_grantChoice candidates choice
    exact unchosen i k chosen

/-- A valid profile's part of the tick, on its record as the rollover check left it. -/
theorem ticked_charged {s : State} {c : Fin 7} (valid : (s.child c).valid = true) :
    Charged s s.ticked c (s.rolled.usage c) := by
  have frame := rolled_frame s
  have made := chargedUp_made s
  have only := onlySlots_reportDiffering s s.chargedUp
  have child : s.rolled.child c = s.child c := frame.child c
  have charged := (made.charged c (child.symm ▸ valid)).reported only
  refine charged_startCommit charged child (profileWeight_congr frame.toOnlyViewing frame.sdu c)
    (candidates_congr frame.toOnlyViewing frame.sdu c) (only.pss.trans made.pss) ?_
  exact weekendClass_congr ((congrArg VTU.acct only.vtu).trans made.acct) (only.viewing.settings.trans made.settings)

/-! ### A slot's part (R140) -/

theorem reportedAtTick_iff {s q t : State} {c : Fin 7} (vtu : t.vtu = q.vtu) :
    ReportedAtTick s t c ↔ vtuDiffers s q c = true := by
  rw [vtuDiffers_iff, ReportedAtTick, usage_of_vtu _ _ vtu, curfewActive_of_curfew (congrArg VTU.curfew vtu)]
  exact or_congr ne_comm (or_congr ne_comm ne_comm)

theorem slotTicked_reported {s q t : State} {i : Fin 4} (zeroed : q.slot i = { s.slot i with frames := 0 })
    (vtu : t.vtu = q.vtu) (slot : t.slot i = (reportDiffering s q).slot i) : SlotTicked s t i := by
  obtain ⟨item, bound, pending, picture, frames⟩ := slotBasis_reportDiffering s q i
  rw [← slot, zeroed] at item bound pending picture frames
  have judged : ∀ c, (s.slot i).bound = childNumber c → ReportedAtTick s t c →
      ∃ v, v.usage c = t.usage c ∧ v.curfewActive c = t.curfewActive c ∧ t.slot i = reevaluated v (q.slot i)
        ∧ (q.slot i).bound = childNumber c := fun c named reported => by
    have named : (q.slot i).bound = childNumber c := by rw [zeroed]; exact named
    obtain ⟨v, only, became⟩ := reportDiffering_judged named ((reportedAtTick_iff vtu).mp reported)
    have same : v.vtu = t.vtu := only.vtu.trans vtu.symm
    exact ⟨v, usage_of_vtu _ _ same c, curfewActive_of_curfew (congrArg VTU.curfew same) c, slot.trans became, named⟩
  refine ⟨frames, item, bound, pending, picture, fun agree => ?_, fun c named presents reported shut => ?_,
    fun c named reported left => ?_⟩
  · rw [slot, reportDiffering_kept fun c named => ?_, zeroed]
    rw [zeroed] at named
    exact Bool.eq_false_iff.mpr fun differs => agree c named ((reportedAtTick_iff vtu).mpr differs)
  · obtain ⟨v, usage, curfew, became, named⟩ := judged c named reported
    have presents : (q.slot i).item ≠ .nothing := by rw [zeroed]; exact presents
    rw [became] at shut ⊢
    rw [← usage, ← curfew] at shut
    obtain ⟨exhausted, uncovered⟩ | active := shut
    · exact reevaluated_uncovered named presents exhausted uncovered
    · exact reevaluated_curfew named presents active
  · obtain ⟨v, usage, -, became, named⟩ := judged c named reported
    rw [became]
    exact reevaluated_timeLeft ((congrArg Usage.exhausted usage).trans left) named

theorem ticked_slot (s : State) (i : Fin 4) : SlotTicked s s.ticked i := by
  refine slotTicked_reported (q := s.chargedUp) ?_ (ticked_vtu s) (slot_of_sdu _ _ (startCommit_sdu _) i)
  have same : s.rolled.slot i = s.slot i := slot_of_sdu _ _ (rolled_frame s).sdu i
  rw [(chargedUp_made s).slot, same]

/-! ### The tick -/

theorem ticked_ticked (s : State) : Ticked s s.ticked := by
  have frame := rolled_frame s
  have made := chargedUp_made s
  have only := onlySlots_reportDiffering s s.chargedUp
  have commit := onlyCommit_startCommit (reportDiffering s s.chargedUp)
  have moved : OnlyViewing s.tickTaken (reportDiffering s s.chargedUp) :=
    (frame.toOnlyViewing.trans made.toOnlyViewing).trans only.viewing
  have vtu := ticked_vtu s
  have now : s.rolled.localNow = s.localNow := frame.localNow
  have child : ∀ c, s.rolled.child c = s.child c := frame.child
  have curfew : ∀ c, s.ticked.curfewActive c = s.chargedUp.curfewActive c :=
    curfewActive_of_curfew (congrArg VTU.curfew vtu)
  refine {
    tickDue := (congrArg VTU.tickDue commit.vtu).trans moved.tickDue
    uptime := (congrArg VTU.uptime commit.vtu).trans moved.uptime
    clock := (congrArg VTU.clock commit.vtu).trans moved.clock
    minute := fun l at_l minute c valid => ?minute
    noMinute := fun between => ?noMinute
    invalid := fun c invalid => ?invalid
    slots := ticked_slot s
    traffic := ⟨commit.ct.trans moved.ct, commit.wd.trans moved.wd, commit.prt.trans moved.prt⟩
    lc := commit.lc.trans moved.lc
    pss := commit.pss.trans moved.pss
    settings := commit.settings.trans moved.settings
    phase := commit.phase.trans moved.phase
    pending := commit.pending.trans moved.pending
    enable := (congrArg AU.enable commit.au).trans moved.enable
    capture := (congrArg AU.capture commit.au).trans moved.capture }
  case minute =>
    rw [curfew, made.minute l (now.trans at_l) minute, child, if_pos valid]
  case noMinute =>
    rw [vtu, made.noMinute fun l at_l => between l (now.symm.trans at_l)]
    exact frame.curfew
  case invalid =>
    have invalid : (s.rolled.child c).valid = false := (congrArg Profile.valid (child c)).trans invalid
    have usage : s.ticked.usage c = s.usage c :=
      ((usage_of_vtu _ _ vtu c).trans (made.invalid c invalid).usage).trans (frame.invalid c (child c ▸ invalid))
    have held : s.rolled.curfewActive c = s.curfewActive c := curfewActive_of_curfew frame.curfew c
    refine ⟨usage, (curfew c).trans (Eq.trans ?_ held)⟩
    by_cases minute : ∃ l, s.rolled.localNow = some l ∧ l % 60 = 0
    · obtain ⟨l, at_l, minute⟩ := minute
      rw [made.minute l at_l minute, invalid, if_neg Bool.false_ne_true]
    · exact curfewActive_of_curfew (made.noMinute fun l at_l at_minute => minute ⟨l, at_l, at_minute⟩) c

end Sys2Proof.Machine
end

section
/-! PROOFS. What the tick's rollover check finds and leaves: no later day, or a rollover (R148 to R150, R192; log 19). -/

namespace Sys2Proof.Machine

theorem ticked_acct (s : State) : s.ticked.vtu.acct = s.rolled.vtu.acct :=
  (congrArg VTU.acct (ticked_vtu s)).trans (chargedUp_made s).acct

/-- The tick's check, told of the state the tick found: taking the tick moves nothing the check reads. -/
theorem rolled_checked {s : State} {l : Nat} (now : s.localNow = some l) : RolloverChecked s.tickTaken l s.rolled :=
  rolloverChecked (s := s.tickTaken) now

theorem ticked_checked {s : State} {l : Nat} (now : s.localNow = some l) : Checked s l s.ticked.vtu.acct := by
  rw [ticked_acct, (rolled_checked now).acct]
  exact checkedAcct_checked s l

/-- Where no later day is found the check leaves the records and their marks alone (R148; log 19). -/
theorem rolled_stands {s : State} (idle : ∀ l, s.localNow = some l → ¬ RollsOver s l) (c : Fin 7) :
    UsageStands c s s.rolled := by
  cases now : s.localNow with
  | none =>
    have same : s.rolled = s.tickTaken := rolloverCheck_unset now
    rw [same]
    exact ⟨rfl, rfl, rfl⟩
  | some l =>
    have checked := rolled_checked now
    have sc : s.rolled.sc = s.sc := checked.idle (idle l now)
    refine ⟨(checked.usage c).trans (checkedUsage_idle (s := s.tickTaken) (idle l now) _ _), ?_, isDirty_of_sc sc _⟩
    rw [sc]

/-- A record that the tick leaves as the rollover check left it gains no mark from it (R184, R185; log 19). -/
theorem ticked_unmarked {s : State} {c : Fin 7} (same : s.ticked.usage c = s.rolled.usage c) :
    Unmarked s.rolled s.ticked c := by
  have made := chargedUp_made s
  have charged : s.chargedUp.usage c = s.rolled.usage c := (usage_of_vtu _ _ (ticked_vtu s) c).symm.trans same
  have stands : UsageStands c s.rolled s.chargedUp := by
    cases valid : (s.rolled.child c).valid with
    | true => exact (made.charged c valid).unaltered charged
    | false => exact made.invalid c valid
  have only := onlySlots_reportDiffering s s.chargedUp
  obtain ⟨changed, dirty⟩ := startCommit_marks (reportDiffering s s.chargedUp) c
  rw [only.sc, stands.changed] at changed
  rw [isDirty_of_sc only.sc, stands.dirty] at dirty
  exact ⟨changed, dirty⟩

/-- What the rollover check marked is written soon. -/
theorem ticked_writtenSoon {s : State} {r : RecordId} (dirty : s.rolled.isDirty r = true) : WrittenSoon s.ticked r :=
  writtenSoon_startCommit _ r
    ((onlySlots_reportDiffering s s.chargedUp).grows.dirty r ((chargedUp_made s).dirty r dirty))

end Sys2Proof.Machine
end

section
open Sys2Proof Sys2Proof.Machine

/-- Settles O40: with no later day the rollover check leaves the records as they stood, so that each child's part of the tick
charges them; the reports then judge once each slot of a profile that differs. -/
theorem tickCharges : Obligations.TickCharges := by
  intro s running due idle
  have stands := rolled_stands idle
  refine ⟨s.ticked, runs_accountingTick_due running due, ticked_ticked s, fun unset => ?_, fun l now => ticked_checked now,
    fun c valid => ?_, fun c same => ?_⟩
  · have same : s.rolled = s.tickTaken := rolloverCheck_unset unset
    rw [ticked_acct, same]
    rfl
  · rw [← (stands c).usage]
    exact ticked_charged valid
  · obtain ⟨changed, dirty⟩ := ticked_unmarked (same.trans (stands c).usage.symm)
    rw [(stands c).changed] at changed
    rw [(stands c).dirty] at dirty
    exact ⟨changed, dirty⟩

/-- Settles O41: a later day rolls every record over and marks it, and the tick's part of each child charges the record as
rolled over. -/
theorem dayRollsAtTick : Obligations.DayRollsAtTick := by
  intro s l a running due now known later
  have checked := rolled_checked now
  refine ⟨s.ticked, runs_accountingTick_due running due, ticked_ticked s, ticked_checked now,
    fun c => ticked_writtenSoon (checked.dirty ⟨a, known, later⟩ c), fun c valid => ⟨_, ?_, ticked_charged valid⟩⟩
  have rolled : s.rolled.usage c = rolledTo s l a (s.child c) (s.usage c) :=
    (checked.usage c).trans (checkedUsage_rolls (s := s.tickTaken) known later _ _)
  rw [rolled]
  exact rolledTo_rolledOver valid l a (s.usage c).ext

end
